-- ==== Sys2Proof/Word.lean ====
section
/-! DEFINITION. The words the manual counts in: local time, reference values, bytes, and the numbers that name slots,
ports, inputs and leases. -/

namespace Sys2Proof

/-- A local time: the 48-bit count of R1, or a duration taken modulo 2^48. -/
abbrev LocalTime := BitVec 48

/-- A reference value: the 40-bit program-clock count of R6. -/
abbrev RefValue := BitVec 40

/-- One byte of a frame. -/
abbrev Byte := BitVec 8

/-- The 16-bit tag of a sample frame (R58). -/
abbrev StreamTag := BitVec 16

/-- The number of one of the 256 slots of the Record Table (R13). -/
abbrev SlotNo := Fin 256

/-- The number of one of the four query ports (R100). -/
abbrev PortNo := Fin 4

/-- The number of one of the four reference inputs (R56). -/
abbrev InputNo := Fin 4

/-- A lease number: the index of a Lease Table entry (R156). -/
abbrev LeaseNo := Fin 16

end Sys2Proof
end

