-- ==== Sys2Proof/Syntax.lean ====
section
/-! DEFINITION. The commands of the part: one constructor for each row of spec/opcode_table.json. Each is one whole,
indivisible step. Operands are what the pins or the order of events decide; whatever the part's own state decides (which
port is granted, which request is in progress, which list entry is the head) is read from the state: DESIGN CHOICE, safe, log entry 10. -/

namespace Sys2Proof

/-- The steps of the part, in the table's order. -/
inductive Instr where
  /-- LCLK_TICK: a rising edge of LCLK (R1). -/
  | lclkTick
  /-- HARD_RESET: RST_N goes low, or the part powers up (R38). -/
  | hardReset
  /-- RESET_RELEASE: RST_N returns high while the frame strobes SFSn (bit n of `sfs`), the query chip selects QCSn_N
  (bit n of `qcs`) and the management chip select MCS_N are asserted where the operand says so (R56, R101, R174). -/
  | resetRelease (sfs qcs : BitVec 4) (mcs : Bool)
  /-- FRAME_START: assertion of SFSn (R56). -/
  | frameStart (n : InputNo)
  /-- RECEIVER_UNBLOCK: deassertion of SFSn on a BLOCKED receiver (R56). -/
  | receiverUnblock (n : InputNo)
  /-- FRAME_END: deassertion of SFSn on an ASSEMBLING receiver (R57). -/
  | frameEnd (n : InputNo)
  /-- SAMPLE_TAKE: the Estimator takes the next held sample (R63, R74). -/
  | sampleTake
  /-- SILENCE_EXPIRY: the silence deadline of the record in `slot` (R89). -/
  | silenceExpiry (slot : SlotNo)
  /-- HOLDOVER_EXPIRY: the holdover deadline of the record in `slot` (R91). -/
  | holdoverExpiry (slot : SlotNo)
  /-- UPDATE_NOTICE: the Deadline Unit takes the update pending mark of the record in `slot` (R146). -/
  | updateNotice (slot : SlotNo)
  /-- WAKE_EXPIRY: the head of the Deadline List, a WAKE, is taken by expiry (R143). -/
  | wakeExpiry
  /-- SPLICE_EXPIRY: the head of the Deadline List, a SPLICE, is taken by expiry (R144). -/
  | spliceExpiry
  /-- DRAIN_EXPIRY: the drain deadline of the record in `slot` (R33). -/
  | drainExpiry (slot : SlotNo)
  /-- QUERY_SELECT: assertion of QCSn_N (R102). -/
  | querySelect (n : PortNo)
  /-- QUERY_FETCH_SELECT: the rising edge of QSCKn that completes a FETCH kind byte (R110). -/
  | queryFetchSelect (n : PortNo)
  /-- QUERY_REQUEST_END: deassertion of QCSn_N in a transaction that is not a FETCH (R103, R104). -/
  | queryRequestEnd (n : PortNo)
  /-- QUERY_FETCH_END: deassertion of QCSn_N in a FETCH (R111). -/
  | queryFetchEnd (n : PortNo)
  /-- QUERY_PORT_UNBLOCK: deassertion of QCSn_N on a BLOCKED port (R101). -/
  | queryPortUnblock (n : PortNo)
  /-- CONVERT: the Query Engine evaluates the granted CONVERT (R125). -/
  | convert
  /-- INVERT: the Query Engine evaluates the granted INVERT (R127). -/
  | invert
  /-- STATUS: the Query Engine evaluates the granted STATUS (R129). -/
  | status
  /-- DUE: the Query Engine evaluates the granted DUE (R131). -/
  | due
  /-- WAKE: the Query Engine evaluates the granted WAKE (R139). -/
  | wake
  /-- LEASE: the Query Engine evaluates the granted LEASE (R157). -/
  | lease
  /-- RELEASE: the Query Engine evaluates the granted RELEASE (R160). -/
  | release
  /-- CANCEL: the Query Engine evaluates the granted CANCEL (R148). -/
  | cancel
  /-- RETARGET: the Query Engine evaluates the granted RETARGET (R164). -/
  | retarget
  /-- SPLICE: the Query Engine evaluates the granted SPLICE (R166). -/
  | splice
  /-- UNSPLICE: the Query Engine evaluates the granted UNSPLICE (R170). -/
  | unsplice
  /-- MGMT_SELECT: assertion of MCS_N (R176). -/
  | mgmtSelect
  /-- MGMT_FETCH_SELECT: the rising edge of MSCK that completes a FETCH kind byte (R180). -/
  | mgmtFetchSelect
  /-- MGMT_REQUEST_END: deassertion of MCS_N in a transaction that is not a FETCH (R177). -/
  | mgmtRequestEnd
  /-- MGMT_FETCH_END: deassertion of MCS_N in a FETCH (R180). -/
  | mgmtFetchEnd
  /-- MGMT_PORT_UNBLOCK: deassertion of MCS_N on the BLOCKED management port (R175). -/
  | mgmtPortUnblock
  /-- CREATE_CLOCK: the owner's event for the CREATE-CLOCK in progress (R23). -/
  | createClock
  /-- CREATE_ALIAS: the owner's event for the CREATE-ALIAS in progress (R24). -/
  | createAlias
  /-- CONFIGURE: the owner's event for the CONFIGURE in progress (R26). -/
  | configure
  /-- ENABLE: the owner's event for the ENABLE in progress (R25). -/
  | enable
  /-- RETIRE: the owner's event for the RETIRE in progress (R29). -/
  | retire
  /-- READ_RECORD: the owner's event for the READ-RECORD in progress (R37). -/
  | readRecord
  /-- BIND: the owner's event for the BIND in progress (R66). -/
  | bind
  /-- UNBIND: the owner's event for the UNBIND in progress (R68). -/
  | unbind
  /-- SET_INPUT_OFFSET: the owner's event for the SET-INPUT-OFFSET in progress (R60). -/
  | setInputOffset
  /-- SET_ANCHOR: the owner's event for the SET-ANCHOR in progress (R95). -/
  | setAnchor
  /-- SELECT_SOURCE: the owner's event for the SELECT-SOURCE in progress (R96). -/
  | selectSource
  /-- SET_PORT_LEVEL: the owner's event for the SET-PORT-LEVEL in progress (R114). -/
  | setPortLevel
  /-- PORT_RESET: the owner's event for the PORT-RESET in progress (R116). -/
  | portReset
  /-- READ_PORT: the owner's event for the READ-PORT in progress (R115). -/
  | readPort
  /-- MGMT_RETARGET: the owner's event for the management RETARGET in progress (R165). -/
  | mgmtRetarget
  /-- MGMT_SPLICE: the owner's event for the management SPLICE in progress (R166). -/
  | mgmtSplice
  /-- MGMT_UNSPLICE: the owner's event for the management UNSPLICE in progress (R170). -/
  | mgmtUnsplice
  /-- READ_IDENTITY: the management port answers READ-IDENTITY (R181). -/
  | readIdentity
  /-- READ_TIME: the management port answers READ-TIME (R181). -/
  | readTime
  /-- SET_MASK: the attention logic answers SET-MASK (R183). -/
  | setMask
  /-- NEXT_NOTICE: the attention logic answers NEXT-NOTICE (R185). -/
  | nextNotice
  /-- PURGE: every owner takes its part of the PURGE in progress (R187). -/
  | purge
  /-- INPUT_BIT_SAMPLED: a rising edge of SCKn with `bit` on SDATn (R56). -/
  | inputBitSampled (n : InputNo) (bit : Bool)
  /-- QUERY_BIT_SAMPLED: a rising edge of QSCKn with `bit` on QSDIn (R101). -/
  | queryBitSampled (n : PortNo) (bit : Bool)
  /-- MGMT_BIT_SAMPLED: a rising edge of MSCK with `bit` on MSDI (R175). -/
  | mgmtBitSampled (bit : Bool)
  deriving DecidableEq, Repr

end Sys2Proof
end

