-- ==== Sys2Proof/WellFormed.lean ====
section
/-! DEFINITION. Which commands name something the part has. Port, input and slot numbers are in range by their types;
what is left to check is that an expiry or a mark names a slot that can hold a record. -/

namespace Sys2Proof

/-- The slot an expiry or an update notice names. -/
def Instr.slot? : Instr → Option SlotNo
  | .silenceExpiry n | .holdoverExpiry n | .updateNotice n | .drainExpiry n => some n
  | .lclkTick | .hardReset | .resetRelease .. | .frameStart .. | .receiverUnblock .. | .frameEnd .. | .sampleTake
  | .wakeExpiry | .spliceExpiry | .querySelect .. | .queryFetchSelect .. | .queryRequestEnd .. | .queryFetchEnd ..
  | .queryPortUnblock .. | .convert | .invert | .status | .due | .wake | .lease | .release | .cancel | .retarget
  | .splice | .unsplice | .mgmtSelect | .mgmtFetchSelect | .mgmtRequestEnd | .mgmtFetchEnd | .mgmtPortUnblock
  | .createClock | .createAlias | .configure | .enable | .retire | .readRecord | .bind | .unbind | .setInputOffset
  | .setAnchor | .selectSource | .setPortLevel | .portReset | .readPort | .mgmtRetarget | .mgmtSplice
  | .mgmtUnsplice | .readIdentity | .readTime | .setMask | .nextNotice | .purge | .inputBitSampled ..
  | .queryBitSampled .. | .mgmtBitSampled .. => none

/-- Slot 0 is the null slot and carries no record (R13), so no expiry or update notice names it. -/
def Instr.wellFormed (i : Instr) : Bool := i.slot? ≠ some 0

end Sys2Proof
end

