-- ==== Sys2Proof/Decode.lean ====
section
/-! DEFINITION. Commands spelt by words. spec/opcode_table.json gives no row any bits: the part's steps are edges and
internal events, not words, and the bytes of requests are read by Machine/Operands.lean. -/

namespace Sys2Proof

/-- The command a word of the table's bits spells: none, for no row of the table has bits. -/
def decodeTableWord (_nbits _w : Nat) : Option Instr := none

end Sys2Proof
end

