-- ==== Sys2Proof/Config.lean ====
section
/-! DEFINITION. What the part fixes once: its capacities and conversion factors, and the one value the manual leaves
open. -/

namespace Sys2Proof.Config

/-- Ticks in one device millisecond (R5). -/
def ticksPerMs : Nat := 25000

/-- The conversion span: the largest distance from the anchor at which projection and inverse are given (R9). -/
def span : Nat := 2 ^ 36

/-- The largest magnitude of the rate trim (R7). -/
def trimLimit : Int := 1048576

/-- Entries the Binding Map holds (R65). -/
def bindingCapacity : Nat := 64

/-- Entries the Deadline List holds (R137). -/
def deadlineCapacity : Nat := 48

/-- Credits of each query port (R100, R105). -/
def portCredits : Nat := 8

/-- Lease uses allowed to each query port (R112). -/
def leaseUseLimit : Nat := 4

/-- Bits of a well-formed sample frame, and so the bits a frame receiver keeps (R56, R57). -/
def sampleFrameBits : Nat := 72

/-- Bits of the longest query request frame, SPLICE, 13 bytes (R192). -/
def queryFrameBits : Nat := 104

/-- Bits of the longest management request frame, CONFIGURE with 14 changes, 74 bytes (R194). -/
def mgmtFrameBits : Nat := 592

/-- What the data-out pin of query port 0 to 3, or of the management port (4), shows while RST_N is low and its chip select
is asserted: some level, or none for high impedance. R101 and R175 give high impedance while the select is deasserted; with
the select asserted they give the pin's level by the transaction, and no transaction is taken while RST_N is low (R100, R174),
so that value is left free: DESIGN CHOICE, safe, log entry 4. -/
opaque dataOutInReset : Fin 5 → Option Bool

end Sys2Proof.Config
end

