-- ==== Sys2Proof/Machine/State.lean ====
section
/-! DEFINITION. The state of the part, as plain data, and the state right after reset. -/

namespace Sys2Proof.Machine

/-! ## Names and numbers -/

/-- A handle: slot number in the high byte, generation in the low byte (R14). -/
structure Handle where
  slot : SlotNo
  gen : BitVec 8
  deriving DecidableEq, Repr

/-- The lifecycle of a slot (R13). -/
inductive Lifecycle where
  | free | reserved | live | draining | retired
  deriving DecidableEq, Repr

/-- The kind of a record (R13): CLOCK or ALIAS. -/
inductive RecordKind where
  | clockKind | aliasKind
  deriving DecidableEq, Repr

/-- The lock state of a CLOCK record (R18). -/
inductive LockState where
  | unset | acquiring | locked | holdover | stale
  deriving DecidableEq, Repr

/-- The role of a binding (R65). -/
inductive Role where
  | primary | standby
  deriving DecidableEq, Repr

/-- A kind of use (R45). -/
inductive UseKind where
  | convert | due | wake | lease
  deriving DecidableEq, Repr

/-- A use set: any subset of the four kinds (R17). -/
structure UseSet where
  convert : Bool
  due : Bool
  wake : Bool
  lease : Bool
  deriving DecidableEq, Repr

/-- What a record does with a JUMP sample (R17). -/
inductive JumpPolicy where
  | reanchor | reject
  deriving DecidableEq, Repr

/-- The fourteen notice kinds (R182). -/
inductive NoticeKind where
  | badFrame | unboundTag | overrun | lockGained | lockLost | holdover | stale | jump | breakSeen | sourceSwitch
  | spliceDone | spliceCancelled | revoked | drained
  deriving DecidableEq, Repr

/-- A notice set in the 16-bit layout of R189; bits 15 and 14 are unused. -/
abbrev NoticeSet := BitVec 16

/-- The status codes (R54). -/
inductive Status where
  | ok | nullHandle | staleHandle | notLive | draining | level | use | wrongKind | noTimebase | outOfRange | tooEarly
  | listFull | leaseLimit | notFound | busy | inUse | tableFull | mapFull | duplicateKey | roleTaken | badValue
  deriving DecidableEq, Repr

/-- The outcomes of completions (R55), but for REVOKED, which has an entry of its own class. -/
inductive Ending where
  | due | tooLate | cancelled | discontinuity | jumped | noTimebase | retired | done | aliasRetired
  deriving DecidableEq, Repr

/-! ## The Record Table -/

/-- The configuration fields of a CLOCK record (R17). -/
structure ClockConfig where
  level : Nat
  useSet : UseSet
  lockWindow : Nat
  jumpLimit : Nat
  jumpPolicy : JumpPolicy
  rejectLimit : Nat
  enterCount : Nat
  leaveCount : Nat
  gainShift : Nat
  silenceMs : Nat
  holdoverMs : Nat
  farEarly : Nat
  lateTolerance : Nat
  drainMs : Nat
  deriving DecidableEq, Repr

/-- The anchor: a local time and the program time associated with it (R8). -/
structure Anchor where
  lt : LocalTime
  rv : RefValue
  deriving DecidableEq, Repr

/-- A deadline and the local time it was formed from: silence start and deadline, or holdover entry LT and deadline
(R18). The two are present together. -/
structure Timer where
  start : LocalTime
  deadline : LocalTime
  deriving DecidableEq, Repr

/-- A CLOCK record: its configuration and dynamic fields (R17, R18) and the Estimator's update pending mark for it
(R93). The drain deadline of R18 stands in `Phase.draining`. -/
structure ClockRecord where
  cfg : ClockConfig
  lock : LockState
  anchor : Option Anchor
  trim : Int
  lastError : Option Int
  inCount : Nat
  outCount : Nat
  rejectRun : Nat
  active : Option Role
  heardPrimary : Option LocalTime
  heardStandby : Option LocalTime
  silence : Option Timer
  holdover : Option Timer
  leaseCount : Nat
  aliasCount : Nat
  wakeCount : Nat
  updatePending : Bool
  deriving DecidableEq, Repr

/-- An ALIAS record (R19). The pending splice refers to its SPLICE entry by the entry's place in arming order. The drain
deadline stands in `Phase.draining`. -/
structure AliasRecord where
  level : Nat
  useSet : UseSet
  target : Handle
  pendingSplice : Option Nat
  leaseCount : Nat
  drainMs : Nat
  deriving DecidableEq, Repr

/-- The record in a slot that is RESERVED, LIVE or DRAINING. -/
inductive Record where
  | ofClock (c : ClockRecord)
  | ofAlias (a : AliasRecord)
  deriving DecidableEq, Repr

/-- The lifecycles in which a record has its fields. The drain deadline is present exactly in DRAINING (R31). -/
inductive Phase where
  | reserved
  | live
  | draining (deadline : LocalTime)
  deriving DecidableEq, Repr

/-- What a slot holds besides its generation and notice flags: nothing when FREE, the record in RESERVED, LIVE and
DRAINING, and the kind alone in RETIRED (R13). -/
inductive Content where
  | free
  | active (phase : Phase) (record : Record)
  | retired (kind : RecordKind)
  deriving DecidableEq, Repr

/-- A slot of the Record Table (R13). -/
structure Slot where
  gen : BitVec 8
  content : Content
  notices : NoticeSet
  deriving DecidableEq, Repr

/-- A held Lease Table entry (R156); its lease number is its index in the table. -/
structure Lease where
  port : PortNo
  named : Handle
  grant : LocalTime
  deriving DecidableEq, Repr

/-! ## The Reference Intake -/

/-- A frame receiver (R56): in ASSEMBLING, the bit count and the first 72 bits in the order they arrived. -/
inductive Receiver where
  | idle
  | assembling (count : Nat) (bits : List Bool)
  | blocked
  deriving DecidableEq, Repr

/-- A sample: what a checked, stamped and bound frame carries to the Estimator (R61). -/
structure Sample where
  clock : Handle
  role : Role
  stamp : LocalTime
  rv : RefValue
  brk : Bool
  deriving DecidableEq, Repr

/-- One reference input (R71). -/
structure Input where
  receiver : Receiver
  offset : Int
  holding : Option Sample
  notices : NoticeSet
  deriving DecidableEq, Repr

/-- An entry of the Binding Map (R65). -/
structure Binding where
  input : InputNo
  tag : StreamTag
  clock : Handle
  role : Role
  deriving DecidableEq, Repr

/-! ## The Deadline List -/

/-- Who armed a SPLICE: a port, with the request's consumer tag, or the management port, which has none (R136). -/
inductive Origin where
  | port (n : PortNo) (tag : Byte)
  | management
  deriving DecidableEq, Repr

/-- What a Deadline List entry does when it is taken (R136). -/
inductive Work where
  | wake (port : PortNo) (tag : Byte) (named bound : Handle) (p : RefValue)
  | splice (origin : Origin) (aliasHandle newTarget : Handle)
  deriving DecidableEq, Repr

/-- An entry of the Deadline List (R136): its due LT, its place in arming order and its work. -/
structure DeadlineEntry where
  due : LocalTime
  order : Nat
  work : Work
  deriving DecidableEq, Repr

/-! ## Requests and responses -/

/-- NOW, or AT with the local time to convert; the field a NOW carries is ignored (R125). -/
inductive Selector where
  | now
  | at (t : LocalTime)
  deriving DecidableEq, Repr

/-- NORMAL or IMMEDIATE (R29). -/
inductive RetireMode where
  | normal | immediate
  deriving DecidableEq, Repr

/-- The port request codes (R192). -/
inductive PortCode where
  | convert | invert | status | due | wake | lease | release | cancel | retarget | splice | unsplice
  deriving DecidableEq, Repr

/-- A port request's code and body (R192), without the bits R189 and R125 say are ignored. -/
inductive PortRequest where
  | convert (h : Handle) (sel : Selector)
  | invert (h : Handle) (v : RefValue)
  | status (h : Handle)
  | due (h : Handle) (p : RefValue)
  | wake (h : Handle) (p : RefValue)
  | lease (h : Handle)
  | release (number : Byte)
  | cancel (tag : Byte)
  | retarget (aliasHandle newTarget : Handle)
  | splice (aliasHandle newTarget : Handle) (t : LocalTime)
  | unsplice (aliasHandle : Handle)
  deriving DecidableEq, Repr

/-- An accepted request in a request queue (R100), without the ignored bits of its frame: DEDUCED, safe, log entry 9. -/
structure QueuedRequest where
  tag : Byte
  request : PortRequest
  deriving DecidableEq, Repr

/-- The quality item of an answer (R122). -/
structure Quality where
  lock : LockState
  draining : Bool
  deriving DecidableEq, Repr

/-- The classification of a DUE (R132). -/
inductive DueClass where
  | tooEarly | wait | due | tooLate
  deriving DecidableEq, Repr

/-- The kind of a Deadline List entry, as a CANCEL response reports it (R148). -/
inductive EntryKind where
  | wake | splice
  deriving DecidableEq, Repr

/-- The results of an OK response to a port request (R193). -/
inductive PortResult where
  | convert (eff : Handle) (now : LocalTime) (q : Quality) (converted : LocalTime) (projection : RefValue)
  | invert (eff : Handle) (now : LocalTime) (q : Quality) (v : RefValue) (inverse : LocalTime)
  | due (eff : Handle) (now : LocalTime) (q : Quality) (p : RefValue) (cls : DueClass) (distance : Nat)
  | status (eff : Handle) (now : LocalTime) (life : Lifecycle) (lock : LockState) (active : Option Role) (trim : Int)
      (lastError : Option Int) (anchorAge : Option Int)
  | lease (number : LeaseNo) (named : Handle) (grant : LocalTime) (eff : Handle)
  | release (number : LeaseNo) (named : Handle) (grant : LocalTime) (life : Lifecycle)
  | cancel (kind : EntryKind) (due : LocalTime)
  | retarget (aliasHandle oldTarget newTarget : Handle)
  | unsplice (aliasHandle newTarget : Handle) (due : LocalTime) (origin : Origin)
  deriving DecidableEq, Repr

/-- The answer to a port request: a refusal with its status and fault handle, or OK with results (R54). -/
inductive PortAnswer where
  | refused (status : Status) (faultHandle : Handle)
  | ok (result : PortResult)
  deriving DecidableEq, Repr

/-- The results of a WAKE completion; a field is none where R145 does not list it. -/
structure WakeBody where
  clock : Handle
  now : LocalTime
  quality : Option Quality
  p : Option RefValue
  lead : Option Int
  due : Option LocalTime
  lateness : Option (BitVec 48)
  deriving DecidableEq, Repr

/-- The results of a SPLICE completion; a field is none where R145 does not list it. -/
structure SpliceBody where
  aliasHandle : Handle
  oldTarget : Option Handle
  newTarget : Handle
  now : LocalTime
  due : Option LocalTime
  deriving DecidableEq, Repr

/-- An entry of a response queue (R108). -/
inductive ResponseEntry where
  | response (code : PortCode) (tag : Byte) (answer : PortAnswer)
  | wakeDone (tag : Byte) (ending : Ending) (body : WakeBody)
  | spliceDone (tag : Byte) (ending : Ending) (body : SpliceBody)
  | revoked (number : LeaseNo) (named : Handle)
  deriving DecidableEq, Repr

/-- The management request codes (R194). -/
inductive MgmtCode where
  | createClock | createAlias | configure | enable | retire | readRecord | bind | unbind | setInputOffset | setAnchor
  | selectSource | setPortLevel | portReset | readPort | retarget | splice | unsplice | readIdentity | readTime | setMask
  | nextNotice | purge
  deriving DecidableEq, Repr

/-- One change of a CONFIGURE: a field identifier and its value (R195). -/
structure Change where
  id : Byte
  value : BitVec 32
  deriving DecidableEq, Repr

/-- A management request's code and body (R194), without the bits R189 says are ignored. -/
inductive MgmtRequest where
  | createClock
  | createAlias (target : Handle)
  | configure (h : Handle) (changes : List Change)
  | enable (h : Handle)
  | retire (h : Handle) (mode : RetireMode)
  | readRecord (slot : Byte)
  | bind (input : Byte) (tag : StreamTag) (h : Handle) (role : Role)
  | unbind (input : Byte) (tag : StreamTag)
  | setInputOffset (input : Byte) (offset : Int)
  | setAnchor (h : Handle) (rv : RefValue) (trim : Int)
  | selectSource (h : Handle) (role : Role)
  | setPortLevel (port level : Byte)
  | portReset (port : Byte)
  | readPort (port : Byte)
  | retarget (aliasHandle newTarget : Handle)
  | splice (aliasHandle newTarget : Handle) (t : LocalTime)
  | unsplice (aliasHandle : Handle)
  | readIdentity
  | readTime
  | setMask (kinds : BitVec 14)
  | nextNotice
  | purge
  deriving DecidableEq, Repr

/-- The state a transaction receiver is in, as READ-PORT reports it (R101, R115). -/
inductive TxState where
  | idle | kind | request | fetch | blocked
  deriving DecidableEq, Repr

/-- The snapshot READ-RECORD returns (R37): the slot as it stood, and its pending splice's new target and due LT. -/
structure Snapshot where
  now : LocalTime
  number : SlotNo
  slot : Slot
  splice : Option (Handle × LocalTime)
  deriving DecidableEq, Repr

/-- The snapshot READ-PORT returns (R115), and the instant of its owner's event, which R179 says it carries and the layout
of R115 and R196 has no bytes for: the held response keeps it, and its bytes are those of R196. DESIGN CHOICE, unsafe, log
entry 18. -/
structure PortSnapshot where
  now : LocalTime
  level : Nat
  credits : Nat
  requests : Nat
  responses : Nat
  revoked : Nat
  leaseUse : Nat
  refused : Bool
  framing : Bool
  purged : Bool
  tx : TxState
  deriving DecidableEq, Repr

/-- What NEXT-NOTICE reports (R185). -/
inductive NoticeReport where
  | empty
  | input (n : InputNo) (flags : NoticeSet)
  | slot (h : Handle) (flags : NoticeSet) (life : Lifecycle) (kind : Option RecordKind)
  deriving DecidableEq, Repr

/-- The results of an OK management response (R196). -/
inductive MgmtResult where
  | none
  | newHandle (h : Handle)
  | lifecycle (l : Lifecycle)
  | snapshot (r : Snapshot)
  | activeSource (active : Option Role)
  | unbound (h : Handle) (role : Role) (active : Option Role)
  | offset (previous : Int)
  | lockState (previous : LockState)
  | level (previous : Nat)
  | portReset (requests responses entries leases : Nat)
  | port (r : PortSnapshot)
  | retarget (aliasHandle oldTarget newTarget : Handle)
  | spliceExecuted (aliasHandle oldTarget newTarget : Handle) (now : LocalTime)
  | spliceArmed (aliasHandle newTarget : Handle) (due : LocalTime)
  | unsplice (aliasHandle newTarget : Handle) (due : LocalTime) (origin : Origin)
  | identity
  | time (now : LocalTime)
  | mask (before after : NoticeSet)
  | notice (r : NoticeReport)
  deriving DecidableEq, Repr

/-- The answer to a management request (R54). -/
inductive MgmtAnswer where
  | refused (status : Status) (faultHandle : Handle)
  | ok (result : MgmtResult)
  deriving DecidableEq, Repr

/-- The held response (R174, R178). -/
structure HeldResponse where
  code : MgmtCode
  answer : MgmtAnswer
  deriving DecidableEq, Repr

/-! ## Ports -/

/-- A transaction receiver, of a query port (R101) or of the management port (R175). `status` is the status byte
captured at its start, `bits` the kept bits in the order they arrived. In REQUEST, `count` counts every bit of the
transaction; in FETCH, the bits clocked after the kind byte. `σ` is the type of what a FETCH has selected. -/
inductive Transaction (σ : Type) where
  | idle
  | kind (status : Byte) (bits : List Bool)
  | request (status : Byte) (bits : List Bool) (count : Nat) (malformed : Bool)
  | fetch (status : Byte) (count : Nat) (selected : Option σ)
  | blocked
  deriving DecidableEq, Repr

/-- What a query FETCH selected (R110): the copy of the head, and whether that entry is still in the response queue
(R111). -/
structure Selection where
  entry : ResponseEntry
  inQueue : Bool
  deriving DecidableEq, Repr

/-- One query port (R100). -/
structure Port where
  level : Nat
  tx : Transaction Selection
  requests : List QueuedRequest
  responses : List ResponseEntry
  credits : Nat
  leaseUse : Nat
  refused : Bool
  framing : Bool
  purged : Bool
  purgeMark : Bool
  deriving DecidableEq, Repr

/-- The request state of the management port (R174). -/
inductive RequestState where
  | none
  | inProgress (r : MgmtRequest)
  | held (r : HeldResponse)
  deriving DecidableEq, Repr

/-- The management port (R174). -/
structure MgmtPort where
  tx : Transaction HeldResponse
  req : RequestState
  collide : Bool
  deriving DecidableEq, Repr

/-! ## The part -/

/-- Everything the part holds, and the queue of commands that wait for it. -/
structure State where
  /-- LT (R1). -/
  lt : LocalTime
  /-- RST_N is low (R1, R100). -/
  rstLow : Bool
  /-- The Record Table (R13). -/
  slots : Vector Slot 256
  /-- The Lease Table (R156). -/
  leases : Vector (Option Lease) 16
  /-- The reference inputs (R71). -/
  inputs : Vector Input 4
  /-- The Binding Map, a set of entries (R65). -/
  bindings : List Binding
  /-- The Estimator's input pointer (R63). -/
  estPtr : InputNo
  /-- The Deadline List, head first (R137). -/
  deadlines : List DeadlineEntry
  /-- The next place in arming order (R136, R154); DESIGN CHOICE, safe: unbounded, log entry 12. -/
  nextOrder : Nat
  /-- The query ports (R100). -/
  ports : Vector Port 4
  /-- The Query Engine's round-robin pointer (R107). -/
  qePtr : PortNo
  /-- The management port (R174). -/
  mgmt : MgmtPort
  /-- The attention mask; a set bit means masked (R183, R189). -/
  mask : NoticeSet
  /-- The commands that wait, first in, first out; the model's own, DESIGN CHOICE, safe, log entry 5. -/
  pending : List Instr
  deriving DecidableEq, Repr

/-- Why the part could stop with a fault: it has no constructor, because no command stops the part. Every error the
manual describes is a status, an outcome, a flag or a notice (R54, R55, R113, R182). -/
inductive Fault where
  deriving DecidableEq, Repr

/-- Why a command could be refused. -/
inductive Refusal where
  /-- Raised by an arm of exec that has no meaning yet, by its mnemonic; no arm is left so. Safe: the model says nothing
  of what the command does. -/
  | notModelled (mnemonic : String)
  deriving DecidableEq, Repr

/-! ## Reset -/

/-- A slot after a hard reset: FREE, generation 1, every notice flag clear (R13). -/
def Slot.initial : Slot := { gen := 1, content := .free, notices := 0 }

/-- An input after a hard reset with SFSn deasserted (R71). -/
def Input.initial : Input := { receiver := .idle, offset := 0, holding := .none, notices := 0 }

/-- A query port after a hard reset with QCSn_N deasserted (R100). -/
def Port.initial : Port :=
  { level := 3, tx := .idle, requests := [], responses := [], credits := Config.portCredits, leaseUse := 0,
    refused := false, framing := false, purged := false, purgeMark := false }

/-- The management port after a hard reset with MCS_N deasserted (R174). -/
def MgmtPort.initial : MgmtPort := { tx := .idle, req := .none, collide := false }

/-- The part right after reset: RST_N has returned high with every frame strobe and chip select deasserted, and no edge
of LCLK has come yet (R1, R13, R38, R71, R100, R138, R174). DESIGN CHOICE, unsafe: the deasserted pins, log entry 1. -/
def State.reset : State :=
  { lt := 0
    rstLow := false
    slots := Vector.replicate 256 Slot.initial
    leases := Vector.replicate 16 .none
    inputs := Vector.replicate 4 Input.initial
    bindings := []
    estPtr := 0
    deadlines := []
    nextOrder := 0
    ports := Vector.replicate 4 Port.initial
    qePtr := 0
    mgmt := MgmtPort.initial
    mask := 0
    pending := [] }

end Sys2Proof.Machine
end

