-- ==== Sys2Proof/Machine/Flags.lean ====
section
/-! DEFINITION. Notice flags, the attention mask, the status bytes and the codes of enumerated values (R189, R191). -/

namespace Sys2Proof.Machine

/-! ## Notices -/

/-- The bit of a notice kind in a notice set (R189). -/
def NoticeKind.bit : NoticeKind → Nat
  | .badFrame => 0
  | .unboundTag => 1
  | .overrun => 2
  | .lockGained => 3
  | .lockLost => 4
  | .holdover => 5
  | .stale => 6
  | .jump => 7
  | .breakSeen => 8
  | .sourceSwitch => 9
  | .spliceDone => 10
  | .spliceCancelled => 11
  | .revoked => 12
  | .drained => 13

/-- The notice set that holds one kind. -/
def NoticeKind.flag (k : NoticeKind) : NoticeSet := BitVec.twoPow 16 k.bit

/-- The set with one kind added when the condition holds. -/
def flagWhen (b : Bool) (k : NoticeKind) : NoticeSet := if b then k.flag else 0

/-- The kind is in the set. -/
def noticed (s : NoticeSet) (k : NoticeKind) : Bool := s.getLsbD k.bit

/-- The flags of a set whose kinds are unmasked. -/
def unmasked (mask flags : NoticeSet) : NoticeSet := flags &&& ~~~mask

/-- The mask SET-MASK leaves: DRAINED stays unmasked (R183). -/
def maskOf (kinds : BitVec 14) : NoticeSet := kinds.setWidth 16 &&& 0x1fff

/-- The flags a slot keeps on entry into RETIRED: REVOKED and SPLICE_CANCELLED as they stand, DRAINED set, every other
slot kind cleared (R34). -/
def retiredNotices (flags : NoticeSet) : NoticeSet :=
  (flags &&& (NoticeKind.revoked.flag ||| NoticeKind.spliceCancelled.flag)) ||| NoticeKind.drained.flag

/-- ATTN_N is asserted: some input or slot has a flag set whose kind is unmasked (R184). -/
def State.attention (s : State) : Bool :=
  s.inputs.toList.any (fun i => unmasked s.mask i.notices != 0) ||
    s.slots.toList.any (fun x => unmasked s.mask x.notices != 0)

/-! ## Use sets -/

/-- The kind is in the use set (R45). -/
def UseSet.has (u : UseSet) : UseKind → Bool
  | .convert => u.convert
  | .due => u.due
  | .wake => u.wake
  | .lease => u.lease

/-- All four kinds (R17, R19). -/
def UseSet.all : UseSet := { convert := true, due := true, wake := true, lease := true }

/-- A use set from bits 3 to 0 of a CONFIGURE value (R189). -/
def UseSet.ofBits (v : BitVec 32) : UseSet :=
  { convert := v.getLsbD 0, due := v.getLsbD 1, wake := v.getLsbD 2, lease := v.getLsbD 3 }

/-- A use set as the number R189 codes it by. -/
def UseSet.toNat (u : UseSet) : Nat := u.convert.toNat + 2 * u.due.toNat + 4 * u.wake.toNat + 8 * u.lease.toNat

/-! ## Codes of enumerated values (R189, R192, R194) -/

/-- Kind byte of a REQUEST. -/
def requestKind : Byte := 0xa1

/-- Kind byte of a FETCH. -/
def fetchKind : Byte := 0xa2

def Lifecycle.code : Lifecycle → Nat
  | .free => 0
  | .reserved => 1
  | .live => 2
  | .draining => 3
  | .retired => 4

def LockState.code : LockState → Nat
  | .unset => 0
  | .acquiring => 1
  | .locked => 2
  | .holdover => 3
  | .stale => 4

/-- Record kind, none when the slot is FREE. -/
def kindCode : Option RecordKind → Nat
  | none => 0
  | some .clockKind => 1
  | some .aliasKind => 2

/-- Active source, or role in a response. -/
def roleCode : Option Role → Nat
  | none => 0
  | some .primary => 1
  | some .standby => 2

def Quality.code (q : Quality) : Nat := q.lock.code + 128 * q.draining.toNat

def JumpPolicy.code : JumpPolicy → Nat
  | .reanchor => 0
  | .reject => 1

def DueClass.code : DueClass → Nat
  | .tooEarly => 1
  | .wait => 2
  | .due => 3
  | .tooLate => 4

def EntryKind.code : EntryKind → Nat
  | .wake => 1
  | .splice => 2

def TxState.code : TxState → Nat
  | .idle => 0
  | .kind => 1
  | .request => 2
  | .fetch => 3
  | .blocked => 4

/-- Splice origin: the port's number, or 0xFF for management. -/
def Origin.code : Origin → Nat
  | .port n _ => n.val
  | .management => 255

/-- The consumer tag an UNSPLICE response reports; zero for management (R193). -/
def Origin.tagCode : Origin → Nat
  | .port _ t => t.toNat
  | .management => 0

def Status.code : Status → Nat
  | .ok => 0x00
  | .nullHandle => 0x01
  | .staleHandle => 0x02
  | .notLive => 0x03
  | .draining => 0x04
  | .level => 0x05
  | .use => 0x06
  | .wrongKind => 0x07
  | .noTimebase => 0x08
  | .outOfRange => 0x09
  | .tooEarly => 0x0a
  | .listFull => 0x0b
  | .leaseLimit => 0x0c
  | .notFound => 0x0d
  | .busy => 0x0e
  | .inUse => 0x0f
  | .tableFull => 0x10
  | .mapFull => 0x11
  | .duplicateKey => 0x12
  | .roleTaken => 0x13
  | .badValue => 0x14

def Ending.code : Ending → Nat
  | .due => 0x41
  | .tooLate => 0x42
  | .cancelled => 0x43
  | .discontinuity => 0x44
  | .jumped => 0x45
  | .noTimebase => 0x46
  | .retired => 0x47
  | .done => 0x48
  | .aliasRetired => 0x49

/-- The outcome REVOKED. -/
def revokedCode : Nat := 0x4a

def PortCode.code : PortCode → Nat
  | .convert => 0x10
  | .invert => 0x11
  | .status => 0x12
  | .due => 0x13
  | .wake => 0x14
  | .lease => 0x15
  | .release => 0x16
  | .cancel => 0x17
  | .retarget => 0x18
  | .splice => 0x19
  | .unsplice => 0x1a

def MgmtCode.code : MgmtCode → Nat
  | .createClock => 0x40
  | .createAlias => 0x41
  | .configure => 0x42
  | .enable => 0x43
  | .retire => 0x44
  | .readRecord => 0x45
  | .bind => 0x48
  | .unbind => 0x49
  | .setInputOffset => 0x4a
  | .setAnchor => 0x4c
  | .selectSource => 0x4d
  | .setPortLevel => 0x50
  | .portReset => 0x51
  | .readPort => 0x52
  | .retarget => 0x54
  | .splice => 0x55
  | .unsplice => 0x56
  | .readIdentity => 0x58
  | .readTime => 0x59
  | .setMask => 0x5a
  | .nextNotice => 0x5b
  | .purge => 0x5c

/-! ## Status bytes -/

/-- The query port status byte: RDY, free credits, REFUSED, FRAMING, PURGED (R102, R191). -/
def Port.statusByte (p : Port) : Byte :=
  BitVec.ofNat 8 (128 * (!p.responses.isEmpty).toNat + 8 * p.credits + 4 * p.refused.toNat + 2 * p.framing.toNat +
    p.purged.toNat)

/-- The REFUSED item of a captured query status byte. -/
def reportedRefused (b : Byte) : Bool := b.getLsbD 2

/-- The FRAMING item of a captured query status byte. -/
def reportedFraming (b : Byte) : Bool := b.getLsbD 1

/-- The PURGED item of a captured query status byte. -/
def reportedPurged (b : Byte) : Bool := b.getLsbD 0

/-- MBUSY is set exactly while a request is in progress (R174). -/
def RequestState.busy : RequestState → Bool
  | .inProgress _ => true
  | .none | .held _ => false

/-- MREADY is set exactly while a response is held (R174). -/
def RequestState.ready : RequestState → Bool
  | .held _ => true
  | .none | .inProgress _ => false

/-- The management status byte: MBUSY, MREADY, MCOLLIDE, ATTN (R176, R191). -/
def State.mgmtStatusByte (s : State) : Byte :=
  BitVec.ofNat 8 (128 * s.mgmt.req.busy.toNat + 64 * s.mgmt.req.ready.toNat + 32 * s.mgmt.collide.toNat +
    16 * s.attention.toNat)

/-- The MCOLLIDE item of a captured management status byte. -/
def reportedCollide (b : Byte) : Bool := b.getLsbD 5

end Sys2Proof.Machine
end

