-- ==== Sys2Proof/Machine/Operands.lean ====
section
/-! DEFINITION. Reading what partners clock in: bits to bytes, sample frames with their check byte, and the request frames
of the query ports and of the management port (R189, R190, R192, R194, R195). -/

namespace Sys2Proof.Machine

/-! ## Bits and bytes -/

/-- Eight bits, the first the most significant, as a byte (R189). -/
def byteOfBits (b7 b6 b5 b4 b3 b2 b1 b0 : Bool) : Byte :=
  BitVec.ofNat 8 (128 * b7.toNat + 64 * b6.toNat + 32 * b5.toNat + 16 * b4.toNat + 8 * b3.toNat + 4 * b2.toNat +
    2 * b1.toNat + b0.toNat)

/-- The whole bytes of a bit string, in the order they arrived. -/
def bytesOfBits : List Bool → List Byte
  | b7 :: b6 :: b5 :: b4 :: b3 :: b2 :: b1 :: b0 :: rest => byteOfBits b7 b6 b5 b4 b3 b2 b1 b0 :: bytesOfBits rest
  | _ => []

/-- The bits of a byte, most significant first. -/
def bitsOfByte (b : Byte) : List Bool :=
  [b.getLsbD 7, b.getLsbD 6, b.getLsbD 5, b.getLsbD 4, b.getLsbD 3, b.getLsbD 2, b.getLsbD 1, b.getLsbD 0]

/-- A field of several bytes, most significant byte first (R189). -/
def natOfBytes (bs : List Byte) : Nat := bs.foldl (fun n b => 256 * n + b.toNat) 0

/-- A handle field: slot number, then generation (R189). -/
def handleOfBytes (slot gen : Byte) : Handle := { slot := slot.toFin, gen }

/-- A local time field, six bytes. -/
def localTimeOfBytes (bs : List Byte) : LocalTime := BitVec.ofNat 48 (natOfBytes bs)

/-- A reference value field, five bytes. -/
def refValueOfBytes (bs : List Byte) : RefValue := BitVec.ofNat 40 (natOfBytes bs)

/-- A signed field of `w` bits, two's complement (R189). -/
def signedOfBytes (w : Nat) (bs : List Byte) : Int := (BitVec.ofNat w (natOfBytes bs)).toInt

/-- The role field: bit 0 alone is read (R189). -/
def roleOfByte (b : Byte) : Role := if b.getLsbD 0 then .standby else .primary

/-- The mode field: bit 0 alone is read (R189). -/
def modeOfByte (b : Byte) : RetireMode := if b.getLsbD 0 then .immediate else .normal

/-- The selector field and the local time beside it: bit 0 alone is read, and the time only under AT (R125, R189). -/
def selectorOfBytes (b : Byte) (t : LocalTime) : Selector := if b.getLsbD 0 then .at t else .now

/-- The notice set of a SET-MASK: bits 15 and 14 are ignored (R189). -/
def kindsOfBytes (bs : List Byte) : BitVec 14 := BitVec.ofNat 14 (natOfBytes bs)

/-! ## Sample frames -/

/-- One bit into the CRC-8 register, polynomial x^8 + x^2 + x + 1 (R58). -/
def crcBit (c : Byte) (b : Bool) : Byte := if c.msb != b then (c <<< 1) ^^^ 0x07 else c <<< 1

/-- The check value of bytes in the order they arrived: initial value 0, no final inversion (R58). -/
def crc8 (bs : List Byte) : Byte := bs.foldl (fun c b => (bitsOfByte b).foldl crcBit c) 0

/-- What an intact sample frame says (R190). -/
structure SampleFrame where
  tag : StreamTag
  rv : RefValue
  brk : Bool
  deriving DecidableEq, Repr

/-- The intact frame in the bits a receiver counted and kept: exactly 72 bits, the ninth byte the check value of the
first eight (R57, R58). None is a damaged frame. -/
def readSampleFrame (count : Nat) (bits : List Bool) : Option SampleFrame :=
  if count ≠ Config.sampleFrameBits then none
  else
    match bytesOfBits bits with
    | [t1, t0, r4, r3, r2, r1, r0, flags, check] =>
      if crc8 [t1, t0, r4, r3, r2, r1, r0, flags] = check then
        some { tag := BitVec.ofNat 16 (natOfBytes [t1, t0]), rv := refValueOfBytes [r4, r3, r2, r1, r0],
               brk := flags.getLsbD 0 }
      else none
    | _ => none

/-! ## Query port request frames -/

/-- The body of a port request of a given code, at exactly the length the code fixes (R192). -/
def readPortBody (code : Byte) (body : List Byte) : Option PortRequest :=
  if code = 0x10 then
    match body with
    | [s, g, sel, t5, t4, t3, t2, t1, t0] =>
      some (.convert (handleOfBytes s g) (selectorOfBytes sel (localTimeOfBytes [t5, t4, t3, t2, t1, t0])))
    | _ => none
  else if code = 0x11 then
    match body with
    | [s, g, v4, v3, v2, v1, v0] => some (.invert (handleOfBytes s g) (refValueOfBytes [v4, v3, v2, v1, v0]))
    | _ => none
  else if code = 0x12 then
    match body with
    | [s, g] => some (.status (handleOfBytes s g))
    | _ => none
  else if code = 0x13 then
    match body with
    | [s, g, p4, p3, p2, p1, p0] => some (.due (handleOfBytes s g) (refValueOfBytes [p4, p3, p2, p1, p0]))
    | _ => none
  else if code = 0x14 then
    match body with
    | [s, g, p4, p3, p2, p1, p0] => some (.wake (handleOfBytes s g) (refValueOfBytes [p4, p3, p2, p1, p0]))
    | _ => none
  else if code = 0x15 then
    match body with
    | [s, g] => some (.lease (handleOfBytes s g))
    | _ => none
  else if code = 0x16 then
    match body with
    | [n] => some (.release n)
    | _ => none
  else if code = 0x17 then
    match body with
    | [t] => some (.cancel t)
    | _ => none
  else if code = 0x18 then
    match body with
    | [s, g, ns, ng] => some (.retarget (handleOfBytes s g) (handleOfBytes ns ng))
    | _ => none
  else if code = 0x19 then
    match body with
    | [s, g, ns, ng, t5, t4, t3, t2, t1, t0] =>
      some (.splice (handleOfBytes s g) (handleOfBytes ns ng) (localTimeOfBytes [t5, t4, t3, t2, t1, t0]))
    | _ => none
  else if code = 0x1a then
    match body with
    | [s, g] => some (.unsplice (handleOfBytes s g))
    | _ => none
  else none

/-- A whole query REQUEST frame: kind byte, request code, consumer tag, body (R192). -/
def readPortFrame : List Byte → Option QueuedRequest
  | kind :: code :: tag :: body =>
    if kind = requestKind then (readPortBody code body).map fun r => { tag, request := r } else none
  | _ => none

/-- The request in a REQUEST transaction's bits, or none when the transaction is malformed: marked so at its kind byte, a
bit count that is not a multiple of 8 or runs past the longest frame, or a frame no code allows (R103). -/
def judgeQueryFrame (bits : List Bool) (count : Nat) (malformed : Bool) : Option QueuedRequest :=
  if malformed || count % 8 != 0 || count != bits.length then none else readPortFrame (bytesOfBits bits)

/-! ## Management request frames -/

/-- The changes of a CONFIGURE body, five bytes each (R195). -/
def readChanges : List Byte → Option (List Change)
  | [] => some []
  | id :: v3 :: v2 :: v1 :: v0 :: rest =>
    (readChanges rest).map fun cs => { id, value := BitVec.ofNat 32 (natOfBytes [v3, v2, v1, v0]) } :: cs
  | _ => none

/-- The body of a management request of a given code, at a length the code allows (R194). -/
def readMgmtBody (code : Byte) (body : List Byte) : Option MgmtRequest :=
  if code = 0x40 then
    match body with
    | [] => some .createClock
    | _ => none
  else if code = 0x41 then
    match body with
    | [s, g] => some (.createAlias (handleOfBytes s g))
    | _ => none
  else if code = 0x42 then
    match body with
    | s :: g :: changes => (readChanges changes).map fun cs => .configure (handleOfBytes s g) cs
    | _ => none
  else if code = 0x43 then
    match body with
    | [s, g] => some (.enable (handleOfBytes s g))
    | _ => none
  else if code = 0x44 then
    match body with
    | [s, g, m] => some (.retire (handleOfBytes s g) (modeOfByte m))
    | _ => none
  else if code = 0x45 then
    match body with
    | [n] => some (.readRecord n)
    | _ => none
  else if code = 0x48 then
    match body with
    | [i, t1, t0, s, g, r] =>
      some (.bind i (BitVec.ofNat 16 (natOfBytes [t1, t0])) (handleOfBytes s g) (roleOfByte r))
    | _ => none
  else if code = 0x49 then
    match body with
    | [i, t1, t0] => some (.unbind i (BitVec.ofNat 16 (natOfBytes [t1, t0])))
    | _ => none
  else if code = 0x4a then
    match body with
    | [i, o2, o1, o0] => some (.setInputOffset i (signedOfBytes 24 [o2, o1, o0]))
    | _ => none
  else if code = 0x4c then
    match body with
    | [s, g, r4, r3, r2, r1, r0, t3, t2, t1, t0] =>
      some (.setAnchor (handleOfBytes s g) (refValueOfBytes [r4, r3, r2, r1, r0]) (signedOfBytes 32 [t3, t2, t1, t0]))
    | _ => none
  else if code = 0x4d then
    match body with
    | [s, g, r] => some (.selectSource (handleOfBytes s g) (roleOfByte r))
    | _ => none
  else if code = 0x50 then
    match body with
    | [p, l] => some (.setPortLevel p l)
    | _ => none
  else if code = 0x51 then
    match body with
    | [p] => some (.portReset p)
    | _ => none
  else if code = 0x52 then
    match body with
    | [p] => some (.readPort p)
    | _ => none
  else if code = 0x54 then
    match body with
    | [s, g, ns, ng] => some (.retarget (handleOfBytes s g) (handleOfBytes ns ng))
    | _ => none
  else if code = 0x55 then
    match body with
    | [s, g, ns, ng, t5, t4, t3, t2, t1, t0] =>
      some (.splice (handleOfBytes s g) (handleOfBytes ns ng) (localTimeOfBytes [t5, t4, t3, t2, t1, t0]))
    | _ => none
  else if code = 0x56 then
    match body with
    | [s, g] => some (.unsplice (handleOfBytes s g))
    | _ => none
  else if code = 0x58 then
    match body with
    | [] => some .readIdentity
    | _ => none
  else if code = 0x59 then
    match body with
    | [] => some .readTime
    | _ => none
  else if code = 0x5a then
    match body with
    | [k1, k0] => some (.setMask (kindsOfBytes [k1, k0]))
    | _ => none
  else if code = 0x5b then
    match body with
    | [] => some .nextNotice
    | _ => none
  else if code = 0x5c then
    match body with
    | [] => some .purge
    | _ => none
  else none

/-- A whole management REQUEST frame: kind byte, request code, body (R194). -/
def readMgmtFrame : List Byte → Option MgmtRequest
  | kind :: code :: body => if kind = requestKind then readMgmtBody code body else none
  | _ => none

/-- The request in a management REQUEST transaction's bits, or none when it is malformed (R177). -/
def judgeMgmtFrame (bits : List Bool) (count : Nat) (malformed : Bool) : Option MgmtRequest :=
  if malformed || count % 8 != 0 || count != bits.length then none else readMgmtFrame (bytesOfBits bits)

/-! ## CONFIGURE fields (R195) -/

/-- The configuration fields by the identifiers of R195. -/
inductive ConfigField where
  | level | useSet | lockWindow | jumpLimit | jumpPolicy | rejectLimit | enterCount | gainShift | silenceMs | holdoverMs
  | farEarly | lateTolerance | drainMs | leaveCount
  deriving DecidableEq, Repr

/-- The field an identifier names; none for an identifier not in the table. -/
def configField (id : Byte) : Option ConfigField :=
  if id = 0x01 then some .level
  else if id = 0x02 then some .useSet
  else if id = 0x03 then some .lockWindow
  else if id = 0x04 then some .jumpLimit
  else if id = 0x05 then some .jumpPolicy
  else if id = 0x06 then some .rejectLimit
  else if id = 0x07 then some .enterCount
  else if id = 0x08 then some .gainShift
  else if id = 0x09 then some .silenceMs
  else if id = 0x0a then some .holdoverMs
  else if id = 0x0b then some .farEarly
  else if id = 0x0c then some .lateTolerance
  else if id = 0x0d then some .drainMs
  else if id = 0x0e then some .leaveCount
  else none

/-- A field an ALIAS record has too: level, use set and drain timeout (R19, R26). -/
def ConfigField.onAlias : ConfigField → Bool
  | .level | .useSet | .drainMs => true
  | .lockWindow | .jumpLimit | .jumpPolicy | .rejectLimit | .enterCount | .gainShift | .silenceMs | .holdoverMs
  | .farEarly | .lateTolerance | .leaveCount => false

/-- The value lies in the field's own range (R17, R195). That J exceeds W is tested on the result (R26). -/
def ConfigField.inRange (f : ConfigField) (v : BitVec 32) : Bool :=
  let n := v.toNat
  match f with
  | .level => n ≤ 3
  | .useSet => n ≤ 15
  | .lockWindow => 1 ≤ n && n ≤ 65535
  | .jumpLimit => n ≤ 2147483647
  | .jumpPolicy => n ≤ 1
  | .rejectLimit => 1 ≤ n && n ≤ 15
  | .enterCount => 1 ≤ n && n ≤ 15
  | .gainShift => n ≤ 15
  | .silenceMs => 1 ≤ n && n ≤ 65535
  | .holdoverMs => n ≤ 65535
  | .farEarly => 1 ≤ n
  | .lateTolerance => true
  | .drainMs => 1 ≤ n && n ≤ 65535
  | .leaveCount => 1 ≤ n && n ≤ 15

end Sys2Proof.Machine
end

