-- ==== Sys2Proof/Machine/Formats.lean ====
section
/-! DEFINITION. The bytes the part sends: response entries, held responses and snapshots (R189, R193, R196, R197); and the
request frames a partner sends for a given request (R192, R194), the other direction of Machine/Operands.lean. -/

namespace Sys2Proof.Machine

/-! ## Fields -/

/-- A field of `k` bytes, most significant byte first (R189). -/
def bytesBE : Nat → Nat → List Byte
  | 0, _ => []
  | k + 1, v => BitVec.ofNat 8 (v / 256 ^ k) :: bytesBE k v

/-- A signed field of `k` bytes, two's complement (R189). -/
def signedBE (k : Nat) (x : Int) : List Byte := bytesBE k (x % (256 ^ k : Int)).toNat

/-- One byte. -/
def byteOf (n : Nat) : List Byte := bytesBE 1 n

/-- The null handle (R14). -/
def Handle.null : Handle := { slot := 0, gen := 0 }

/-- A handle field (R189). -/
def Handle.bytes (h : Handle) : List Byte := [BitVec.ofNat 8 h.slot.val, h.gen]

/-- A local time field, or a duration in ticks. -/
def timeBytes (t : BitVec 48) : List Byte := bytesBE 6 t.toNat

/-- A reference value field. -/
def rvBytes (v : RefValue) : List Byte := bytesBE 5 v.toNat

/-- An optional field: all-zero bytes when absent (R189). -/
def optBytes {α : Type} (zero : List Byte) (f : α → List Byte) : Option α → List Byte
  | none => zero
  | some x => f x

/-- Presence marks, the first in bit 0. -/
def presence : List Bool → Nat
  | [] => 0
  | b :: bs => b.toNat + 2 * presence bs

/-! ## Query responses (R193) -/

/-- The results of an OK response. -/
def PortResult.bytes : PortResult → List Byte
  | .convert eff now q t p => eff.bytes ++ timeBytes now ++ byteOf q.code ++ timeBytes t ++ rvBytes p
  | .invert eff now q v t => eff.bytes ++ timeBytes now ++ byteOf q.code ++ rvBytes v ++ timeBytes t
  | .due eff now q p cls distance =>
    eff.bytes ++ timeBytes now ++ byteOf q.code ++ rvBytes p ++ byteOf cls.code ++ bytesBE 5 distance
  | .status eff now life lock active trim lastError age =>
    eff.bytes ++ timeBytes now ++ byteOf life.code ++ byteOf lock.code ++ byteOf (roleCode active) ++ signedBE 4 trim ++
      byteOf (presence [lastError.isSome, age.isSome]) ++ optBytes (bytesBE 4 0) (signedBE 4) lastError ++
      optBytes (bytesBE 6 0) (signedBE 6) age
  | .lease n named grant eff => byteOf n.val ++ named.bytes ++ timeBytes grant ++ eff.bytes
  | .release n named grant life => byteOf n.val ++ named.bytes ++ timeBytes grant ++ byteOf life.code
  | .cancel kind d => byteOf kind.code ++ timeBytes d
  | .retarget a o n => a.bytes ++ o.bytes ++ n.bytes
  | .unsplice a n d origin => a.bytes ++ n.bytes ++ timeBytes d ++ byteOf origin.code ++ byteOf origin.tagCode

/-- Status, fault handle and results of an answer; the fault handle of an OK is the null handle (R54). -/
def PortAnswer.bytes : PortAnswer → List Byte
  | .refused st h => byteOf st.code ++ h.bytes
  | .ok r => byteOf Status.ok.code ++ Handle.null.bytes ++ r.bytes

/-- The WAKE completion body, 32 bytes. -/
def WakeBody.bytes (b : WakeBody) : List Byte :=
  b.clock.bytes ++ timeBytes b.now ++
    byteOf (presence [b.quality.isSome, b.p.isSome, b.lead.isSome, b.due.isSome, b.lateness.isSome]) ++
    optBytes (bytesBE 1 0) (fun q => byteOf q.code) b.quality ++ optBytes (bytesBE 5 0) rvBytes b.p ++
    optBytes (bytesBE 5 0) (signedBE 5) b.lead ++ optBytes (bytesBE 6 0) timeBytes b.due ++
    optBytes (bytesBE 6 0) timeBytes b.lateness

/-- The SPLICE completion body, 19 bytes. -/
def SpliceBody.bytes (b : SpliceBody) : List Byte :=
  b.aliasHandle.bytes ++ optBytes (bytesBE 2 0) Handle.bytes b.oldTarget ++ b.newTarget.bytes ++ timeBytes b.now ++
    optBytes (bytesBE 6 0) timeBytes b.due ++ byteOf (presence [b.oldTarget.isSome, b.due.isSome])

/-- The class of an entry. -/
def ResponseEntry.classCode : ResponseEntry → Nat
  | .response .. => 0x01
  | .wakeDone .. | .spliceDone .. => 0x02
  | .revoked .. => 0x03

/-- The bytes after an entry's length byte. -/
def ResponseEntry.payload : ResponseEntry → List Byte
  | .response code tag answer => byteOf code.code ++ [tag] ++ answer.bytes
  | .wakeDone tag e b => byteOf PortCode.wake.code ++ [tag] ++ byteOf e.code ++ b.bytes
  | .spliceDone tag e b => byteOf PortCode.splice.code ++ [tag] ++ byteOf e.code ++ b.bytes
  | .revoked n named => byteOf revokedCode ++ byteOf n.val ++ named.bytes

/-- A whole response entry: class byte, length byte, payload. -/
def ResponseEntry.bytes (e : ResponseEntry) : List Byte :=
  byteOf e.classCode ++ byteOf e.payload.length ++ e.payload

/-- The NONE code of an empty response queue, or of an empty response holder (R193, R196). -/
def noneCode : List Byte := [0x00]

/-! ## Management responses (R196, R197) -/

/-- The kind of a slot's content: absent in FREE (R13). -/
def Content.kind : Content → Option RecordKind
  | .free => none
  | .active _ (.ofClock _) => some .clockKind
  | .active _ (.ofAlias _) => some .aliasKind
  | .retired k => some k

/-- The lifecycle of a slot's content (R13). -/
def Content.lifecycle : Content → Lifecycle
  | .free => .free
  | .active .reserved _ => .reserved
  | .active .live _ => .live
  | .active (.draining _) _ => .draining
  | .retired _ => .retired

/-- The drain deadline: present in DRAINING (R18). -/
def Phase.drainDeadline : Phase → Option LocalTime
  | .reserved | .live => none
  | .draining d => some d

/-- The CLOCK part of a snapshot, 99 bytes. -/
def clockBytes (ph : Phase) (c : ClockRecord) : List Byte :=
  byteOf c.cfg.level ++ byteOf c.cfg.useSet.toNat ++ bytesBE 2 c.cfg.lockWindow ++ bytesBE 4 c.cfg.jumpLimit ++
  byteOf c.cfg.jumpPolicy.code ++ byteOf c.cfg.rejectLimit ++ byteOf c.cfg.enterCount ++ byteOf c.cfg.leaveCount ++
  byteOf c.cfg.gainShift ++ bytesBE 2 c.cfg.silenceMs ++ bytesBE 2 c.cfg.holdoverMs ++ bytesBE 4 c.cfg.farEarly ++
  bytesBE 4 c.cfg.lateTolerance ++ bytesBE 2 c.cfg.drainMs ++ byteOf c.lock.code ++
  bytesBE 2 (presence [c.anchor.isSome, c.lastError.isSome, c.heardPrimary.isSome, c.heardStandby.isSome,
    c.silence.isSome, c.holdover.isSome, ph.drainDeadline.isSome]) ++
  optBytes (bytesBE 6 0) (fun a => timeBytes a.lt) c.anchor ++ optBytes (bytesBE 5 0) (fun a => rvBytes a.rv) c.anchor ++
  signedBE 4 c.trim ++ optBytes (bytesBE 4 0) (signedBE 4) c.lastError ++ byteOf c.inCount ++ byteOf c.outCount ++
  byteOf c.rejectRun ++ byteOf (roleCode c.active) ++ optBytes (bytesBE 6 0) timeBytes c.heardPrimary ++
  optBytes (bytesBE 6 0) timeBytes c.heardStandby ++ optBytes (bytesBE 6 0) (fun x => timeBytes x.start) c.silence ++
  optBytes (bytesBE 6 0) (fun x => timeBytes x.deadline) c.silence ++
  optBytes (bytesBE 6 0) (fun x => timeBytes x.start) c.holdover ++
  optBytes (bytesBE 6 0) (fun x => timeBytes x.deadline) c.holdover ++ byteOf c.leaseCount ++ bytesBE 2 c.aliasCount ++
  byteOf c.wakeCount ++ optBytes (bytesBE 6 0) timeBytes ph.drainDeadline

/-- The ALIAS part of a snapshot, 22 bytes. -/
def aliasBytes (ph : Phase) (a : AliasRecord) (splice : Option (Handle × LocalTime)) : List Byte :=
  byteOf a.level ++ byteOf a.useSet.toNat ++ a.target.bytes ++ byteOf a.leaseCount ++
  byteOf (presence [ph.drainDeadline.isSome, splice.isSome]) ++ optBytes (bytesBE 6 0) timeBytes ph.drainDeadline ++
  optBytes (bytesBE 2 0) (fun x => x.1.bytes) splice ++ optBytes (bytesBE 6 0) (fun x => timeBytes x.2) splice ++
  bytesBE 2 a.drainMs

/-- A record snapshot: the common part, and the part of the record when there is one. -/
def Snapshot.bytes (r : Snapshot) : List Byte :=
  timeBytes r.now ++ byteOf r.number.val ++ byteOf r.slot.content.lifecycle.code ++ [r.slot.gen] ++
  byteOf (kindCode (r.slot.content.kind)) ++ bytesBE 2 r.slot.notices.toNat ++
  (match r.slot.content with
  | .active ph (.ofClock c) => clockBytes ph c
  | .active ph (.ofAlias a) => aliasBytes ph a r.splice
  | .free | .retired _ => [])

/-- The READ-PORT results, 8 bytes: R196 lists no instant among them (log entry 18). -/
def PortSnapshot.bytes (r : PortSnapshot) : List Byte :=
  byteOf r.level ++ byteOf r.credits ++ byteOf r.requests ++ byteOf r.responses ++ byteOf r.revoked ++ byteOf r.leaseUse ++
  byteOf (4 * r.refused.toNat + 2 * r.framing.toNat + r.purged.toNat) ++ byteOf r.tx.code

/-- The NEXT-NOTICE results. -/
def NoticeReport.bytes : NoticeReport → List Byte
  | .empty => [0, 0, 0, 0, 0, 0, 0]
  | .input n flags => byteOf 1 ++ byteOf 0 ++ byteOf n.val ++ bytesBE 2 flags.toNat ++ byteOf 0 ++ byteOf 0
  | .slot h flags life kind => byteOf 2 ++ h.bytes ++ bytesBE 2 flags.toNat ++ byteOf life.code ++ byteOf (kindCode kind)

/-- The results of an OK management response. -/
def MgmtResult.bytes : MgmtResult → List Byte
  | .none => []
  | .newHandle h => h.bytes
  | .lifecycle l => byteOf l.code
  | .snapshot r => r.bytes
  | .activeSource active => byteOf (roleCode active)
  | .unbound h role active => h.bytes ++ byteOf (roleCode (some role)) ++ byteOf (roleCode active)
  | .offset o => signedBE 3 o
  | .lockState l => byteOf l.code
  | .level l => byteOf l
  | .portReset q r e l => byteOf q ++ byteOf r ++ byteOf e ++ byteOf l
  | .port r => r.bytes
  | .retarget a o n => a.bytes ++ o.bytes ++ n.bytes
  | .spliceExecuted a o n now => byteOf 1 ++ a.bytes ++ o.bytes ++ n.bytes ++ timeBytes now
  | .spliceArmed a n d => byteOf 2 ++ a.bytes ++ Handle.null.bytes ++ n.bytes ++ timeBytes d
  | .unsplice a n d origin => a.bytes ++ n.bytes ++ timeBytes d ++ byteOf origin.code ++ byteOf origin.tagCode
  | .identity => [0x71, 0x02, 255, 64, 48, 16, 4, 4]
  | .time now => timeBytes now
  | .mask before after => bytesBE 2 before.toNat ++ bytesBE 2 after.toNat
  | .notice r => r.bytes

/-- The bytes of a held response after its length byte. -/
def HeldResponse.payload (r : HeldResponse) : List Byte :=
  byteOf r.code.code ++
  (match r.answer with
  | .refused st h => byteOf st.code ++ h.bytes
  | .ok res => byteOf Status.ok.code ++ Handle.null.bytes ++ res.bytes)

/-- A whole held response: length byte, payload. -/
def HeldResponse.bytes (r : HeldResponse) : List Byte := byteOf r.payload.length ++ r.payload

/-! ## Request frames, as a partner sends them -/

/-- The code of a port request. -/
def PortRequest.code : PortRequest → PortCode
  | .convert .. => .convert
  | .invert .. => .invert
  | .status _ => .status
  | .due .. => .due
  | .wake .. => .wake
  | .lease _ => .lease
  | .release _ => .release
  | .cancel _ => .cancel
  | .retarget .. => .retarget
  | .splice .. => .splice
  | .unsplice _ => .unsplice

/-- The selector byte and the local time of a CONVERT, the time zero under NOW (R192). -/
def Selector.bytes : Selector → List Byte
  | .now => 0 :: timeBytes 0
  | .at t => 1 :: timeBytes t

/-- The body of a port request (R192), every ignored bit clear. -/
def PortRequest.body : PortRequest → List Byte
  | .convert h sel => h.bytes ++ sel.bytes
  | .invert h v => h.bytes ++ rvBytes v
  | .status h => h.bytes
  | .due h p => h.bytes ++ rvBytes p
  | .wake h p => h.bytes ++ rvBytes p
  | .lease h => h.bytes
  | .release n => [n]
  | .cancel t => [t]
  | .retarget a n => a.bytes ++ n.bytes
  | .splice a n t => a.bytes ++ n.bytes ++ timeBytes t
  | .unsplice a => a.bytes

/-- The REQUEST frame of a port request: kind byte, code, consumer tag, body (R192). -/
def QueuedRequest.frame (q : QueuedRequest) : List Byte :=
  requestKind :: BitVec.ofNat 8 q.request.code.code :: q.tag :: q.request.body

/-- The code of a management request. -/
def MgmtRequest.code : MgmtRequest → MgmtCode
  | .createClock => .createClock
  | .createAlias _ => .createAlias
  | .configure .. => .configure
  | .enable _ => .enable
  | .retire .. => .retire
  | .readRecord _ => .readRecord
  | .bind .. => .bind
  | .unbind .. => .unbind
  | .setInputOffset .. => .setInputOffset
  | .setAnchor .. => .setAnchor
  | .selectSource .. => .selectSource
  | .setPortLevel .. => .setPortLevel
  | .portReset _ => .portReset
  | .readPort _ => .readPort
  | .retarget .. => .retarget
  | .splice .. => .splice
  | .unsplice _ => .unsplice
  | .readIdentity => .readIdentity
  | .readTime => .readTime
  | .setMask _ => .setMask
  | .nextNotice => .nextNotice
  | .purge => .purge

/-- A role field: bit 0 set for STANDBY (R189). -/
def Role.byte : Role → Byte
  | .primary => 0
  | .standby => 1

/-- One change of a CONFIGURE frame (R195). -/
def Change.bytes (c : Change) : List Byte := c.id :: bytesBE 4 c.value.toNat

/-- The body of a management request (R194), every ignored bit clear. -/
def MgmtRequest.body : MgmtRequest → List Byte
  | .createClock | .readIdentity | .readTime | .nextNotice | .purge => []
  | .createAlias t => t.bytes
  | .configure h cs => h.bytes ++ cs.flatMap Change.bytes
  | .enable h => h.bytes
  | .retire h m => h.bytes ++ [if m = .immediate then 1 else 0]
  | .readRecord n => [n]
  | .bind i tag h role => [i] ++ bytesBE 2 tag.toNat ++ h.bytes ++ [role.byte]
  | .unbind i tag => [i] ++ bytesBE 2 tag.toNat
  | .setInputOffset i o => [i] ++ signedBE 3 o
  | .setAnchor h rv trim => h.bytes ++ rvBytes rv ++ signedBE 4 trim
  | .selectSource h role => h.bytes ++ [role.byte]
  | .setPortLevel p l => [p, l]
  | .portReset p => [p]
  | .readPort p => [p]
  | .retarget a n => a.bytes ++ n.bytes
  | .splice a n t => a.bytes ++ n.bytes ++ timeBytes t
  | .unsplice a => a.bytes
  | .setMask k => bytesBE 2 k.toNat

/-- The REQUEST frame of a management request: kind byte, code, body (R194). -/
def MgmtRequest.frame (r : MgmtRequest) : List Byte :=
  requestKind :: BitVec.ofNat 8 r.code.code :: r.body

/-- The bits of a frame in the order they are clocked (R189). -/
def frameBits (bs : List Byte) : List Bool := bs.flatMap bitsOfByte

end Sys2Proof.Machine
end

