-- ==== Sys2Proof/Machine/Timebase.lean ====
section
/-! DEFINITION. The arithmetic of chapter 1: time differences, projection, inverse and lead, and the deadlines formed
with it. In every division below the divisor is positive, so Int's division rounds toward minus infinity. -/

namespace Sys2Proof.Machine

/-- The time difference from local time `a` to local time `b` (R3). -/
def timeDiff (a b : LocalTime) : Int := (b - a).toInt

/-- The program-time difference from `u` to `v` (R6). -/
def rvDiff (u v : RefValue) : Int := (v - u).toInt

/-- A parameter in device milliseconds, as ticks (R5). -/
def msTicks (ms : Nat) : Nat := ms * Config.ticksPerMs

/-- A local time moved on by a duration (R3). -/
def addTicks (t : LocalTime) (d : Nat) : LocalTime := t + BitVec.ofNat 48 d

/-- The deadline `d` is reached at `now` (R4); it may be taken later: DEDUCED, safe, log entry 3. -/
def reached (d now : LocalTime) : Bool := 0 ≤ timeDiff d now

/-- A difference lies within the conversion span, its ends included (R9). -/
def inSpan (d : Int) : Bool := d.natAbs ≤ Config.span

/-- The projection of the local time `t` on a line with anchor `a` and trim `r`; none is OUT_OF_RANGE (R8, R9).
R11 bounds the residual more tightly than R8 and R10 give: DEDUCED, unsafe, log entry 7. -/
def projection (a : Anchor) (r : Int) (t : LocalTime) : Option RefValue :=
  let d := timeDiff a.lt t
  if inSpan d then some (a.rv + BitVec.ofInt 40 (d + d * r / 4294967296)) else none

/-- The inverse of the reference value `v` on a line with anchor `a` and trim `r`; none is OUT_OF_RANGE (R9, R10). The
residual R11 and R128 speak of is what R8 and R10 make it: DEDUCED, unsafe, log entry 7. -/
def inverse (a : Anchor) (r : Int) (v : RefValue) : Option LocalTime :=
  let d := rvDiff a.rv v
  if inSpan d then some (a.lt + BitVec.ofInt 48 (d - d * r / 4294967296)) else none

/-- The lead of the program time `p` at local time `t`; none is OUT_OF_RANGE (R12). -/
def lead (a : Anchor) (r : Int) (p : RefValue) (t : LocalTime) : Option Int :=
  (projection a r t).map fun q => rvDiff q p

/-- The projection on a CLOCK record's line; a record without an anchor gives no value (R8). -/
def ClockRecord.projection (c : ClockRecord) (t : LocalTime) : Option RefValue :=
  c.anchor.bind fun a => Machine.projection a c.trim t

/-- The inverse on a CLOCK record's line; a record without an anchor gives no value (R10). -/
def ClockRecord.inverse (c : ClockRecord) (v : RefValue) : Option LocalTime :=
  c.anchor.bind fun a => Machine.inverse a c.trim v

/-- The lead on a CLOCK record's line; a record without an anchor gives no value (R12). -/
def ClockRecord.lead (c : ClockRecord) (p : RefValue) (t : LocalTime) : Option Int :=
  c.anchor.bind fun a => Machine.lead a c.trim p t

/-- A silence or holdover timer formed at `now` from a parameter in device milliseconds (R4, R5, R18). -/
def startTimer (now : LocalTime) (ms : Nat) : Timer := { start := now, deadline := addTicks now (msTicks ms) }

/-- The classification of a DUE's lead against E and L (R132). -/
def classify (early late : Nat) (l : Int) : DueClass :=
  if (early : Int) < l then .tooEarly
  else if 0 < l then .wait
  else if -(late : Int) ≤ l then .due
  else .tooLate

/-- A value brought within `lo` to `hi` by taking the nearer end outside it. -/
def clamp (lo hi x : Int) : Int := max lo (min hi x)

/-- The trim after an applied sample of error `e` with gain shift `g` (R82). -/
def nextTrim (r e : Int) (g : Nat) : Int :=
  clamp (-Config.trimLimit) Config.trimLimit (r + e * 4096 / 2 ^ g)

/-- An error as the last error holds it, saturated to 32 bits (R81). -/
def saturate32 (e : Int) : Int := clamp (-2147483648) 2147483647 e

end Sys2Proof.Machine
end

