-- ==== Sys2Proof/Machine/Ops.lean ====
section
/-! DEFINITION. The named operations over the part's tables, lists, queues and ports, which the meanings are made of. -/

namespace Sys2Proof.Machine

/-- The outcome of an event: its next state. While RST_N is low the part takes nothing (R1, R56, R100, R174); DEDUCED, safe, log entry 2. -/
def taken (s s' : State) : Host.Outcome State Fault Refusal := .next (if s.rstLow then s else s')

/-! ## Slots, inputs and ports by number -/

/-- The slot with a given number. -/
def State.slot (s : State) (i : SlotNo) : Slot := s.slots[i.val]

/-- The state with one slot replaced. -/
def State.putSlot (s : State) (i : SlotNo) (x : Slot) : State := { s with slots := s.slots.set i.val x }

/-- The input with a given number. -/
def State.input (s : State) (i : InputNo) : Input := s.inputs[i.val]

/-- The state with one input changed. -/
def State.updInput (s : State) (i : InputNo) (f : Input → Input) : State :=
  { s with inputs := s.inputs.set i.val (f (s.input i)) }

/-- The query port with a given number. -/
def State.port (s : State) (n : PortNo) : Port := s.ports[n.val]

/-- The state with one query port changed. -/
def State.updPort (s : State) (n : PortNo) (f : Port → Port) : State :=
  { s with ports := s.ports.set n.val (f (s.port n)) }

/-- The Lease Table entry with a given number. -/
def State.lease (s : State) (n : LeaseNo) : Option Lease := s.leases[n.val]

/-- The state with one Lease Table entry replaced. -/
def State.putLease (s : State) (n : LeaseNo) (l : Option Lease) : State := { s with leases := s.leases.set n.val l }

/-- The port a number byte names; none above 3 (R60, R114). -/
def portOfByte (b : Byte) : Option (Fin 4) := if h : b.toNat < 4 then some ⟨b.toNat, h⟩ else none

/-! ## Generations and handles -/

/-- The generation after entry into RETIRED or a purge: one more, 255 followed by 1 (R15). -/
def nextGen (g : BitVec 8) : BitVec 8 := if g = 255 then 1 else g + 1

/-- The generation the retired record carried: one less, 1 preceded by 255 (R35). -/
def prevGen (g : BitVec 8) : BitVec 8 := if g = 1 then 255 else g - 1

/-- The handle of a slot's present life. -/
def State.handleOf (s : State) (i : SlotNo) : Handle := { slot := i, gen := (s.slot i).gen }

/-- The phase and record a current handle names; none for any other handle (R14). -/
def State.current (s : State) (h : Handle) : Option (Phase × Record) :=
  if h.slot = 0 ∨ h.gen = 0 ∨ h.gen ≠ (s.slot h.slot).gen then none
  else
    match (s.slot h.slot).content with
    | .active ph r => some (ph, r)
    | .free | .retired _ => none

/-! ## Records -/

def Record.kind : Record → RecordKind
  | .ofClock _ => .clockKind
  | .ofAlias _ => .aliasKind

def Record.level : Record → Nat
  | .ofClock c => c.cfg.level
  | .ofAlias a => a.level

def Record.useSet : Record → UseSet
  | .ofClock c => c.cfg.useSet
  | .ofAlias a => a.useSet

def Record.drainMs : Record → Nat
  | .ofClock c => c.cfg.drainMs
  | .ofAlias a => a.drainMs

def Record.leaseCount : Record → Nat
  | .ofClock c => c.leaseCount
  | .ofAlias a => a.leaseCount

/-- The record with its lease count changed (R22). -/
def Record.updLeaseCount (f : Nat → Nat) : Record → Record
  | .ofClock c => .ofClock { c with leaseCount := f c.leaseCount }
  | .ofAlias a => .ofAlias { a with leaseCount := f a.leaseCount }

def Phase.isDraining : Phase → Bool
  | .draining _ => true
  | .reserved | .live => false

/-- The lifecycle of a record in a given phase. -/
def Phase.lifecycle : Phase → Lifecycle
  | .reserved => .reserved
  | .live => .live
  | .draining _ => .draining

/-- LOCKED or HOLDOVER: the lock states a re-anchor leaves with LOCK_LOST (R78, R83, R95). -/
def LockState.trusted : LockState → Bool
  | .locked | .holdover => true
  | .unset | .acquiring | .stale => false

/-- UNSET or STALE: the lock states without a timebase (R123). -/
def LockState.timeless : LockState → Bool
  | .unset | .stale => true
  | .acquiring | .locked | .holdover => false

/-- The state with the content of one slot replaced; generation and notice flags stay. -/
def State.putContent (s : State) (i : SlotNo) (x : Content) : State := s.putSlot i { s.slot i with content := x }

/-- The state with the record a handle names changed; unchanged when the handle is not current. -/
def State.updRecord (s : State) (h : Handle) (f : Record → Record) : State :=
  match s.current h with
  | some (ph, r) => s.putContent h.slot (.active ph (f r))
  | none => s

/-- The state with the CLOCK record a handle names changed; unchanged when it names none. -/
def State.updClock (s : State) (h : Handle) (f : ClockRecord → ClockRecord) : State :=
  match s.current h with
  | some (ph, .ofClock c) => s.putContent h.slot (.active ph (.ofClock (f c)))
  | some (_, .ofAlias _) | none => s

/-- The state with the ALIAS record a handle names changed; unchanged when it names none. -/
def State.updAlias (s : State) (h : Handle) (f : AliasRecord → AliasRecord) : State :=
  match s.current h with
  | some (ph, .ofAlias a) => s.putContent h.slot (.active ph (.ofAlias (f a)))
  | some (_, .ofClock _) | none => s

/-- The state with the phase of the record a handle names changed. -/
def State.setPhase (s : State) (h : Handle) (ph : Phase) : State :=
  match s.current h with
  | some (_, r) => s.putContent h.slot (.active ph r)
  | none => s

/-- The CLOCK record a handle names. -/
def State.clock (s : State) (h : Handle) : Option ClockRecord :=
  match s.current h with
  | some (_, .ofClock c) => some c
  | some (_, .ofAlias _) | none => none

/-- The alias count of a clock raised by one (R20). -/
def State.raiseAliasCount (s : State) (h : Handle) : State :=
  s.updClock h fun c => { c with aliasCount := c.aliasCount + 1 }

/-- The alias count of a clock lowered by one (R20). -/
def State.lowerAliasCount (s : State) (h : Handle) : State :=
  s.updClock h fun c => { c with aliasCount := c.aliasCount - 1 }

/-- Notice flags set on a slot; a flag already set stays set (R182). -/
def State.notify (s : State) (i : SlotNo) (flags : NoticeSet) : State :=
  s.putSlot i { s.slot i with notices := (s.slot i).notices ||| flags }

/-- Notice flags set on an input (R64). -/
def State.notifyInput (s : State) (i : InputNo) (flags : NoticeSet) : State :=
  s.updInput i fun x => { x with notices := x.notices ||| flags }

/-- The lowest-numbered FREE slot among 1 to 255 (R23). -/
def State.freeSlot (s : State) : Option SlotNo :=
  (List.finRange 256).find? fun i => i != 0 && (s.slot i).content == .free

/-! ## The Binding Map -/

/-- The entry with a key (R61, R65); the list order is the model's: DESIGN CHOICE, safe, log entry 17. -/
def State.binding (s : State) (i : InputNo) (tag : StreamTag) : Option Binding :=
  s.bindings.find? fun b => b.input == i && b.tag == tag

/-- The clock has a Binding Map entry with the role (R76). -/
def State.roleBound (s : State) (h : Handle) (r : Role) : Bool := s.bindings.any fun b => b.clock == h && b.role == r

/-- The other role (R89). -/
def Role.other : Role → Role
  | .primary => .standby
  | .standby => .primary

/-! ## Response queues -/

/-- An entry joins the tail of a port's response queue (R108). -/
def State.push (s : State) (n : PortNo) (e : ResponseEntry) : State :=
  s.updPort n fun p => { p with responses := p.responses ++ [e] }

/-! ## The Deadline List -/

/-- The entry is a WAKE bound to the clock (R136). -/
def DeadlineEntry.isWakeOf (h : Handle) (e : DeadlineEntry) : Bool :=
  match e.work with
  | .wake _ _ _ b _ => b == h
  | .splice .. => false

/-- The entry's origin is the port (R136). -/
def DeadlineEntry.isFrom (n : PortNo) (e : DeadlineEntry) : Bool :=
  match e.work with
  | .wake p _ _ _ _ => p == n
  | .splice (.port p _) _ _ => p == n
  | .splice .management _ _ => false

/-- The entry was armed by the port with the consumer tag (R148). -/
def DeadlineEntry.hasTag (n : PortNo) (tag : Byte) (e : DeadlineEntry) : Bool :=
  match e.work with
  | .wake p t _ _ _ => p == n && t == tag
  | .splice (.port p t) _ _ => p == n && t == tag
  | .splice .management _ _ => false

/-- List order: the smaller difference from now to the due LT first, then the earlier armed (R137). -/
def DeadlineEntry.precedes (now : LocalTime) (a b : DeadlineEntry) : Bool :=
  timeDiff now a.due < timeDiff now b.due || (timeDiff now a.due == timeDiff now b.due && a.order < b.order)

/-- The list with an entry put in its place (R137, R141, R146). -/
def insertEntry (now : LocalTime) (e : DeadlineEntry) : List DeadlineEntry → List DeadlineEntry
  | [] => [e]
  | x :: xs => if e.precedes now x then e :: x :: xs else x :: insertEntry now e xs

/-- The earliest-armed entry of a list (R148). -/
def earliestArmed : List DeadlineEntry → Option DeadlineEntry
  | [] => none
  | e :: es =>
    match earliestArmed es with
    | none => some e
    | some m => if m.order < e.order then some m else some e

/-- The list has room for one more entry (R137). -/
def State.listFull (s : State) : Bool := Config.deadlineCapacity ≤ s.deadlines.length

/-- An entry armed at now: it takes its place in the list and the next place in arming order (R141, R168). -/
def State.arm (s : State) (due : LocalTime) (w : Work) : State :=
  { s with deadlines := insertEntry s.lt { due, order := s.nextOrder, work := w } s.deadlines
           nextOrder := s.nextOrder + 1 }

/-- The entry an alias's pending splice refers to (R19). -/
def State.entryAt (s : State) (order : Nat) : Option DeadlineEntry := s.deadlines.find? fun e => e.order == order

/-- The SPLICE entry an alias has pending, with its origin and new target (R19). -/
def State.pendingEntry (s : State) (a : AliasRecord) : Option (DeadlineEntry × Origin × Handle) :=
  match a.pendingSplice with
  | none => none
  | some o =>
    match s.entryAt o with
    | none => none
    | some e =>
      match e.work with
      | .splice origin _ n => some (e, origin, n)
      | .wake .. => none

/-- The results of a wake ended by its clock: DISCONTINUITY, NO_TIMEBASE on STALE, RETIRED (R145). -/
def endedWakeBody (now : LocalTime) (bound : Handle) (p : RefValue) (due : LocalTime) : WakeBody :=
  { clock := bound, now, quality := none, p := some p, lead := none, due := some due, lateness := none }

/-- The completion of one WAKE entry ended by its clock, on its origin port (R150). -/
def State.endWake (ending : Ending) (s : State) (e : DeadlineEntry) : State :=
  match e.work with
  | .wake n tag _ b p => s.push n (.wakeDone tag ending (endedWakeBody s.lt b p e.due))
  | .splice .. => s

/-- Every WAKE entry bound to a clock is removed and completed, in list order; the wake count becomes 0 and the update
pending mark is cleared (R150). -/
def State.endWakes (s : State) (h : Handle) (ending : Ending) : State :=
  let hit := s.deadlines.filter (DeadlineEntry.isWakeOf h)
  let s1 := { s with deadlines := s.deadlines.filter fun e => !e.isWakeOf h }
  let s2 := hit.foldl (State.endWake ending) s1
  s2.updClock h fun c => { c with wakeCount := 0, updatePending := false }

/-- One WAKE fewer is bound to a clock (R22). -/
def State.lowerWakeCount (s : State) (h : Handle) : State :=
  s.updClock h fun c => { c with wakeCount := c.wakeCount - 1 }

/-- A SPLICE entry leaves the list without executing: its new target's alias count falls by one and its alias has no
pending splice (R151). -/
def State.dropSplice (s : State) (e : DeadlineEntry) (aliasHandle newTarget : Handle) : State :=
  (({ s with deadlines := s.deadlines.erase e }).lowerAliasCount newTarget).updAlias aliasHandle fun a =>
    { a with pendingSplice := none }

/-- The results of a SPLICE that ended without executing (R145). -/
def droppedSpliceBody (now : LocalTime) (aliasHandle newTarget : Handle) (due : LocalTime) : SpliceBody :=
  { aliasHandle, oldTarget := none, newTarget, now, due := some due }

/-- The origin of an ended splice is told: a completion on its port, or SPLICE_CANCELLED on the alias's slot (R151). -/
def State.tellSplice (s : State) (origin : Origin) (ending : Ending) (body : SpliceBody) : State :=
  match origin with
  | .port n tag => s.push n (.spliceDone tag ending body)
  | .management => s.notify body.aliasHandle.slot NoticeKind.spliceCancelled.flag

/-! ## Leases and retirement -/

/-- The record in a slot enters RETIRED (R34). -/
def State.enterRetired (s : State) (i : SlotNo) : State :=
  match (s.slot i).content with
  | .active _ (.ofClock _) =>
    s.putSlot i { gen := nextGen (s.slot i).gen, content := .retired .clockKind,
                  notices := retiredNotices (s.slot i).notices }
  | .active _ (.ofAlias a) =>
    (s.lowerAliasCount a.target).putSlot i
      { gen := nextGen (s.slot i).gen, content := .retired .aliasKind, notices := retiredNotices (s.slot i).notices }
  | .free | .retired _ => s

/-- A held lease is given up: its entry becomes free, its record's lease count falls by one, and a DRAINING record whose
last lease goes enters RETIRED (R40, R160). -/
def State.giveUpLease (s : State) (n : LeaseNo) (l : Lease) : State :=
  let s1 := (s.putLease n none).updRecord l.named (Record.updLeaseCount (· - 1))
  match s1.current l.named with
  | some (.draining _, r) => if r.leaseCount = 0 then s1.enterRetired l.named.slot else s1
  | some (.reserved, _) | some (.live, _) | none => s1

/-- One Lease Table entry is revoked when it names the record: the entry becomes free, the record's lease count falls, and
a REVOKED notice joins the holder's response queue (R33). -/
def State.revokeLease (h : Handle) (s : State) (n : LeaseNo) : State :=
  match s.lease n with
  | some l =>
    if l.named = h then
      ((s.putLease n none).updRecord h (Record.updLeaseCount (· - 1))).push l.port (.revoked n h)
    else s
  | none => s

/-- Every lease on a record is revoked in ascending lease number, and its REVOKED notice flag is set (R33). -/
def State.revokeAll (s : State) (h : Handle) : State :=
  ((List.finRange 16).foldl (State.revokeLease h) s).notify h.slot NoticeKind.revoked.flag

/-! ## The Query Engine -/

/-- The four numbers from a round-robin pointer on, wrapping from 3 to 0 (R63, R107). -/
def rotation (p : Fin 4) : List (Fin 4) := [p, p + 1, p + 2, p + 3]

/-- The port the Query Engine grants, and the request at the head of its queue (R107). -/
def State.granted (s : State) : Option (PortNo × QueuedRequest) :=
  (rotation s.qePtr).findSome? fun n => (s.port n).requests.head?.map fun q => (n, q)

/-- The granted request leaves its queue, and the pointer moves to the port after the one served (R107). -/
def State.serve (s : State) (n : PortNo) : State :=
  { s.updPort n fun p => { p with requests := p.requests.tail } with qePtr := n + 1 }

/-- A response to a request joins its port's response queue (R107, R108). -/
def State.respond (s : State) (n : PortNo) (code : PortCode) (tag : Byte) (a : PortAnswer) : State :=
  s.push n (.response code tag a)

/-! ## The management port -/

/-- The management request in progress. -/
def State.inProgress (s : State) : Option MgmtRequest :=
  match s.mgmt.req with
  | .inProgress r => some r
  | .none | .held _ => none

/-- The owner's answer becomes the held response (R178). -/
def State.hold (s : State) (code : MgmtCode) (a : MgmtAnswer) : State :=
  { s with mgmt := { s.mgmt with req := .held { code, answer := a } } }

/-! ## Transactions -/

/-- The transaction's next bit is sampled (R101, R175). `longest` bounds the bits kept; `selected` is what a FETCH whose
kind byte this bit completes selects. -/
def Transaction.sample {σ : Type} (longest : Nat) (selected : Option σ) (b : Bool) : Transaction σ → Transaction σ
  | .idle => .idle
  | .kind st bits =>
    let bits' := bits ++ [b]
    if bits'.length < 8 then .kind st bits'
    else if bytesOfBits bits' = [fetchKind] then .fetch st 0 selected
    else .request st bits' bits'.length (bytesOfBits bits' != [requestKind])
  | .request st bits n m => .request st (if n < longest then bits ++ [b] else bits) (n + 1) m
  | .fetch st n sel => .fetch st (n + 1) sel
  | .blocked => .blocked

/-- The next bit, when it is clear, completes the kind byte of a FETCH (R110, R180): 0xA2 ends in a clear bit.
DEDUCED, safe, log entry 8. -/
def Transaction.awaitsFetchBit {σ : Type} : Transaction σ → Bool
  | .kind _ bits => bytesOfBits (bits ++ [false]) == [fetchKind]
  | .idle | .request .. | .fetch .. | .blocked => false

/-- The state of a transaction receiver. -/
def Transaction.state {σ : Type} : Transaction σ → TxState
  | .idle => .idle
  | .kind .. => .kind
  | .request .. => .request
  | .fetch .. => .fetch
  | .blocked => .blocked

/-- The state a hard reset leaves a transaction receiver in when RST_N returns high (R101, R174). -/
def Transaction.released {σ : Type} (asserted : Bool) : Transaction σ := if asserted then .blocked else .idle

/-- What a FETCH of the port selects: a copy of the head of its response queue (R110). -/
def Port.selection (p : Port) : Option Selection := p.responses.head?.map fun e => { entry := e, inQueue := true }

/-- A port reset or a purge has removed the selected entry from the queue (R110, R111). -/
def loseSelection : Transaction Selection → Transaction Selection
  | .fetch st n sel => .fetch st n (sel.map fun x => { x with inQueue := false })
  | .idle => .idle
  | .kind st bits => .kind st bits
  | .request st bits n m => .request st bits n m
  | .blocked => .blocked

/-- What a management FETCH selects: a copy of the held response (R180). -/
def RequestState.selection : RequestState → Option HeldResponse
  | .held r => .some r
  | .none | .inProgress _ => .none

end Sys2Proof.Machine
end

