-- ==== Sys2Proof/Machine/Resolve.lean ====
section
/-! DEFINITION. Handle resolution and access: the fixed sequences of checks of chapter 3. A failing check answers its status
code and fault handle. -/

namespace Sys2Proof.Machine

/-- The result of a sequence of checks: what it yields, or the status and fault handle of the first check that failed. -/
inductive Checked (α : Type) where
  | pass (x : α)
  | fail (status : Status) (faultHandle : Handle)
  deriving DecidableEq, Repr

/-- What resolution yields (R41): the named handle and its record's phase, and the effective record's handle and fields. -/
structure Resolved where
  named : Handle
  phase : Phase
  eff : Handle
  clock : ClockRecord
  deriving DecidableEq, Repr

/-- Checks 1 and 2: the handle is not null, and it is current (R42). -/
def checkHandle (s : State) (h : Handle) : Checked (Phase × Record) :=
  if h = Handle.null then .fail .nullHandle Handle.null
  else
    match s.current h with
    | none => .fail .staleHandle h
    | some x => .pass x

/-- Check 5: the clock behind a record (R44). The record itself for a CLOCK; an ALIAS is followed once to its target,
which must not be RESERVED. R19 gives every such alias a current CLOCK as target; were there none, the answer is STALE_HANDLE: DESIGN CHOICE, safe, log
entry 6. -/
def follow (s : State) (h : Handle) : Record → Checked (Handle × ClockRecord)
  | .ofClock c => .pass (h, c)
  | .ofAlias a =>
    match s.current a.target with
    | some (.reserved, .ofClock _) => .fail .notLive a.target
    | some (_, .ofClock c) => .pass (a.target, c)
    | some (_, .ofAlias _) | none => .fail .staleHandle a.target

/-- Checks 1 to 7 for a port request at `level` that needs the use kind `use`; `fresh` says that check 7 applies, as it
does to LEASE and WAKE alone (R42 to R46). -/
def resolve (s : State) (level : Nat) (use : UseKind) (fresh : Bool) (h : Handle) : Checked Resolved :=
  match checkHandle s h with
  | .fail st f => .fail st f
  | .pass (ph, r) =>
    if ph = .reserved then .fail .notLive h
    else if r.level < level then .fail .level h
    else
      match follow s h r with
      | .fail st f => .fail st f
      | .pass (eff, c) =>
        if r.useSet.has use = false then .fail .use h
        else if c.cfg.useSet.has use = false then .fail .use eff
        else if fresh && ph.isDraining then .fail .draining h
        else .pass { named := h, phase := ph, eff, clock := c }

/-- The checks of the alias handle of a RETARGET, SPLICE or UNSPLICE from a port at `level` (R48). -/
def checkAliasFromPort (s : State) (level : Nat) (h : Handle) : Checked (Phase × AliasRecord) :=
  match checkHandle s h with
  | .fail st f => .fail st f
  | .pass (ph, r) =>
    if ph = .reserved then .fail .notLive h
    else if level ≠ 0 then .fail .level h
    else
      match r with
      | .ofClock _ => .fail .wrongKind h
      | .ofAlias a => .pass (ph, a)

/-- The checks of the alias handle of a RETARGET, SPLICE or UNSPLICE from the management port (R53). -/
def checkAliasFromMgmt (s : State) (h : Handle) : Checked (Phase × AliasRecord) :=
  match checkHandle s h with
  | .fail st f => .fail st f
  | .pass (_, .ofClock _) => .fail .wrongKind h
  | .pass (ph, .ofAlias a) => .pass (ph, a)

/-- The checks of the new-target handle of a RETARGET or SPLICE (R48). -/
def checkNewTarget (s : State) (h : Handle) : Checked ClockRecord :=
  match checkHandle s h with
  | .fail st f => .fail st f
  | .pass (_, .ofAlias _) => .fail .wrongKind h
  | .pass (.draining _, .ofClock _) => .fail .draining h
  | .pass (.reserved, .ofClock c) => .pass c
  | .pass (.live, .ofClock c) => .pass c

/-- The checks RETARGET and SPLICE share after the alias handle's own: the new target, then the alias in DRAINING, then a
pending splice (R164, R166). -/
def checkMove (s : State) (h newTarget : Handle) : Phase × AliasRecord → Checked AliasRecord
  | (ph, a) =>
    match checkNewTarget s newTarget with
    | .fail st f => .fail st f
    | .pass _ =>
      if ph.isDraining then .fail .draining h
      else if a.pendingSplice.isSome then .fail .busy h
      else .pass a

/-- A management request's checks of a handle that must name a CLOCK (R21, R95, R96). -/
def checkClock (s : State) (h : Handle) : Checked (Phase × ClockRecord) :=
  match checkHandle s h with
  | .fail st f => .fail st f
  | .pass (_, .ofAlias _) => .fail .wrongKind h
  | .pass (ph, .ofClock c) => .pass (ph, c)

end Sys2Proof.Machine
end

