-- ==== Sys2Proof/Machine/Bindings.lean ====
section
/-! DEFINITION. The Reference Intake's management requests: BIND, UNBIND, SET_INPUT_OFFSET. -/

namespace Sys2Proof.Machine

/-- The checks of a BIND, in their order (R66). -/
def checkBind (s : State) (input : Byte) (tag : StreamTag) (h : Handle) (role : Role) : Checked InputNo :=
  match checkHandle s h with
  | .fail st f => .fail st f
  | .pass (ph, r) =>
    match portOfByte input with
    | none => .fail .badValue Handle.null
    | some i =>
      if r.kind = .aliasKind then .fail .wrongKind h
      else if ph.isDraining then .fail .draining h
      else if (s.binding i tag).isSome then .fail .duplicateKey Handle.null
      else if s.roleBound h role then .fail .roleTaken Handle.null
      else if Config.bindingCapacity ≤ s.bindings.length then .fail .mapFull Handle.null
      else .pass i

/-- The active source of the clock a handle names. -/
def State.activeOf (s : State) (h : Handle) : Option Role := (s.clock h).bind fun c => c.active

/-- BIND (R66, R67). -/
def bindTag (input : Byte) (tag : StreamTag) (h : Handle) (role : Role) (s : State) : State :=
  match checkBind s input tag h role with
  | .fail st f => s.hold .bind (.refused st f)
  | .pass i =>
    let s1 := ({ s with bindings := { input := i, tag, clock := h, role } :: s.bindings }).updClock h fun c =>
      { c with active := c.active.or (some role) }
    s1.hold .bind (.ok (.activeSource (s1.activeOf h)))

/-- BIND (R66). -/
def execBind (s : State) : Host.Outcome State Fault Refusal :=
  taken s <|
    match s.inProgress with
    | some (.bind input tag h role) => bindTag input tag h role s
    | _ => s

/-- The active source after an entry of `role` has left the map, settled on a record whose active source was `role`: the
other role when it is bound, else none (R68). -/
def settledSource (s : State) (h : Handle) (role : Role) : Option Role :=
  if s.roleBound h role.other then some role.other else none

/-- An entry is removed, and its record's active source settled (R68). -/
def removeBinding (b : Binding) (s : State) : State :=
  let s1 := { s with bindings := s.bindings.erase b }
  if s.activeOf b.clock = some b.role then
    (s1.updClock b.clock fun c => { c with active := settledSource s1 b.clock b.role, rejectRun := 0 }).notify b.clock.slot
      (flagWhen (settledSource s1 b.clock b.role).isSome .sourceSwitch)
  else s1

/-- UNBIND (R68). -/
def unbindTag (input : Byte) (tag : StreamTag) (s : State) : State :=
  match portOfByte input with
  | none => s.hold .unbind (.refused .badValue Handle.null)
  | some i =>
    match s.binding i tag with
    | none => s.hold .unbind (.refused .notFound Handle.null)
    | some b =>
      let s1 := removeBinding b s
      s1.hold .unbind (.ok (.unbound b.clock b.role (s1.activeOf b.clock)))

/-- UNBIND (R68). -/
def execUnbind (s : State) : Host.Outcome State Fault Refusal :=
  taken s <|
    match s.inProgress with
    | some (.unbind input tag) => unbindTag input tag s
    | _ => s

/-- A stamp offset lies in its range (R59). -/
def offsetInRange (o : Int) : Bool := -1048576 ≤ o && o ≤ 1048575

/-- SET-INPUT-OFFSET (R60). -/
def setInputOffset (input : Byte) (o : Int) (s : State) : State :=
  match portOfByte input with
  | none => s.hold .setInputOffset (.refused .badValue Handle.null)
  | some i =>
    if offsetInRange o = false then s.hold .setInputOffset (.refused .badValue Handle.null)
    else (s.updInput i fun x => { x with offset := o }).hold .setInputOffset (.ok (.offset (s.input i).offset))

/-- SET_INPUT_OFFSET (R60). -/
def execSetInputOffset (s : State) : Host.Outcome State Fault Refusal :=
  taken s <|
    match s.inProgress with
    | some (.setInputOffset input o) => setInputOffset input o s
    | _ => s

end Sys2Proof.Machine
end

