-- ==== Sys2Proof/Machine/Clocking.lean ====
section
/-! DEFINITION. The count clock and the reset pin: LCLK_TICK, HARD_RESET, RESET_RELEASE. -/

namespace Sys2Proof.Machine

/-- LCLK_TICK (R1): LT rises by one modulo 2^48; while RST_N is low it stays. -/
def execLclkTick (s : State) : Host.Outcome State Fault Refusal := taken s { s with lt := s.lt + 1 }

/-- Every block in its initial state with RST_N low: what HARD_RESET leaves. The queue of waiting commands is no state of
the part and stays (R1, R38, R71, R99, R100, R107, R138, R174). -/
def hardReset (s : State) : State := { State.reset with rstLow := true, pending := s.pending }

/-- HARD_RESET (R38). -/
def execHardReset (s : State) : Host.Outcome State Fault Refusal := .next (hardReset s)

/-- The receivers of a part whose RST_N has returned high: BLOCKED where the strobe or chip select is asserted, IDLE
elsewhere (R56, R101, R174). -/
def releaseReset (sfs qcs : BitVec 4) (mcs : Bool) (s : State) : State :=
  { s with
    rstLow := false
    inputs := Vector.ofFn fun i => { s.input i with receiver := if sfs.getLsbD i.val then .blocked else .idle }
    ports := Vector.ofFn fun n => { s.port n with tx := Transaction.released (qcs.getLsbD n.val) }
    mgmt := { s.mgmt with tx := Transaction.released mcs } }

/-- RESET_RELEASE (R56): no edge, and so no event, unless RST_N is low. -/
def execResetRelease (sfs qcs : BitVec 4) (mcs : Bool) (s : State) : Host.Outcome State Fault Refusal :=
  .next (if s.rstLow then releaseReset sfs qcs mcs s else s)

end Sys2Proof.Machine
end

