-- ==== Sys2Proof/Machine/DeadlineUnit.lean ====
section
/-! DEFINITION. The Deadline Unit: UPDATE_NOTICE, WAKE_EXPIRY, SPLICE_EXPIRY, and the port requests WAKE and CANCEL. -/

namespace Sys2Proof.Machine

/-- The outcome of a wake judged by its lead: DUE at or above -L, TOO_LATE below (R140, R143, R146). -/
def wakeEnding (late : Nat) (l : Int) : Ending := if -(late : Int) ≤ l then .due else .tooLate

/-- The results of a wake fired by expiry or by a recompute (R145). -/
def firedWakeBody (now : LocalTime) (bound : Handle) (c : ClockRecord) (p : RefValue) (l : Int) (due : LocalTime) :
    WakeBody :=
  { clock := bound, now, quality := some { lock := c.lock, draining := false }, p := some p, lead := some l
    due := some due, lateness := some (now - due) }

/-! ## UPDATE_NOTICE -/

/-- What a recompute makes of one wake (R146). -/
inductive Recomputed where
  | jumped (lead : Option Int)
  | fired (lead : Int) (due : LocalTime)
  | moved (due : LocalTime)
  deriving DecidableEq, Repr

/-- The recompute of a wake for `p` on the clock's line at now (R146). -/
def recompute (c : ClockRecord) (now : LocalTime) (p : RefValue) : Recomputed :=
  match c.lead p now with
  | none => .jumped none
  | some l =>
    if (c.cfg.farEarly : Int) < l then .jumped (some l)
    else
      match c.inverse p with
      | none => .jumped (some l)
      | some d => if timeDiff now d ≤ 0 then .fired l d else .moved d

/-- One WAKE entry, already taken from the list, is recomputed: completed on its origin port, or put back in its place by
its new due LT and its unchanged arming order (R146). -/
def recomputeWake (c : ClockRecord) (s : State) (e : DeadlineEntry) : State :=
  match e.work with
  | .splice .. => s
  | .wake n tag _ b p =>
    match recompute c s.lt p with
    | .jumped l =>
      (s.push n (.wakeDone tag .jumped
        { clock := b, now := s.lt, quality := none, p := some p, lead := l, due := none, lateness := none })).lowerWakeCount b
    | .fired l d =>
      (s.push n (.wakeDone tag (wakeEnding c.cfg.lateTolerance l) (firedWakeBody s.lt b c p l d))).lowerWakeCount b
    | .moved d => { s with deadlines := insertEntry s.lt { e with due := d } s.deadlines }

/-- The mark of a record is cleared and every wake bound to it is recomputed, in list order (R146). -/
def recomputeAll (h : Handle) (c : ClockRecord) (s : State) : State :=
  let hit := s.deadlines.filter (DeadlineEntry.isWakeOf h)
  let s1 := { s with deadlines := s.deadlines.filter fun e => !e.isWakeOf h }
  hit.foldl (recomputeWake c) (s1.updClock h fun c => { c with updatePending := false })

/-- The Deadline Unit takes the set mark of the record in a slot (R93, R146). -/
def takeUpdateNotice (i : SlotNo) (s : State) : State :=
  match s.clock (s.handleOf i) with
  | none => s
  | some c => if c.updatePending then recomputeAll (s.handleOf i) c s else s

/-- UPDATE_NOTICE (R146). -/
def execUpdateNotice (i : SlotNo) (s : State) : Host.Outcome State Fault Refusal := taken s (takeUpdateNotice i s)

/-! ## Expiries -/

/-- A WAKE taken by expiry fires (R143). -/
def fireWake (e : DeadlineEntry) (n : PortNo) (tag : Byte) (b : Handle) (p : RefValue) (s : State) : State :=
  let body : Ending × WakeBody :=
    match s.clock b with
    | none =>
      (.noTimebase, endedWakeBody s.lt b p e.due)
    | some c =>
      match c.lead p s.lt with
      | none => (.noTimebase, endedWakeBody s.lt b p e.due)
      | some l => (wakeEnding c.cfg.lateTolerance l, firedWakeBody s.lt b c p l e.due)
  (s.push n (.wakeDone tag body.1 body.2)).lowerWakeCount b

/-- The head of the list, a WAKE whose due LT is reached, is taken (R142). -/
def takeWakeExpiry (s : State) : State :=
  match s.deadlines with
  | [] => s
  | e :: rest =>
    match e.work with
    | .splice .. => s
    | .wake n tag _ b p => if reached e.due s.lt then fireWake e n tag b p { s with deadlines := rest } else s

/-- WAKE_EXPIRY (R143). -/
def execWakeExpiry (s : State) : Host.Outcome State Fault Refusal := taken s (takeWakeExpiry s)

/-- An armed SPLICE, taken from the list, executes: the alias moves, the old target's count falls, and the origin is told
(R144). R19 keeps the alias current while the entry is armed; were it not, the entry would end as R30 ends it: DESIGN CHOICE, safe, log entry 6. -/
def executeSplice (e : DeadlineEntry) (origin : Origin) (h newTarget : Handle) (s : State) : State :=
  match s.current h with
  | some (_, .ofAlias a) =>
    let s1 := (s.updAlias h fun a => { a with target := newTarget, pendingSplice := none }).lowerAliasCount a.target
    match origin with
    | .port n tag =>
      s1.push n (.spliceDone tag .done
        { aliasHandle := h, oldTarget := some a.target, newTarget, now := s.lt, due := some e.due })
    | .management => s1.notify h.slot NoticeKind.spliceDone.flag
  | some (_, .ofClock _) | none =>
    match origin with
    | .port n tag => s.push n (.spliceDone tag .aliasRetired (droppedSpliceBody s.lt h newTarget e.due))
    | .management => s

/-- The head of the list, a SPLICE whose due LT is reached, is taken (R142). -/
def takeSpliceExpiry (s : State) : State :=
  match s.deadlines with
  | [] => s
  | e :: rest =>
    match e.work with
    | .wake .. => s
    | .splice origin h n => if reached e.due s.lt then executeSplice e origin h n { s with deadlines := rest } else s

/-- SPLICE_EXPIRY (R144). -/
def execSpliceExpiry (s : State) : Host.Outcome State Fault Refusal := taken s (takeSpliceExpiry s)

/-! ## WAKE -/

/-- What the tests of a WAKE decide (R140). -/
inductive WakeDecision where
  | refuse (status : Status) (faultHandle : Handle)
  | answer (ending : Ending) (body : WakeBody)
  | arm (bound : Handle) (due : LocalTime)
  deriving DecidableEq, Repr

/-- The tests of check 8 for a WAKE, in their order (R140). `full` says that the list holds 48 entries. -/
def judgeWake (r : Resolved) (now : LocalTime) (full : Bool) (p : RefValue) : WakeDecision :=
  if r.clock.lock.timeless then .refuse .noTimebase r.eff
  else
    match r.clock.lead p now with
    | none => .refuse .outOfRange r.eff
    | some l =>
      if (r.clock.cfg.farEarly : Int) < l then .refuse .tooEarly r.eff
      else if l ≤ 0 then
        .answer (wakeEnding r.clock.cfg.lateTolerance l)
          { clock := r.eff, now, quality := some { lock := r.clock.lock, draining := false }, p := some p
            lead := some l, due := none, lateness := none }
      else
        match r.clock.inverse p with
        | none => .refuse .outOfRange r.eff
        | some d => if full then .refuse .listFull r.named else .arm r.eff d

/-- A WAKE at its evaluation: resolution, then its own tests (R139, R140). -/
def decideWake (s : State) (n : PortNo) (h : Handle) (p : RefValue) : WakeDecision :=
  match resolve s (s.port n).level .wake true h with
  | .fail st f => .refuse st f
  | .pass r => judgeWake r s.lt s.listFull p

/-- A WAKE's result: a refusal, a completion at once, or an armed entry and one more wake on its clock (R140, R141). -/
def answerWake (n : PortNo) (tag : Byte) (named : Handle) (p : RefValue) (d : WakeDecision) (s : State) : State :=
  match d with
  | .refuse st f => s.respond n .wake tag (.refused st f)
  | .answer ending body => s.push n (.wakeDone tag ending body)
  | .arm bound due =>
    (s.arm due (.wake n tag named bound p)).updClock bound fun c => { c with wakeCount := c.wakeCount + 1 }

/-- WAKE (R139). -/
def execWake (s : State) : Host.Outcome State Fault Refusal :=
  taken s <|
    match s.granted with
    | some (n, { tag, request := .wake h p }) => answerWake n tag h p (decideWake s n h p) (s.serve n)
    | _ => s

/-! ## CANCEL -/

/-- A found entry is removed with its effects on counts, and completed CANCELLED on its own credit (R148). -/
def cancelEntry (e : DeadlineEntry) (n : PortNo) (s : State) : State :=
  match e.work with
  | .wake _ tag named b _ =>
    (({ s with deadlines := s.deadlines.erase e }).push n (.wakeDone tag .cancelled
      { clock := named, now := s.lt, quality := none, p := none, lead := none, due := some e.due
        lateness := none })).lowerWakeCount b
  | .splice origin h newTarget =>
    (s.dropSplice e h newTarget).tellSplice origin .cancelled (droppedSpliceBody s.lt h newTarget e.due)

/-- The kind of an entry. -/
def DeadlineEntry.kind (e : DeadlineEntry) : EntryKind :=
  match e.work with
  | .wake .. => .wake
  | .splice .. => .splice

/-- CANCEL of a tag: the earliest-armed entry of the port with that tag ends, and its completion joins the port's response
queue ahead of the CANCEL's own response (R148). -/
def cancelTag (n : PortNo) (own wanted : Byte) (s : State) : State :=
  match earliestArmed (s.deadlines.filter (DeadlineEntry.hasTag n wanted)) with
  | none => s.respond n .cancel own (.refused .notFound Handle.null)
  | some e => (cancelEntry e n s).respond n .cancel own (.ok (.cancel e.kind e.due))

/-- CANCEL (R148). -/
def execCancel (s : State) : Host.Outcome State Fault Refusal :=
  taken s <|
    match s.granted with
    | some (n, { tag, request := .cancel wanted }) => cancelTag n tag wanted (s.serve n)
    | _ => s

end Sys2Proof.Machine
end

