-- ==== Sys2Proof/Machine/Estimator.lean ====
section
/-! DEFINITION. The Estimator: SAMPLE_TAKE, SILENCE_EXPIRY, HOLDOVER_EXPIRY, and its management requests SET_ANCHOR and
SELECT_SOURCE. -/

namespace Sys2Proof.Machine

/-! ## What one sample of the active role does to a record (stages 3 to 9 of R74) -/

/-- What handling a sample leaves: the record, the notices it sets on the slot, and whether the record's wakes end with
DISCONTINUITY. -/
structure Handled where
  clock : ClockRecord
  notices : NoticeSet
  broke : Bool
  deriving DecidableEq, Repr

/-- The class of a compared sample (R81). -/
inductive SampleClass where
  | inWindow | outWindow | jumped
  deriving DecidableEq, Repr

/-- The class of an error against the lock window and jump limit (R81). -/
def classOf (w j : Nat) (e : Int) : SampleClass :=
  if e.natAbs ≤ w then .inWindow else if e.natAbs ≤ j then .outWindow else .jumped

/-- The record with its anchor at the sample, in ACQUIRING with counters 0 and no holdover: what a BREAK, an anchoring and
a re-anchor have in common (R78, R79, R83). -/
def ClockRecord.anchoredAt (c : ClockRecord) (a : Anchor) : ClockRecord :=
  { c with anchor := some a, lock := .acquiring, inCount := 0, outCount := 0, rejectRun := 0, holdover := none }

/-- The line point a sample gives. -/
def Sample.anchor (x : Sample) : Anchor := { lt := x.stamp, rv := x.rv }

/-- A BREAK sample in ACQUIRING, LOCKED or HOLDOVER (R78). -/
def breakReanchor (x : Sample) (c : ClockRecord) : Handled :=
  { clock := { c.anchoredAt x.anchor with updatePending := false }
    notices := NoticeKind.breakSeen.flag ||| flagWhen c.lock.trusted .lockLost
    broke := true }

/-- A sample in UNSET or STALE anchors the record (R79). -/
def anchoring (x : Sample) (c : ClockRecord) : Handled :=
  { clock := { c.anchoredAt x.anchor with updatePending := true }
    notices := flagWhen x.brk .breakSeen
    broke := false }

/-- A JUMP that re-anchors, or a forced re-anchor (R83). -/
def reanchor (x : Sample) (c : ClockRecord) : Handled :=
  { clock := { c.anchoredAt x.anchor with updatePending := true }
    notices := NoticeKind.jump.flag ||| flagWhen c.lock.trusted .lockLost
    broke := false }

/-- The line after an applied sample of error `e` (R82). -/
def applied (x : Sample) (e : Int) (c : ClockRecord) : ClockRecord :=
  { c with trim := nextTrim c.trim e c.cfg.gainShift, anchor := some x.anchor, rejectRun := 0, updatePending := true }

/-- An IN sample, already applied: the lock counters and lock state (R85, R86, R87). -/
def countIn (c : ClockRecord) : ClockRecord × NoticeSet :=
  match c.lock with
  | .acquiring =>
    if c.cfg.enterCount ≤ c.inCount + 1 then
      ({ c with lock := .locked, inCount := 0, outCount := 0 }, NoticeKind.lockGained.flag)
    else ({ c with inCount := c.inCount + 1 }, 0)
  | .locked => ({ c with outCount := 0 }, 0)
  | .holdover => ({ c with lock := .locked, inCount := 0, outCount := 0, holdover := none }, NoticeKind.lockGained.flag)
  | .unset | .stale => (c, 0)

/-- An OUT sample, already applied: the lock counters and lock state (R85, R86, R87). -/
def countOut (c : ClockRecord) : ClockRecord × NoticeSet :=
  match c.lock with
  | .acquiring => ({ c with inCount := 0 }, 0)
  | .locked =>
    if c.cfg.leaveCount ≤ c.outCount + 1 then
      ({ c with lock := .acquiring, inCount := 0, outCount := 0 }, NoticeKind.lockLost.flag)
    else ({ c with outCount := c.outCount + 1 }, 0)
  | .holdover => ({ c with lock := .acquiring, inCount := 0, outCount := 0, holdover := none }, NoticeKind.lockLost.flag)
  | .unset | .stale => (c, 0)

/-- A JUMP sample, by the record's jump policy (R83, R84). -/
def jumpSample (x : Sample) (c : ClockRecord) : Handled :=
  match c.cfg.jumpPolicy with
  | .reanchor => reanchor x c
  | .reject =>
    if c.cfg.rejectLimit ≤ c.rejectRun + 1 then reanchor x c
    else { clock := { c with rejectRun := c.rejectRun + 1 }, notices := 0, broke := false }

/-- A compared sample of error `e`: the last error, then the sample's class (R81 to R87). -/
def compared (x : Sample) (e : Int) (c : ClockRecord) : Handled :=
  let c1 := { c with lastError := some (saturate32 e) }
  match classOf c.cfg.lockWindow c.cfg.jumpLimit e with
  | .inWindow => let r := countIn (applied x e c1); { clock := r.1, notices := r.2, broke := false }
  | .outWindow => let r := countOut (applied x e c1); { clock := r.1, notices := r.2, broke := false }
  | .jumped => jumpSample x c1

/-- Stages 3 to 8 for a sample of the active role (R78 to R87). A record in ACQUIRING, LOCKED or HOLDOVER has an anchor;
were there none, the sample would anchor it by R79: DESIGN CHOICE, safe, log entry 6. -/
def handleSample (x : Sample) (c : ClockRecord) : Handled :=
  if c.lock.timeless then anchoring x c
  else if x.brk then breakReanchor x c
  else
    match c.anchor with
    | none => anchoring x c
    | some a =>
      let d := timeDiff a.lt x.stamp
      if inSpan d = false then reanchor x c
      else if d ≤ 0 then { clock := c, notices := 0, broke := false }
      else
        match projection a c.trim x.stamp with
        | none => reanchor x c
        | some q => compared x (rvDiff q x.rv) c

/-- Stage 9: in ACQUIRING or LOCKED the silence timer starts again at now (R88). -/
def restartSilence (now : LocalTime) (c : ClockRecord) : ClockRecord :=
  match c.lock with
  | .acquiring | .locked => { c with silence := some (startTimer now c.cfg.silenceMs) }
  | .unset | .holdover | .stale => c

/-- A role is heard at now (R76). -/
def ClockRecord.hear (c : ClockRecord) (r : Role) (now : LocalTime) : ClockRecord :=
  match r with
  | .primary => { c with heardPrimary := some now }
  | .standby => { c with heardStandby := some now }

/-- The last-heard LT of a role. -/
def ClockRecord.heard (c : ClockRecord) : Role → Option LocalTime
  | .primary => c.heardPrimary
  | .standby => c.heardStandby

/-! ## SAMPLE_TAKE -/

/-- The record a sample names, with the sample's generation and LIVE (R75). -/
def State.liveClock (s : State) (h : Handle) : Option ClockRecord :=
  match s.current h with
  | some (.live, .ofClock c) => some c
  | some (.live, .ofAlias _) | some (.reserved, _) | some (.draining _, _) | none => none

/-- A sample of the active role, on the record as stages 1 and 2 left it: stages 3 to 9 (R74). -/
def applySample (x : Sample) (c : ClockRecord) (s : State) : State :=
  let r := handleSample x c
  let s1 := (s.updClock x.clock fun _ => restartSilence s.lt r.clock).notify x.clock.slot r.notices
  if r.broke then s1.endWakes x.clock .discontinuity else s1

/-- A taken sample, through the stages of R74: the record check, the role filter with its takeover, then the stages for a
sample of the active role (R75 to R77). -/
def useSample (x : Sample) (s : State) : State :=
  match s.liveClock x.clock with
  | none => s
  | some c =>
    if s.roleBound x.clock x.role = false then s
    else
      let c1 := c.hear x.role s.lt
      if c.active = some x.role then applySample x c1 s
      else if c.lock.timeless || c.lock == .holdover then
        applySample x { c1 with active := some x.role, rejectRun := 0 }
          (s.notify x.clock.slot NoticeKind.sourceSwitch.flag)
      else s.updClock x.clock fun _ => c1

/-- The next occupied holding slot from the Estimator's pointer on, and its sample (R63). -/
def State.nextSample (s : State) : Option (InputNo × Sample) :=
  (rotation s.estPtr).findSome? fun n => (s.input n).holding.map fun x => (n, x)

/-- The Estimator takes the next held sample: the holding slot becomes empty, the pointer moves past it, and the sample
is used. With every holding slot empty it takes nothing (R63). -/
def takeSample (s : State) : State :=
  match s.nextSample with
  | none => s
  | some (n, x) => useSample x { s.updInput n (fun i => { i with holding := none }) with estPtr := n + 1 }

/-- SAMPLE_TAKE (R74). -/
def execSampleTake (s : State) : Host.Outcome State Fault Refusal := taken s (takeSample s)

/-! ## Silence and holdover -/

/-- The record enters STALE (R92). -/
def enterStale (h : Handle) (s : State) : State :=
  ((s.updClock h fun c =>
      { c with lock := .stale, silence := none, holdover := none, inCount := 0, outCount := 0, rejectRun := 0 }).notify
    h.slot NoticeKind.stale.flag).endWakes h .noTimebase

/-- The role a silence expiry switches to: the other role, bound, and heard within one silence timeout (R89). -/
def switchRole (h : Handle) (c : ClockRecord) (s : State) : Option Role :=
  match c.active with
  | none => none
  | some r =>
    match c.heard r.other with
    | none => none
    | some t =>
      if s.roleBound h r.other && decide (timeDiff t s.lt ≤ (msTicks c.cfg.silenceMs : Int)) then some r.other else none

/-- A silence expiry of the record (R89, R90). -/
def silenceExpired (h : Handle) (c : ClockRecord) (s : State) : State :=
  match switchRole h c s with
  | some r =>
    (s.updClock h fun c =>
      { c with active := some r, rejectRun := 0, silence := some (startTimer s.lt c.cfg.silenceMs) }).notify h.slot
      NoticeKind.sourceSwitch.flag
  | none =>
    match c.lock with
    | .locked =>
      if c.cfg.holdoverMs = 0 then enterStale h s
      else
        (s.updClock h fun c =>
          { c with lock := .holdover, silence := none, holdover := some (startTimer s.lt c.cfg.holdoverMs) }).notify
          h.slot NoticeKind.holdover.flag
    | .acquiring => enterStale h s
    | .unset | .holdover | .stale => s

/-- The silence deadline of the LIVE clock in a slot is reached (R4). -/
def takeSilenceExpiry (i : SlotNo) (s : State) : State :=
  match s.liveClock (s.handleOf i) with
  | none => s
  | some c =>
    match c.silence with
    | none => s
    | some t => if reached t.deadline s.lt then silenceExpired (s.handleOf i) c s else s

/-- SILENCE_EXPIRY (R89). -/
def execSilenceExpiry (i : SlotNo) (s : State) : Host.Outcome State Fault Refusal := taken s (takeSilenceExpiry i s)

/-- The holdover deadline of the LIVE clock in a slot is reached (R4, R91). -/
def takeHoldoverExpiry (i : SlotNo) (s : State) : State :=
  match s.liveClock (s.handleOf i) with
  | none => s
  | some c =>
    match c.holdover with
    | none => s
    | some t => if reached t.deadline s.lt then enterStale (s.handleOf i) s else s

/-- HOLDOVER_EXPIRY (R91). -/
def execHoldoverExpiry (i : SlotNo) (s : State) : Host.Outcome State Fault Refusal := taken s (takeHoldoverExpiry i s)

/-! ## SET_ANCHOR and SELECT_SOURCE -/

/-- A trim lies in its range (R7). -/
def trimInRange (r : Int) : Bool := -Config.trimLimit ≤ r && r ≤ Config.trimLimit

/-- The record after an accepted SET-ANCHOR (R95). -/
def ClockRecord.placed (c : ClockRecord) (live : Bool) (now : LocalTime) (rv : RefValue) (trim : Int) : ClockRecord :=
  { c.anchoredAt { lt := now, rv } with
    trim, updatePending := true
    silence := if live then some (startTimer now c.cfg.silenceMs) else c.silence }

/-- SET-ANCHOR: its checks, and the line it places (R95). -/
def setAnchor (h : Handle) (rv : RefValue) (trim : Int) (s : State) : State :=
  match checkClock s h with
  | .fail st f => s.hold .setAnchor (.refused st f)
  | .pass (ph, c) =>
    if ph.isDraining then s.hold .setAnchor (.refused .draining h)
    else if trimInRange trim = false then s.hold .setAnchor (.refused .badValue Handle.null)
    else
      ((s.updClock h fun c => c.placed (ph == .live) s.lt rv trim).notify h.slot
        (flagWhen c.lock.trusted .lockLost)).hold .setAnchor (.ok (.lockState c.lock))

/-- SET_ANCHOR (R95). -/
def execSetAnchor (s : State) : Host.Outcome State Fault Refusal :=
  taken s <|
    match s.inProgress with
    | some (.setAnchor h rv trim) => setAnchor h rv trim s
    | _ => s

/-- SELECT-SOURCE: its checks, and the change of active source (R96). -/
def selectSource (h : Handle) (r : Role) (s : State) : State :=
  match checkClock s h with
  | .fail st f => s.hold .selectSource (.refused st f)
  | .pass (_, c) =>
    if s.roleBound h r = false then s.hold .selectSource (.refused .notFound Handle.null)
    else if c.active = some r then s.hold .selectSource (.ok (.activeSource (some r)))
    else
      ((s.updClock h fun c => { c with active := some r, rejectRun := 0 }).notify h.slot
        NoticeKind.sourceSwitch.flag).hold .selectSource (.ok (.activeSource (some r)))

/-- SELECT_SOURCE (R96). -/
def execSelectSource (s : State) : Host.Outcome State Fault Refusal :=
  taken s <|
    match s.inProgress with
    | some (.selectSource h r) => selectSource h r s
    | _ => s

end Sys2Proof.Machine
end

