-- ==== Sys2Proof/Machine/Intake.lean ====
section
/-! DEFINITION. The Reference Intake: FRAME_START, INPUT_BIT_SAMPLED, FRAME_END, RECEIVER_UNBLOCK. -/

namespace Sys2Proof.Machine

/-- Assertion of SFSn: an IDLE receiver enters ASSEMBLING with a bit count of 0 (R56). -/
def startFrame (n : InputNo) (s : State) : State :=
  match (s.input n).receiver with
  | .idle => s.updInput n fun i => { i with receiver := .assembling 0 [] }
  | .assembling .. | .blocked => s

/-- FRAME_START (R56). -/
def execFrameStart (n : InputNo) (s : State) : Host.Outcome State Fault Refusal := taken s (startFrame n s)

/-- A rising edge of SCKn: an ASSEMBLING receiver counts the bit, and keeps it among the first 72 (R56). -/
def sampleInputBit (n : InputNo) (bit : Bool) (s : State) : State :=
  match (s.input n).receiver with
  | .assembling count bits =>
    s.updInput n fun i =>
      { i with receiver := .assembling (count + 1) (if count < Config.sampleFrameBits then bits ++ [bit] else bits) }
  | .idle | .blocked => s

/-- INPUT_BIT_SAMPLED (R56). -/
def execInputBitSampled (n : InputNo) (bit : Bool) (s : State) : Host.Outcome State Fault Refusal :=
  taken s (sampleInputBit n bit s)

/-- A sample joins the input's holding slot; replacing one sets OVERRUN (R62). -/
def holdSample (n : InputNo) (x : Sample) (s : State) : State :=
  s.updInput n fun i =>
    { i with holding := some x, notices := i.notices ||| flagWhen i.holding.isSome .overrun }

/-- The arrival stamp: now plus the input's stamp offset (R59). -/
def arrivalStamp (s : State) (n : InputNo) : LocalTime := s.lt + BitVec.ofInt 48 (s.input n).offset

/-- What a frame end does with the bits received: a damaged frame sets BAD_FRAME, an intact frame without a binding sets
UNBOUND_TAG, and a bound one becomes the input's held sample (R57 to R62). -/
def takeFrame (n : InputNo) (count : Nat) (bits : List Bool) (s : State) : State :=
  match readSampleFrame count bits with
  | none => s.notifyInput n NoticeKind.badFrame.flag
  | some f =>
    match s.binding n f.tag with
    | none => s.notifyInput n NoticeKind.unboundTag.flag
    | some b => holdSample n { clock := b.clock, role := b.role, stamp := arrivalStamp s n, rv := f.rv, brk := f.brk } s

/-- Deassertion of SFSn in ASSEMBLING: the receiver returns to IDLE and the frame is taken (R56, R57). -/
def endFrame (n : InputNo) (s : State) : State :=
  match (s.input n).receiver with
  | .assembling count bits => takeFrame n count bits (s.updInput n fun i => { i with receiver := .idle })
  | .idle | .blocked => s

/-- FRAME_END (R57). -/
def execFrameEnd (n : InputNo) (s : State) : Host.Outcome State Fault Refusal := taken s (endFrame n s)

/-- Deassertion of SFSn in BLOCKED: the receiver returns to IDLE with no frame end and no notice (R56). -/
def unblockReceiver (n : InputNo) (s : State) : State :=
  match (s.input n).receiver with
  | .blocked => s.updInput n fun i => { i with receiver := .idle }
  | .idle | .assembling .. => s

/-- RECEIVER_UNBLOCK (R56). -/
def execReceiverUnblock (n : InputNo) (s : State) : Host.Outcome State Fault Refusal := taken s (unblockReceiver n s)

end Sys2Proof.Machine
end

