-- ==== Sys2Proof/Machine/Leases.lean ====
section
/-! DEFINITION. Leases, retargeting and splicing: LEASE, RELEASE, RETARGET, SPLICE, UNSPLICE, and the management forms
MGMT_RETARGET, MGMT_SPLICE, MGMT_UNSPLICE. -/

namespace Sys2Proof.Machine

/-! ## Leases -/

/-- The lowest-numbered free entry of the Lease Table (R158). -/
def State.freeLease (s : State) : Option LeaseNo := (List.finRange 16).find? fun n => (s.lease n).isNone

/-- A lease is granted: entry, record's lease count, port's lease-use count, and the response (R158). -/
def grantLease (k : LeaseNo) (n : PortNo) (tag : Byte) (r : Resolved) (s : State) : State :=
  (((s.putLease k (some { port := n, named := r.named, grant := s.lt })).updRecord r.named
    (Record.updLeaseCount (· + 1))).updPort n fun p => { p with leaseUse := p.leaseUse + 1 }).respond n .lease tag
    (.ok (.lease k r.named s.lt r.eff))

/-- LEASE at its evaluation: resolution, the lease-use check, the grant (R157, R158). R112 leaves a free entry to every
port whose lease-use count is below 4; were there none, the answer is LEASE_LIMIT: DESIGN CHOICE, safe, log entry 6. -/
def takeLease (n : PortNo) (tag : Byte) (h : Handle) (s : State) : State :=
  match resolve s (s.port n).level .lease true h with
  | .fail st f => s.respond n .lease tag (.refused st f)
  | .pass r =>
    if Config.leaseUseLimit ≤ (s.port n).leaseUse then s.respond n .lease tag (.refused .leaseLimit h)
    else
      match s.freeLease with
      | none => s.respond n .lease tag (.refused .leaseLimit h)
      | some k => grantLease k n tag r s

/-- LEASE (R157). -/
def execLease (s : State) : Host.Outcome State Fault Refusal :=
  taken s <|
    match s.granted with
    | some (n, { tag, request := .lease h }) => takeLease n tag h (s.serve n)
    | _ => s

/-- The lease a RELEASE from a port names: number up to 15, held, by that port (R160). -/
def State.leaseHeldBy (s : State) (n : PortNo) (number : Byte) : Option (LeaseNo × Lease) :=
  if h : number.toNat < 16 then
    match s.lease ⟨number.toNat, h⟩ with
    | some l => if l.port = n then some (⟨number.toNat, h⟩, l) else none
    | none => none
  else none

/-- RELEASE at its evaluation (R160). -/
def takeRelease (n : PortNo) (tag number : Byte) (s : State) : State :=
  match s.leaseHeldBy n number with
  | none => s.respond n .release tag (.refused .notFound Handle.null)
  | some (k, l) =>
    let s1 := (s.giveUpLease k l).updPort n fun p => { p with leaseUse := p.leaseUse - 1 }
    s1.respond n .release tag (.ok (.release k l.named l.grant (s1.slot l.named.slot).content.lifecycle))

/-- RELEASE (R160). -/
def execRelease (s : State) : Host.Outcome State Fault Refusal :=
  taken s <|
    match s.granted with
    | some (n, { tag, request := .release number }) => takeRelease n tag number (s.serve n)
    | _ => s

/-! ## RETARGET -/

/-- An alias moves to another clock at once (R165): its target, the new target's count, the old target's count. -/
def moveAlias (h : Handle) (a : AliasRecord) (newTarget : Handle) (s : State) : State :=
  ((s.raiseAliasCount newTarget).updAlias h fun a => { a with target := newTarget }).lowerAliasCount a.target

/-- RETARGET from a port, at its evaluation (R164, R165). -/
def takeRetarget (n : PortNo) (tag : Byte) (h newTarget : Handle) (s : State) : State :=
  match checkAliasFromPort s (s.port n).level h with
  | .fail st f => s.respond n .retarget tag (.refused st f)
  | .pass x =>
    match checkMove s h newTarget x with
    | .fail st f => s.respond n .retarget tag (.refused st f)
    | .pass a => (moveAlias h a newTarget s).respond n .retarget tag (.ok (.retarget h a.target newTarget))

/-- RETARGET (R164). -/
def execRetarget (s : State) : Host.Outcome State Fault Refusal :=
  taken s <|
    match s.granted with
    | some (n, { tag, request := .retarget h newTarget }) => takeRetarget n tag h newTarget (s.serve n)
    | _ => s

/-- RETARGET from the management port (R53, R164, R165). -/
def mgmtRetarget (h newTarget : Handle) (s : State) : State :=
  match checkAliasFromMgmt s h with
  | .fail st f => s.hold .retarget (.refused st f)
  | .pass x =>
    match checkMove s h newTarget x with
    | .fail st f => s.hold .retarget (.refused st f)
    | .pass a => (moveAlias h a newTarget s).hold .retarget (.ok (.retarget h a.target newTarget))

/-- MGMT_RETARGET (R165, R172). -/
def execMgmtRetarget (s : State) : Host.Outcome State Fault Refusal :=
  taken s <|
    match s.inProgress with
    | some (.retarget h newTarget) => mgmtRetarget h newTarget s
    | _ => s

/-! ## SPLICE -/

/-- A splice time is not later than now (R3, R166). -/
def timePast (t now : LocalTime) : Bool := timeDiff now t ≤ 0

/-- A SPLICE is armed: its entry, its new target's alias count, and the alias's pending splice (R168). -/
def armSplice (origin : Origin) (h newTarget : Handle) (t : LocalTime) (s : State) : State :=
  ((s.arm t (.splice origin h newTarget)).raiseAliasCount newTarget).updAlias h fun a =>
    { a with pendingSplice := some s.nextOrder }

/-- SPLICE from a port, at its evaluation (R166, R167, R168). -/
def takeSplice (n : PortNo) (tag : Byte) (h newTarget : Handle) (t : LocalTime) (s : State) : State :=
  match checkAliasFromPort s (s.port n).level h with
  | .fail st f => s.respond n .splice tag (.refused st f)
  | .pass x =>
    match checkMove s h newTarget x with
    | .fail st f => s.respond n .splice tag (.refused st f)
    | .pass a =>
      if timePast t s.lt then
        (moveAlias h a newTarget s).push n (.spliceDone tag .done
          { aliasHandle := h, oldTarget := some a.target, newTarget, now := s.lt, due := none })
      else if s.listFull then s.respond n .splice tag (.refused .listFull h)
      else armSplice (.port n tag) h newTarget t s

/-- SPLICE (R166). -/
def execSplice (s : State) : Host.Outcome State Fault Refusal :=
  taken s <|
    match s.granted with
    | some (n, { tag, request := .splice h newTarget t }) => takeSplice n tag h newTarget t (s.serve n)
    | _ => s

/-- SPLICE from the management port (R53, R166, R167, R168). -/
def mgmtSplice (h newTarget : Handle) (t : LocalTime) (s : State) : State :=
  match checkAliasFromMgmt s h with
  | .fail st f => s.hold .splice (.refused st f)
  | .pass x =>
    match checkMove s h newTarget x with
    | .fail st f => s.hold .splice (.refused st f)
    | .pass a =>
      if timePast t s.lt then
        (moveAlias h a newTarget s).hold .splice (.ok (.spliceExecuted h a.target newTarget s.lt))
      else if s.listFull then s.hold .splice (.refused .listFull Handle.null)
      else (armSplice .management h newTarget t s).hold .splice (.ok (.spliceArmed h newTarget t))

/-- MGMT_SPLICE (R166, R172). -/
def execMgmtSplice (s : State) : Host.Outcome State Fault Refusal :=
  taken s <|
    match s.inProgress with
    | some (.splice h newTarget t) => mgmtSplice h newTarget t s
    | _ => s

/-! ## UNSPLICE -/

/-- A pending splice is withdrawn: its entry ends without executing and its origin is told (R170). -/
def withdrawSplice (h : Handle) (e : DeadlineEntry) (origin : Origin) (newTarget : Handle) (s : State) : State :=
  (s.dropSplice e h newTarget).tellSplice origin .cancelled (droppedSpliceBody s.lt h newTarget e.due)

/-- UNSPLICE from a port, at its evaluation (R170). -/
def takeUnsplice (n : PortNo) (tag : Byte) (h : Handle) (s : State) : State :=
  match checkAliasFromPort s (s.port n).level h with
  | .fail st f => s.respond n .unsplice tag (.refused st f)
  | .pass (_, a) =>
    match s.pendingEntry a with
    | none => s.respond n .unsplice tag (.refused .notFound h)
    | some (e, origin, newTarget) =>
      (withdrawSplice h e origin newTarget s).respond n .unsplice tag (.ok (.unsplice h newTarget e.due origin))

/-- UNSPLICE (R170). -/
def execUnsplice (s : State) : Host.Outcome State Fault Refusal :=
  taken s <|
    match s.granted with
    | some (n, { tag, request := .unsplice h }) => takeUnsplice n tag h (s.serve n)
    | _ => s

/-- UNSPLICE from the management port (R53, R170). -/
def mgmtUnsplice (h : Handle) (s : State) : State :=
  match checkAliasFromMgmt s h with
  | .fail st f => s.hold .unsplice (.refused st f)
  | .pass (_, a) =>
    match s.pendingEntry a with
    | none => s.hold .unsplice (.refused .notFound Handle.null)
    | some (e, origin, newTarget) =>
      (withdrawSplice h e origin newTarget s).hold .unsplice (.ok (.unsplice h newTarget e.due origin))

/-- MGMT_UNSPLICE (R170, R172). -/
def execMgmtUnsplice (s : State) : Host.Outcome State Fault Refusal :=
  taken s <|
    match s.inProgress with
    | some (.unsplice h) => mgmtUnsplice h s
    | _ => s

end Sys2Proof.Machine
end

