-- ==== Sys2Proof/Machine/Management.lean ====
section
/-! DEFINITION. The management port and the attention logic: MGMT_SELECT, MGMT_BIT_SAMPLED, MGMT_FETCH_SELECT,
MGMT_REQUEST_END, MGMT_FETCH_END, MGMT_PORT_UNBLOCK, SET_PORT_LEVEL, PORT_RESET, READ_PORT, READ_IDENTITY, READ_TIME,
SET_MASK, NEXT_NOTICE, PURGE. -/

namespace Sys2Proof.Machine

/-! ## Management transactions -/

/-- The state with the management port replaced. -/
def State.putMgmt (s : State) (m : MgmtPort) : State := { s with mgmt := m }

/-- Assertion of MCS_N in IDLE: the status byte is captured, and the transaction is in KIND (R175, R176). -/
def selectMgmt (s : State) : State :=
  match s.mgmt.tx with
  | .idle => s.putMgmt { s.mgmt with tx := .kind s.mgmtStatusByte [] }
  | .kind .. | .request .. | .fetch .. | .blocked => s

/-- MGMT_SELECT (R176). -/
def execMgmtSelect (s : State) : Host.Outcome State Fault Refusal := taken s (selectMgmt s)

/-- A rising edge of MSCK (R175). When the bit completes a FETCH kind byte, the held response is selected (R180). -/
def sampleMgmtBit (bit : Bool) (m : MgmtPort) : MgmtPort :=
  { m with tx := m.tx.sample Config.mgmtFrameBits m.req.selection bit }

/-- MGMT_BIT_SAMPLED (R175). -/
def execMgmtBitSampled (bit : Bool) (s : State) : Host.Outcome State Fault Refusal :=
  taken s (s.putMgmt (sampleMgmtBit bit s.mgmt))

/-- The rising edge of MSCK that completes a FETCH kind byte (R180). -/
def completeMgmtFetchKind (m : MgmtPort) : MgmtPort := if m.tx.awaitsFetchBit then sampleMgmtBit false m else m

/-- MGMT_FETCH_SELECT (R180). -/
def execMgmtFetchSelect (s : State) : Host.Outcome State Fault Refusal :=
  taken s (s.putMgmt (completeMgmtFetchKind s.mgmt))

/-- A well-formed REQUEST is taken when the request state is NONE, and collides otherwise (R177). -/
def takeMgmtRequest (r : MgmtRequest) (m : MgmtPort) : MgmtPort :=
  match m.req with
  | .none => { m with req := .inProgress r }
  | .inProgress _ | .held _ => { m with collide := true }

/-- Deassertion of MCS_N in KIND or REQUEST (R175, R177). -/
def endMgmtRequest (m : MgmtPort) : MgmtPort :=
  match m.tx with
  | .kind _ [] => { m with tx := .idle }
  | .kind _ (_ :: _) => { m with tx := .idle, collide := true }
  | .request _ bits count malformed =>
    match judgeMgmtFrame bits count malformed with
    | none => { m with tx := .idle, collide := true }
    | some r => { takeMgmtRequest r m with tx := .idle }
  | .idle | .fetch .. | .blocked => m

/-- MGMT_REQUEST_END (R177). -/
def execMgmtRequestEnd (s : State) : Host.Outcome State Fault Refusal := taken s (s.putMgmt (endMgmtRequest s.mgmt))

/-- The FETCH completes: the bits clocked after the kind byte cover the whole held response (R180). -/
def mgmtFetchCompletes (count : Nat) : Option HeldResponse → Bool
  | none => false
  | some r => decide (8 * r.bytes.length ≤ count)

/-- Deassertion of MCS_N in FETCH (R180). -/
def endMgmtFetch (m : MgmtPort) : MgmtPort :=
  match m.tx with
  | .fetch st count sel =>
    { m with
      tx := .idle
      req := if mgmtFetchCompletes count sel then .none else m.req
      collide := m.collide && !reportedCollide st }
  | .idle | .kind .. | .request .. | .blocked => m

/-- MGMT_FETCH_END (R180). -/
def execMgmtFetchEnd (s : State) : Host.Outcome State Fault Refusal := taken s (s.putMgmt (endMgmtFetch s.mgmt))

/-- Deassertion of MCS_N in BLOCKED (R175). -/
def unblockMgmt (m : MgmtPort) : MgmtPort :=
  match m.tx with
  | .blocked => { m with tx := .idle }
  | .idle | .kind .. | .request .. | .fetch .. => m

/-- MGMT_PORT_UNBLOCK (R175). -/
def execMgmtPortUnblock (s : State) : Host.Outcome State Fault Refusal := taken s (s.putMgmt (unblockMgmt s.mgmt))

/-! ## Port management -/

/-- SET-PORT-LEVEL (R114). -/
def setPortLevel (port level : Byte) (s : State) : State :=
  match portOfByte port with
  | none => s.hold .setPortLevel (.refused .badValue Handle.null)
  | some n =>
    if 3 < level.toNat then s.hold .setPortLevel (.refused .badValue Handle.null)
    else (s.updPort n fun p => { p with level := level.toNat }).hold .setPortLevel (.ok (.level (s.port n).level))

/-- SET_PORT_LEVEL (R114). -/
def execSetPortLevel (s : State) : Host.Outcome State Fault Refusal :=
  taken s <|
    match s.inProgress with
    | some (.setPortLevel port level) => setPortLevel port level s
    | _ => s

/-- A REVOKED notice. -/
def ResponseEntry.isRevoked : ResponseEntry → Bool
  | .revoked .. => true
  | .response .. | .wakeDone .. | .spliceDone .. => false

/-- The snapshot of a port at an instant (R115, R179). -/
def Port.snapshot (p : Port) (now : LocalTime) : PortSnapshot :=
  { now, level := p.level, credits := p.credits, requests := p.requests.length, responses := p.responses.length
    revoked := p.responses.countP ResponseEntry.isRevoked, leaseUse := p.leaseUse, refused := p.refused
    framing := p.framing, purged := p.purged, tx := p.tx.state }

/-- READ-PORT (R115). -/
def readPort (port : Byte) (s : State) : State :=
  match portOfByte port with
  | none => s.hold .readPort (.refused .badValue Handle.null)
  | some n => s.hold .readPort (.ok (.port ((s.port n).snapshot s.lt)))

/-- READ_PORT (R115). -/
def execReadPort (s : State) : Host.Outcome State Fault Refusal :=
  taken s <|
    match s.inProgress with
    | some (.readPort port) => readPort port s
    | _ => s

/-- A Deadline List entry removed without completion: the effects on counts (R153). -/
def forgetEntry (s : State) (e : DeadlineEntry) : State :=
  match e.work with
  | .wake _ _ _ b _ => s.lowerWakeCount b
  | .splice _ h newTarget => (s.lowerAliasCount newTarget).updAlias h fun a => { a with pendingSplice := none }

/-- Every entry of a port is removed from the Deadline List (R153). -/
def forgetEntries (n : PortNo) (s : State) : State :=
  (s.deadlines.filter (DeadlineEntry.isFrom n)).foldl forgetEntry
    { s with deadlines := s.deadlines.filter fun e => !e.isFrom n }

/-- One Lease Table entry is given up when the port holds it (R40). -/
def giveUpIfHeldBy (n : PortNo) (s : State) (k : LeaseNo) : State :=
  match s.lease k with
  | some l => if l.port = n then s.giveUpLease k l else s
  | none => s

/-- Every lease of a port is given up without a REVOKED notice (R40). -/
def giveUpLeases (n : PortNo) (s : State) : State := (List.finRange 16).foldl (giveUpIfHeldBy n) s

/-- The leases a port holds. -/
def State.leasesOf (s : State) (n : PortNo) : Nat := s.leases.toList.countP fun l => l.any fun x => x.port == n

/-- A port's own items after a port reset: level, transaction state and purge mark stay (R116, R119). -/
def Port.emptied (p : Port) : Port :=
  { p with tx := loseSelection p.tx, requests := [], responses := [], credits := Config.portCredits, leaseUse := 0
           refused := false, framing := false, purged := false }

/-- PORT-RESET (R40, R116, R153). -/
def portReset (port : Byte) (s : State) : State :=
  match portOfByte port with
  | none => s.hold .portReset (.refused .badValue Handle.null)
  | some n =>
    ((giveUpLeases n (forgetEntries n s)).updPort n Port.emptied).hold .portReset
      (.ok (.portReset (s.port n).requests.length (s.port n).responses.length
        (s.deadlines.countP (DeadlineEntry.isFrom n)) (s.leasesOf n)))

/-- PORT_RESET (R116). -/
def execPortReset (s : State) : Host.Outcome State Fault Refusal :=
  taken s <|
    match s.inProgress with
    | some (.portReset port) => portReset port s
    | _ => s

/-! ## Identity, time, mask -/

/-- READ_IDENTITY (R181): the capacities stand in the layout of the response (R196). -/
def execReadIdentity (s : State) : Host.Outcome State Fault Refusal :=
  taken s <|
    match s.inProgress with
    | some .readIdentity => s.hold .readIdentity (.ok .identity)
    | _ => s

/-- READ_TIME (R181). -/
def execReadTime (s : State) : Host.Outcome State Fault Refusal :=
  taken s <|
    match s.inProgress with
    | some .readTime => s.hold .readTime (.ok (.time s.lt))
    | _ => s

/-- SET-MASK: every kind in the set becomes masked and every other unmasked; it has no refusal (R183). -/
def setMask (kinds : BitVec 14) (s : State) : State :=
  ({ s with mask := maskOf kinds }).hold .setMask (.ok (.mask s.mask (maskOf kinds)))

/-- SET_MASK (R183). -/
def execSetMask (s : State) : Host.Outcome State Fault Refusal :=
  taken s <|
    match s.inProgress with
    | some (.setMask kinds) => setMask kinds s
    | _ => s

/-! ## NEXT-NOTICE -/

/-- The first input with an unmasked flag set (R185). -/
def State.noticedInput (s : State) : Option InputNo :=
  (List.finRange 4).find? fun i => unmasked s.mask (s.input i).notices != 0

/-- The first slot of 1 to 255 with an unmasked flag set (R185). -/
def State.noticedSlot (s : State) : Option SlotNo :=
  (List.finRange 256).find? fun i => i != 0 && unmasked s.mask (s.slot i).notices != 0

/-- The handle of a slot with its reporting generation (R185). -/
def State.reportedHandle (s : State) (i : SlotNo) : Handle :=
  match (s.slot i).content with
  | .retired _ => { slot := i, gen := prevGen (s.slot i).gen }
  | .free | .active .. => s.handleOf i

/-- A slot after NEXT-NOTICE has reported `flags`: those flags are clear; when DRAINED is among them the slot is FREE and
holds no flag at all (R35, R186). -/
def Slot.collected (x : Slot) (flags : NoticeSet) : Slot :=
  if noticed flags .drained then { gen := x.gen, content := .free, notices := 0 }
  else { x with notices := x.notices &&& ~~~flags }

/-- NEXT-NOTICE (R185, R186). -/
def nextNotice (s : State) : State :=
  match s.noticedInput with
  | some i =>
    let flags := unmasked s.mask (s.input i).notices
    (s.updInput i fun x => { x with notices := x.notices &&& ~~~flags }).hold .nextNotice (.ok (.notice (.input i flags)))
  | none =>
    match s.noticedSlot with
    | some i =>
      let flags := unmasked s.mask (s.slot i).notices
      (s.putSlot i ((s.slot i).collected flags)).hold .nextNotice
        (.ok (.notice (.slot (s.reportedHandle i) flags (s.slot i).content.lifecycle (s.slot i).content.kind)))
    | none => s.hold .nextNotice (.ok (.notice .empty))

/-- NEXT_NOTICE (R185). -/
def execNextNotice (s : State) : Host.Outcome State Fault Refusal :=
  taken s <|
    match s.inProgress with
    | some .nextNotice => nextNotice s
    | _ => s

/-! ## PURGE -/

/-- A slot after a purge: FREE, its generation raised when it was not FREE, every notice flag clear (R15, R39). -/
def Slot.purged (x : Slot) : Slot :=
  { gen := if x.content = .free then x.gen else nextGen x.gen, content := .free, notices := 0 }

/-- An input after a purge: holding slot empty, notices clear; receiver and stamp offset stay (R71, R72). -/
def Input.purged (i : Input) : Input := { i with holding := none, notices := 0 }

/-- A query port after a purge: as after a port reset, but PURGED and the purge mark are set (R118, R119). -/
def Port.purgedOut (p : Port) : Port := { p.emptied with purged := true, purgeMark := true }

/-- Every owner's part of a purge (R187). LT, the pointers, the mask and the management port's receiver stay. -/
def purgeAll (s : State) : State :=
  { s with
    slots := Vector.ofFn fun i => s.slots[i].purged
    leases := Vector.replicate 16 none
    inputs := Vector.ofFn fun i => s.inputs[i].purged
    bindings := []
    deadlines := []
    nextOrder := 0
    ports := Vector.ofFn fun n => s.ports[n].purgedOut }

/-- PURGE (R187). -/
def execPurge (s : State) : Host.Outcome State Fault Refusal :=
  taken s <|
    match s.inProgress with
    | some .purge => (purgeAll s).hold .purge (.ok (.time s.lt))
    | _ => s

end Sys2Proof.Machine
end

