-- ==== Sys2Proof/Machine/QueryPort.lean ====
section
/-! DEFINITION. Query port transactions: QUERY_SELECT, QUERY_BIT_SAMPLED, QUERY_FETCH_SELECT, QUERY_REQUEST_END,
QUERY_FETCH_END, QUERY_PORT_UNBLOCK. -/

namespace Sys2Proof.Machine

/-- Assertion of QCSn_N in IDLE: the status byte is captured, the purge mark cleared, and the transaction is in KIND (R101,
R102, R111). -/
def selectPort (p : Port) : Port :=
  match p.tx with
  | .idle => { p with tx := .kind p.statusByte [], purgeMark := false }
  | .kind .. | .request .. | .fetch .. | .blocked => p

/-- QUERY_SELECT (R102). -/
def execQuerySelect (n : PortNo) (s : State) : Host.Outcome State Fault Refusal := taken s (s.updPort n selectPort)

/-- A rising edge of QSCKn (R101). When the bit completes a FETCH kind byte, the head of the response queue is selected
(R110). -/
def samplePortBit (bit : Bool) (p : Port) : Port :=
  { p with tx := p.tx.sample Config.queryFrameBits p.selection bit }

/-- QUERY_BIT_SAMPLED (R101). -/
def execQueryBitSampled (n : PortNo) (bit : Bool) (s : State) : Host.Outcome State Fault Refusal :=
  taken s (s.updPort n (samplePortBit bit))

/-- The rising edge of QSCKn that completes a FETCH kind byte (R110): an event only where seven bits of that byte stand. -/
def completeFetchKind (p : Port) : Port := if p.tx.awaitsFetchBit then samplePortBit false p else p

/-- QUERY_FETCH_SELECT (R110). -/
def execQueryFetchSelect (n : PortNo) (s : State) : Host.Outcome State Fault Refusal :=
  taken s (s.updPort n completeFetchKind)

/-- A malformed transaction is discarded: FRAMING is set (R103). -/
def discardMalformed (p : Port) : Port := { p with framing := true }

/-- A well-formed REQUEST is judged by the free credits: refused without credit, else accepted (R104). -/
def acceptRequest (q : QueuedRequest) (p : Port) : Port :=
  if p.credits = 0 then { p with refused := true }
  else { p with credits := p.credits - 1, requests := p.requests ++ [q] }

/-- Deassertion of QCSn_N in KIND or REQUEST: the transaction end of a transaction that is no FETCH (R101, R103, R104). -/
def endRequest (p : Port) : Port :=
  match p.tx with
  | .kind _ [] => { p with tx := .idle }
  | .kind _ (_ :: _) => { discardMalformed p with tx := .idle }
  | .request _ bits count malformed =>
    match judgeQueryFrame bits count malformed with
    | none => { discardMalformed p with tx := .idle }
    | some q => { acceptRequest q p with tx := .idle }
  | .idle | .fetch .. | .blocked => p

/-- QUERY_REQUEST_END (R104). -/
def execQueryRequestEnd (n : PortNo) (s : State) : Host.Outcome State Fault Refusal := taken s (s.updPort n endRequest)

/-- The flags a FETCH reported in the status byte captured at its start are cleared; PURGED stays when a purge came after
the capture (R111, R113). -/
def clearReported (st : Byte) (p : Port) : Port :=
  { p with
    refused := p.refused && !reportedRefused st
    framing := p.framing && !reportedFraming st
    purged := p.purged && (!reportedPurged st || p.purgeMark) }

/-- The head of the response queue is removed: a credited entry returns its credit, a REVOKED notice lowers the lease-use
count (R105, R111). -/
def removeHead (p : Port) : Port :=
  match p.responses with
  | [] => p
  | .revoked .. :: rest => { p with responses := rest, leaseUse := p.leaseUse - 1 }
  | .response .. :: rest => { p with responses := rest, credits := p.credits + 1 }
  | .wakeDone .. :: rest => { p with responses := rest, credits := p.credits + 1 }
  | .spliceDone .. :: rest => { p with responses := rest, credits := p.credits + 1 }

/-- The FETCH completes: the bits clocked after the kind byte cover the whole response, and the entry is still at the head
(R111). -/
def fetchCompletes (count : Nat) : Option Selection → Bool
  | none => false
  | some x => x.inQueue && decide (8 * x.entry.bytes.length ≤ count)

/-- Deassertion of QCSn_N in FETCH (R111). -/
def endFetch (p : Port) : Port :=
  match p.tx with
  | .fetch st count sel =>
    let p1 := if fetchCompletes count sel then removeHead p else p
    { clearReported st p1 with tx := .idle }
  | .idle | .kind .. | .request .. | .blocked => p

/-- QUERY_FETCH_END (R111). -/
def execQueryFetchEnd (n : PortNo) (s : State) : Host.Outcome State Fault Refusal := taken s (s.updPort n endFetch)

/-- Deassertion of QCSn_N in BLOCKED: IDLE, with no transaction end and no flag (R101). -/
def unblockPort (p : Port) : Port :=
  match p.tx with
  | .blocked => { p with tx := .idle }
  | .idle | .kind .. | .request .. | .fetch .. => p

/-- QUERY_PORT_UNBLOCK (R101). -/
def execQueryPortUnblock (n : PortNo) (s : State) : Host.Outcome State Fault Refusal := taken s (s.updPort n unblockPort)

end Sys2Proof.Machine
end

