-- ==== Sys2Proof/Machine/Table.lean ====
section
/-! DEFINITION. The Table Controller: CREATE_CLOCK, CREATE_ALIAS, CONFIGURE, ENABLE, RETIRE, READ_RECORD, DRAIN_EXPIRY. -/

namespace Sys2Proof.Machine

/-! ## Creation -/

/-- The default configuration of a CLOCK record (R17). -/
def ClockConfig.default : ClockConfig :=
  { level := 3, useSet := UseSet.all, lockWindow := 250, jumpLimit := 2500000, jumpPolicy := .reject, rejectLimit := 3
    enterCount := 4, leaveCount := 3, gainShift := 4, silenceMs := 200, holdoverMs := 10000, farEarly := 25000000
    lateTolerance := 250000, drainMs := 1000 }

/-- A CLOCK record at its creation (R17, R18). -/
def ClockRecord.created : ClockRecord :=
  { cfg := ClockConfig.default, lock := .unset, anchor := none, trim := 0, lastError := none, inCount := 0, outCount := 0
    rejectRun := 0, active := none, heardPrimary := none, heardStandby := none, silence := none, holdover := none
    leaseCount := 0, aliasCount := 0, wakeCount := 0, updatePending := false }

/-- An ALIAS record at its creation (R19, R24). -/
def AliasRecord.created (target : Handle) : AliasRecord :=
  { level := 3, useSet := UseSet.all, target, pendingSplice := none, leaseCount := 0, drainMs := 1000 }

/-- A record is created in a FREE slot, RESERVED, every notice flag clear; the slot's generation is used unchanged (R15,
R23). -/
def State.create (s : State) (i : SlotNo) (r : Record) : State :=
  s.putSlot i { gen := (s.slot i).gen, content := .active .reserved r, notices := 0 }

/-- CREATE-CLOCK (R23). -/
def createClock (s : State) : State :=
  match s.freeSlot with
  | none => s.hold .createClock (.refused .tableFull Handle.null)
  | some i => (s.create i (.ofClock ClockRecord.created)).hold .createClock (.ok (.newHandle (s.handleOf i)))

/-- CREATE_CLOCK (R23). -/
def execCreateClock (s : State) : Host.Outcome State Fault Refusal :=
  taken s <|
    match s.inProgress with
    | some .createClock => createClock s
    | _ => s

/-- CREATE-ALIAS: its checks, the new alias, and its target's alias count (R24). -/
def createAlias (target : Handle) (s : State) : State :=
  match checkClock s target with
  | .fail st f => s.hold .createAlias (.refused st f)
  | .pass (ph, _) =>
    if ph.isDraining then s.hold .createAlias (.refused .draining target)
    else
      match s.freeSlot with
      | none => s.hold .createAlias (.refused .tableFull Handle.null)
      | some i =>
        ((s.raiseAliasCount target).create i (.ofAlias (AliasRecord.created target))).hold .createAlias
          (.ok (.newHandle (s.handleOf i)))

/-- CREATE_ALIAS (R24). -/
def execCreateAlias (s : State) : Host.Outcome State Fault Refusal :=
  taken s <|
    match s.inProgress with
    | some (.createAlias target) => createAlias target s
    | _ => s

/-! ## CONFIGURE -/

/-- A counter brought below a lowered count field (R28). -/
def lowerTo (limit count : Nat) : Nat := if limit ≤ count then limit - 1 else count

/-- A timer re-derived from its kept start (R27). -/
def Timer.rederive (t : Timer) (ms : Nat) : Timer := { t with deadline := addTicks t.start (msTicks ms) }

/-- One field of a CLOCK record changed, with the effect R27 and R28 give the new value at once. -/
def ClockRecord.setField (c : ClockRecord) (f : ConfigField) (v : BitVec 32) : ClockRecord :=
  let n := v.toNat
  match f with
  | .level => { c with cfg := { c.cfg with level := n } }
  | .useSet => { c with cfg := { c.cfg with useSet := UseSet.ofBits v } }
  | .lockWindow => { c with cfg := { c.cfg with lockWindow := n } }
  | .jumpLimit => { c with cfg := { c.cfg with jumpLimit := n } }
  | .jumpPolicy => { c with cfg := { c.cfg with jumpPolicy := if n = 0 then .reanchor else .reject } }
  | .rejectLimit => { c with cfg := { c.cfg with rejectLimit := n }, rejectRun := lowerTo n c.rejectRun }
  | .enterCount => { c with cfg := { c.cfg with enterCount := n }, inCount := lowerTo n c.inCount }
  | .gainShift => { c with cfg := { c.cfg with gainShift := n } }
  | .silenceMs => { c with cfg := { c.cfg with silenceMs := n }, silence := c.silence.map fun t => t.rederive n }
  | .holdoverMs => { c with cfg := { c.cfg with holdoverMs := n }, holdover := c.holdover.map fun t => t.rederive n }
  | .farEarly => { c with cfg := { c.cfg with farEarly := n } }
  | .lateTolerance => { c with cfg := { c.cfg with lateTolerance := n } }
  | .drainMs => { c with cfg := { c.cfg with drainMs := n } }
  | .leaveCount => { c with cfg := { c.cfg with leaveCount := n }, outCount := lowerTo n c.outCount }

/-- One field of an ALIAS record changed (R19). -/
def AliasRecord.setField (a : AliasRecord) (f : ConfigField) (v : BitVec 32) : AliasRecord :=
  match f with
  | .level => { a with level := v.toNat }
  | .useSet => { a with useSet := UseSet.ofBits v }
  | .drainMs => { a with drainMs := v.toNat }
  | .lockWindow | .jumpLimit | .jumpPolicy | .rejectLimit | .enterCount | .gainShift | .silenceMs | .holdoverMs
  | .farEarly | .lateTolerance | .leaveCount => a

/-- One change made to a record. -/
def Record.change (r : Record) (ch : Change) : Record :=
  match configField ch.id with
  | none => r
  | some f =>
    match r with
    | .ofClock c => .ofClock (c.setField f ch.value)
    | .ofAlias a => .ofAlias (a.setField f ch.value)

/-- Every change of a CONFIGURE made to a record. -/
def Record.configured (r : Record) (cs : List Change) : Record := cs.foldl Record.change r

/-- No identifier is named twice. -/
def distinctIds : List Change → Bool
  | [] => true
  | ch :: cs => cs.all (fun x => x.id != ch.id) && distinctIds cs

/-- A change names a known field and a value in that field's own range (R26, R195). -/
def Change.valid (ch : Change) : Bool :=
  match configField ch.id with
  | none => false
  | some f => f.inRange ch.value

/-- A change names a field that only CLOCK records have (R26, R195). -/
def Change.clockOnly (ch : Change) : Bool :=
  match configField ch.id with
  | none => false
  | some f => !f.onAlias

/-- The jump limit exceeds the lock window, on a CLOCK record (R26). -/
def Record.windowsOrdered : Record → Bool
  | .ofClock c => c.cfg.lockWindow < c.cfg.jumpLimit
  | .ofAlias _ => true

/-- The first check of R26 a CONFIGURE of the record fails, with its fault handle (R53). -/
def configureRefusal (h : Handle) (r : Record) (cs : List Change) : Option (Status × Handle) :=
  if r.kind = .aliasKind ∧ cs.any Change.clockOnly then some (.wrongKind, h)
  else if distinctIds cs && cs.all Change.valid && (r.configured cs).windowsOrdered then none
  else some (.badValue, Handle.null)

/-- CONFIGURE (R26, R27, R28). -/
def configure (h : Handle) (cs : List Change) (s : State) : State :=
  match checkHandle s h with
  | .fail st f => s.hold .configure (.refused st f)
  | .pass (_, r) =>
    match configureRefusal h r cs with
    | some (st, f) => s.hold .configure (.refused st f)
    | none => (s.updRecord h fun r => r.configured cs).hold .configure (.ok .none)

/-- CONFIGURE (R26). -/
def execConfigure (s : State) : Host.Outcome State Fault Refusal :=
  taken s <|
    match s.inProgress with
    | some (.configure h cs) => configure h cs s
    | _ => s

/-! ## ENABLE -/

/-- A record at its enabling: a CLOCK in ACQUIRING starts its silence timer (R25). -/
def Record.enabled (now : LocalTime) : Record → Record
  | .ofClock c =>
    .ofClock (if c.lock = .acquiring then { c with silence := some (startTimer now c.cfg.silenceMs) } else c)
  | .ofAlias a => .ofAlias a

/-- ENABLE (R25). -/
def enable (h : Handle) (s : State) : State :=
  match checkHandle s h with
  | .fail st f => s.hold .enable (.refused st f)
  | .pass (ph, r) =>
    match ph with
    | .reserved => (s.putContent h.slot (.active .live (r.enabled s.lt))).hold .enable (.ok .none)
    | .live => s.hold .enable (.refused .notLive h)
    | .draining _ => s.hold .enable (.refused .draining h)

/-- ENABLE (R25). -/
def execEnable (s : State) : Host.Outcome State Fault Refusal :=
  taken s <|
    match s.inProgress with
    | some (.enable h) => enable h s
    | _ => s

/-! ## RETIRE and the end of a drain -/

/-- The detachment of a retiring record in RESERVED or LIVE (R30, R69): a CLOCK loses its bindings, active source,
deadlines and wakes; an ALIAS its pending splice. -/
def detach (h : Handle) (r : Record) (s : State) : State :=
  match r with
  | .ofClock _ =>
    (({ s with bindings := s.bindings.filter fun b => b.clock != h }).updClock h fun c =>
      { c with active := none, silence := none, holdover := none }).endWakes h .retired
  | .ofAlias a =>
    match s.pendingEntry a with
    | none => s
    | some (e, origin, n) => (s.dropSplice e h n).tellSplice origin .aliasRetired (droppedSpliceBody s.lt h n e.due)

/-- The first check of R29 a RETIRE of the record fails. The refusal names the record as fault handle: DEDUCED, unsafe, log
entry 15. -/
def retireRefusal (ph : Phase) (r : Record) (mode : RetireMode) : Option Status :=
  if ph.isDraining ∧ mode = .normal then some .busy
  else
    match r with
    | .ofClock c => if 0 < c.aliasCount then some .inUse else none
    | .ofAlias _ => none

/-- An accepted RETIRE: the detachment of a record that is not yet DRAINING, then RETIRED or DRAINING by its lease count
and the mode (R30, R31, R33). -/
def retireRecord (h : Handle) (ph : Phase) (r : Record) (mode : RetireMode) (s : State) : State × Lifecycle :=
  let s1 := if ph.isDraining then s else detach h r s
  if r.leaseCount = 0 then (s1.enterRetired h.slot, .retired)
  else
    match mode with
    | .normal => (s1.setPhase h (.draining (addTicks s.lt (msTicks r.drainMs))), .draining)
    | .immediate => ((s1.revokeAll h).enterRetired h.slot, .retired)

/-- RETIRE (R29). -/
def retire (h : Handle) (mode : RetireMode) (s : State) : State :=
  match checkHandle s h with
  | .fail st f => s.hold .retire (.refused st f)
  | .pass (ph, r) =>
    match retireRefusal ph r mode with
    | some st => s.hold .retire (.refused st h)
    | none =>
      let x := retireRecord h ph r mode s
      x.1.hold .retire (.ok (.lifecycle x.2))

/-- RETIRE (R29). -/
def execRetire (s : State) : Host.Outcome State Fault Refusal :=
  taken s <|
    match s.inProgress with
    | some (.retire h mode) => retire h mode s
    | _ => s

/-- The drain deadline of the DRAINING record in a slot is reached: every lease on it is revoked and it enters RETIRED
(R4, R33). -/
def takeDrainExpiry (i : SlotNo) (s : State) : State :=
  match (s.slot i).content with
  | .active (.draining d) _ => if reached d s.lt then (s.revokeAll (s.handleOf i)).enterRetired i else s
  | .active .reserved _ | .active .live _ | .free | .retired _ => s

/-- DRAIN_EXPIRY (R33). -/
def execDrainExpiry (i : SlotNo) (s : State) : Host.Outcome State Fault Refusal := taken s (takeDrainExpiry i s)

/-! ## READ_RECORD -/

/-- The snapshot of a slot, with its alias's pending splice (R37). -/
def State.snapshot (s : State) (i : SlotNo) : Snapshot :=
  { now := s.lt, number := i, slot := s.slot i
    splice :=
      match (s.slot i).content with
      | .active _ (.ofAlias a) => (s.pendingEntry a).map fun x => (x.2.2, x.1.due)
      | .active _ (.ofClock _) | .free | .retired _ => none }

/-- READ-RECORD (R37). -/
def readRecord (n : Byte) (s : State) : State :=
  if n = 0 then s.hold .readRecord (.refused .badValue Handle.null)
  else s.hold .readRecord (.ok (.snapshot (s.snapshot n.toFin)))

/-- READ_RECORD (R37). -/
def execReadRecord (s : State) : Host.Outcome State Fault Refusal :=
  taken s <|
    match s.inProgress with
    | some (.readRecord n) => readRecord n s
    | _ => s

end Sys2Proof.Machine
end

