-- ==== Sys2Proof/Machine/Timing.lean ====
section
/-! DEFINITION. The timing queries: CONVERT, INVERT, STATUS, DUE. -/

namespace Sys2Proof.Machine

/-- The quality of an answer: the effective record's lock state, and whether the named record is DRAINING (R122). -/
def Resolved.quality (r : Resolved) : Quality := { lock := r.clock.lock, draining := r.phase.isDraining }

/-- A timing query that needs a timebase: resolution, the timebase test, and a computation whose OUT_OF_RANGE is refused
with the effective record as fault handle (R120, R123, R124). -/
def timingAnswer (s : State) (n : PortNo) (use : UseKind) (h : Handle) (compute : Resolved → Option PortResult) :
    PortAnswer :=
  match resolve s (s.port n).level use false h with
  | .fail st f => .refused st f
  | .pass r =>
    if r.clock.lock.timeless then .refused .noTimebase r.eff
    else
      match compute r with
      | none => .refused .outOfRange r.eff
      | some x => .ok x

/-- The local time a CONVERT converts: now under NOW, the field as given under AT (R125). -/
def Selector.time (sel : Selector) (now : LocalTime) : LocalTime :=
  match sel with
  | .now => now
  | .at t => t

/-- The answer to a CONVERT (R125). -/
def convertAnswer (s : State) (n : PortNo) (h : Handle) (sel : Selector) : PortAnswer :=
  timingAnswer s n .convert h fun r =>
    (r.clock.projection (sel.time s.lt)).map fun q => .convert r.eff s.lt r.quality (sel.time s.lt) q

/-- CONVERT (R125). -/
def execConvert (s : State) : Host.Outcome State Fault Refusal :=
  taken s <|
    match s.granted with
    | some (n, { tag, request := .convert h sel }) => (s.serve n).respond n .convert tag (convertAnswer s n h sel)
    | _ => s

/-- The answer to an INVERT (R127). -/
def invertAnswer (s : State) (n : PortNo) (h : Handle) (v : RefValue) : PortAnswer :=
  timingAnswer s n .convert h fun r => (r.clock.inverse v).map fun t => .invert r.eff s.lt r.quality v t

/-- INVERT (R127). -/
def execInvert (s : State) : Host.Outcome State Fault Refusal :=
  taken s <|
    match s.granted with
    | some (n, { tag, request := .invert h v }) => (s.serve n).respond n .invert tag (invertAnswer s n h v)
    | _ => s

/-- The answer to a DUE: the classification of the lead, and its magnitude as the distance (R131, R132). -/
def dueAnswer (s : State) (n : PortNo) (h : Handle) (p : RefValue) : PortAnswer :=
  timingAnswer s n .due h fun r =>
    (r.clock.lead p s.lt).map fun l =>
      .due r.eff s.lt r.quality p (classify r.clock.cfg.farEarly r.clock.cfg.lateTolerance l) l.natAbs

/-- DUE (R131). -/
def execDue (s : State) : Host.Outcome State Fault Refusal :=
  taken s <|
    match s.granted with
    | some (n, { tag, request := .due h p }) => (s.serve n).respond n .due tag (dueAnswer s n h p)
    | _ => s

/-- The anchor age: the time difference from the anchor to now, absent in UNSET (R129). -/
def anchorAge (c : ClockRecord) (now : LocalTime) : Option Int := c.anchor.map fun a => timeDiff a.lt now

/-- The answer to a STATUS, given in every lock state (R129). -/
def statusAnswer (s : State) (n : PortNo) (h : Handle) : PortAnswer :=
  match resolve s (s.port n).level .convert false h with
  | .fail st f => .refused st f
  | .pass r =>
    .ok (.status r.eff s.lt r.phase.lifecycle r.clock.lock r.clock.active r.clock.trim r.clock.lastError
      (anchorAge r.clock s.lt))

/-- STATUS (R129). -/
def execStatus (s : State) : Host.Outcome State Fault Refusal :=
  taken s <|
    match s.granted with
    | some (n, { tag, request := .status h }) => (s.serve n).respond n .status tag (statusAnswer s n h)
    | _ => s

end Sys2Proof.Machine
end

