-- ==== Sys2Proof/Machine/Dispatch.lean ====
section
/-! DEFINITION. Every command to its meaning. -/

namespace Sys2Proof.Machine

def exec (i : Instr) (s : State) : Host.Outcome State Fault Refusal :=
  match i with
  | .lclkTick => Sys2Proof.Machine.execLclkTick s
  | .hardReset => Sys2Proof.Machine.execHardReset s
  | .resetRelease sfs qcs mcs => Sys2Proof.Machine.execResetRelease sfs qcs mcs s
  | .frameStart n => Sys2Proof.Machine.execFrameStart n s
  | .receiverUnblock n => Sys2Proof.Machine.execReceiverUnblock n s
  | .frameEnd n => Sys2Proof.Machine.execFrameEnd n s
  | .sampleTake => Sys2Proof.Machine.execSampleTake s
  | .silenceExpiry slot => Sys2Proof.Machine.execSilenceExpiry slot s
  | .holdoverExpiry slot => Sys2Proof.Machine.execHoldoverExpiry slot s
  | .updateNotice slot => Sys2Proof.Machine.execUpdateNotice slot s
  | .wakeExpiry => Sys2Proof.Machine.execWakeExpiry s
  | .spliceExpiry => Sys2Proof.Machine.execSpliceExpiry s
  | .drainExpiry slot => Sys2Proof.Machine.execDrainExpiry slot s
  | .querySelect n => Sys2Proof.Machine.execQuerySelect n s
  | .queryFetchSelect n => Sys2Proof.Machine.execQueryFetchSelect n s
  | .queryRequestEnd n => Sys2Proof.Machine.execQueryRequestEnd n s
  | .queryFetchEnd n => Sys2Proof.Machine.execQueryFetchEnd n s
  | .queryPortUnblock n => Sys2Proof.Machine.execQueryPortUnblock n s
  | .convert => Sys2Proof.Machine.execConvert s
  | .invert => Sys2Proof.Machine.execInvert s
  | .status => Sys2Proof.Machine.execStatus s
  | .due => Sys2Proof.Machine.execDue s
  | .wake => Sys2Proof.Machine.execWake s
  | .lease => Sys2Proof.Machine.execLease s
  | .release => Sys2Proof.Machine.execRelease s
  | .cancel => Sys2Proof.Machine.execCancel s
  | .retarget => Sys2Proof.Machine.execRetarget s
  | .splice => Sys2Proof.Machine.execSplice s
  | .unsplice => Sys2Proof.Machine.execUnsplice s
  | .mgmtSelect => Sys2Proof.Machine.execMgmtSelect s
  | .mgmtFetchSelect => Sys2Proof.Machine.execMgmtFetchSelect s
  | .mgmtRequestEnd => Sys2Proof.Machine.execMgmtRequestEnd s
  | .mgmtFetchEnd => Sys2Proof.Machine.execMgmtFetchEnd s
  | .mgmtPortUnblock => Sys2Proof.Machine.execMgmtPortUnblock s
  | .createClock => Sys2Proof.Machine.execCreateClock s
  | .createAlias => Sys2Proof.Machine.execCreateAlias s
  | .configure => Sys2Proof.Machine.execConfigure s
  | .enable => Sys2Proof.Machine.execEnable s
  | .retire => Sys2Proof.Machine.execRetire s
  | .readRecord => Sys2Proof.Machine.execReadRecord s
  | .bind => Sys2Proof.Machine.execBind s
  | .unbind => Sys2Proof.Machine.execUnbind s
  | .setInputOffset => Sys2Proof.Machine.execSetInputOffset s
  | .setAnchor => Sys2Proof.Machine.execSetAnchor s
  | .selectSource => Sys2Proof.Machine.execSelectSource s
  | .setPortLevel => Sys2Proof.Machine.execSetPortLevel s
  | .portReset => Sys2Proof.Machine.execPortReset s
  | .readPort => Sys2Proof.Machine.execReadPort s
  | .mgmtRetarget => Sys2Proof.Machine.execMgmtRetarget s
  | .mgmtSplice => Sys2Proof.Machine.execMgmtSplice s
  | .mgmtUnsplice => Sys2Proof.Machine.execMgmtUnsplice s
  | .readIdentity => Sys2Proof.Machine.execReadIdentity s
  | .readTime => Sys2Proof.Machine.execReadTime s
  | .setMask => Sys2Proof.Machine.execSetMask s
  | .nextNotice => Sys2Proof.Machine.execNextNotice s
  | .purge => Sys2Proof.Machine.execPurge s
  | .inputBitSampled n bit => Sys2Proof.Machine.execInputBitSampled n bit s
  | .queryBitSampled n bit => Sys2Proof.Machine.execQueryBitSampled n bit s
  | .mgmtBitSampled bit => Sys2Proof.Machine.execMgmtBitSampled bit s

end Sys2Proof.Machine
end

