-- ==== Sys2Proof/Machine/Pins.lean ====
section
/-! DEFINITION. The pins the manual makes functions of the state: ready and attention lines, data-out pins, and the levels
of the frame strobes and chip selects. ATTN_N is `State.attention` of Machine/Flags.lean. -/

namespace Sys2Proof.Machine

/-- QRDYn: the port's response queue holds an entry, and RST_N is high (R100, R109). -/
def queryReady (s : State) (n : PortNo) : Bool := !s.rstLow && !(s.port n).responses.isEmpty

/-- MRDY: a response is held, and RST_N is high (R174). -/
def mgmtReady (s : State) : Bool := !s.rstLow && s.mgmt.req.ready

/-- ATTN_N asserted; it is released while RST_N is low (R174, R184). -/
def attentionPin (s : State) : Bool := !s.rstLow && s.attention

/-- The bit a transaction presents for its next rising clock edge: bits of the captured status byte, then those of the
selected response or NONE code in a FETCH, then zero; none is high impedance (R101, R110, R175, R180); DESIGN CHOICE, safe,
log entry 14. -/
def presentedBit {σ : Type} (bytes : σ → List Byte) : Transaction σ → Option Bool
  | .idle => none
  | .kind st bits => some ((bitsOfByte st)[bits.length]?.getD false)
  | .request .. => some false
  | .fetch _ count sel => some ((frameBits (sel.elim noneCode bytes))[count]?.getD false)
  | .blocked => some false

/-- QSDOn, with QCSn_N asserted or not: high impedance while it is deasserted, in reset too (R101); asserted, the bit of the
transaction, or the free value while RST_N is low (log entry 4). With RST_N high the level of QCSn_N is
`selectAsserted s n`. -/
def queryDataOut (s : State) (n : PortNo) (selected : Bool) : Option Bool :=
  if selected = false then none
  else if s.rstLow then Config.dataOutInReset n.castSucc
  else presentedBit (fun x => x.entry.bytes) (s.port n).tx

/-- MSDO, with MCS_N asserted or not (R175), as QSDOn. With RST_N high the level of MCS_N is `mgmtSelected s`. -/
def mgmtDataOut (s : State) (selected : Bool) : Option Bool :=
  if selected = false then none
  else if s.rstLow then Config.dataOutInReset 4
  else presentedBit HeldResponse.bytes s.mgmt.tx

/-- SFSn is asserted: exactly while the receiver is not IDLE, once RST_N is high (R56). -/
def strobeAsserted (s : State) (n : InputNo) : Bool := (s.input n).receiver != .idle

/-- QCSn_N is asserted: exactly while the transaction is not IDLE, once RST_N is high (R101). -/
def selectAsserted (s : State) (n : PortNo) : Bool := (s.port n).tx.state != .idle

/-- MCS_N is asserted: exactly while the transaction is not IDLE, once RST_N is high (R175). -/
def mgmtSelected (s : State) : Bool := s.mgmt.tx.state != .idle

end Sys2Proof.Machine
end

