-- ==== Sys2Proof/Safety.lean ====
section
/-! DEFINITION. What a sound state of the part is: the properties the manual says hold at every event, and runs of several
commands. -/

namespace Sys2Proof.Machine

/-! ## Runs -/

/-- Commands executed one after another, stopping at the first that gives no next state. -/
def execAll : List Instr → State → Host.Outcome State Fault Refusal
  | [], s => .next s
  | c :: cs, s =>
    match exec c s with
    | .next t => execAll cs t
    | .fault r => .fault r
    | .refused r => .refused r

/-! ## Words the statements are written in -/

/-- The state with the record in a slot replaced, its phase given, and notice flags added to the slot's. -/
def State.withRecord (s : State) (i : SlotNo) (ph : Phase) (r : Record) (flags : NoticeSet) : State :=
  s.putSlot i { gen := (s.slot i).gen, content := .active ph r, notices := (s.slot i).notices ||| flags }

/-- A slot after its record has entered RETIRED: the next generation, 255 followed by 1, the kind kept, REVOKED and
SPLICE_CANCELLED kept as they stand, and DRAINED set (R15, R34). -/
def Slot.retiredAs (x : Slot) (k : RecordKind) : Slot :=
  { gen := if x.gen = 255 then 1 else x.gen + 1, content := .retired k, notices := (x.notices &&& 0x1800) ||| 0x2000 }

/-- The Estimator has taken the sample held at an input: the holding slot is empty and the pointer is past the input
(R63). -/
def State.afterTake (s : State) (n : InputNo) : State :=
  { s.updInput n fun i => { i with holding := none } with estPtr := n + 1 }

/-- The Estimator takes `x` from input `n`, for a LIVE clock record `c` of which the sample's role is bound and active
(R63, R75, R76). -/
def State.takesActive (s : State) (n : InputNo) (x : Sample) (c : ClockRecord) : Prop :=
  s.rstLow = false ∧ s.nextSample = some (n, x) ∧ s.current x.clock = some (.live, .ofClock c) ∧
    s.roleBound x.clock x.role = true ∧ c.active = some x.role

/-- The silence timer a sample of the active role starts (R5, R88). -/
def ClockRecord.freshSilence (c : ClockRecord) (now : LocalTime) : Timer :=
  { start := now, deadline := now + BitVec.ofNat 48 (c.cfg.silenceMs * 25000) }

/-- The completions R150 places on a port's response queue when the wakes bound to a clock end, in list order. -/
def State.endedOn (s : State) (n : PortNo) (h : Handle) (ending : Ending) : List ResponseEntry :=
  s.deadlines.filterMap fun e =>
    match e.work with
    | .wake p tag _ b v =>
      if b = h ∧ p = n then
        some (.wakeDone tag ending { clock := h, now := s.lt, quality := none, p := some v, lead := none
                                     due := some e.due, lateness := none })
      else none
    | .splice .. => none

/-- The REVOKED notices R33 places on a port's response queue when the leases on a record are revoked, in ascending lease
number. -/
def State.revokedOn (s : State) (n : PortNo) (h : Handle) : List ResponseEntry :=
  (List.finRange 16).filterMap fun k =>
    (s.lease k).bind fun l => if l.named = h ∧ l.port = n then some (.revoked k h) else none

/-- The management request in progress is `r`, and RST_N is high. -/
def State.asked (s : State) (r : MgmtRequest) : Prop := s.rstLow = false ∧ s.mgmt.req = .inProgress r

/-- The Query Engine's next grant is the request `q` of port `n`, and RST_N is high. -/
def State.grants (s : State) (n : PortNo) (tag : Byte) (q : PortRequest) : Prop :=
  s.rstLow = false ∧ s.granted = some (n, { tag, request := q })

/-- The request fits its frame: signed fields in their widths, at most 14 changes (R189, R194). -/
def MgmtRequest.encodable : MgmtRequest → Bool
  | .configure _ cs => decide (cs.length ≤ 14)
  | .setInputOffset _ o => decide (-(2 : Int) ^ 23 ≤ o ∧ o < 2 ^ 23)
  | .setAnchor _ _ trim => decide (-(2 : Int) ^ 31 ≤ trim ∧ trim < 2 ^ 31)
  | .createClock | .createAlias _ | .enable _ | .retire .. | .readRecord _ | .bind .. | .unbind .. | .selectSource ..
  | .setPortLevel .. | .portReset _ | .readPort _ | .retarget .. | .splice .. | .unsplice _ | .readIdentity | .readTime
  | .setMask _ | .nextNotice | .purge => true

/-- The Query Engine's evaluations, each with the request code it serves (R107, R192). -/
def evaluations : List (Instr × PortCode) :=
  [(.convert, .convert), (.invert, .invert), (.status, .status), (.due, .due), (.wake, .wake), (.lease, .lease),
   (.release, .release), (.cancel, .cancel), (.retarget, .retarget), (.splice, .splice), (.unsplice, .unsplice)]

/-- The owners' events, each with the management request code it answers (R178, R194). -/
def ownerEvents : List (Instr × MgmtCode) :=
  [(.createClock, .createClock), (.createAlias, .createAlias), (.configure, .configure), (.enable, .enable),
   (.retire, .retire), (.readRecord, .readRecord), (.bind, .bind), (.unbind, .unbind),
   (.setInputOffset, .setInputOffset), (.setAnchor, .setAnchor), (.selectSource, .selectSource),
   (.setPortLevel, .setPortLevel), (.portReset, .portReset), (.readPort, .readPort), (.mgmtRetarget, .retarget),
   (.mgmtSplice, .splice), (.mgmtUnsplice, .unsplice), (.readIdentity, .readIdentity), (.readTime, .readTime),
   (.setMask, .setMask), (.nextNotice, .nextNotice), (.purge, .purge)]

/-! ## The fields of responses (R189, R193, R196, R197)

A field is its size in bytes and its value. -/

/-- The bytes are the fields, one after another and nothing more, each sent most significant byte first, a value below 0 in
two's complement (R189). -/
def Spells : List (Nat × Int) → List Byte → Prop
  | [], bs => bs = []
  | (k, v) :: fields, bs => ∃ field rest, bs = field ++ rest ∧ field.length = k ∧
      (natOfBytes field : Int) = v % (256 : Int) ^ k ∧ Spells fields rest

/-- A field of one byte. -/
def byteField (n : Nat) : Nat × Int := (1, n)

/-- A field of two bytes. -/
def wordField (n : Nat) : Nat × Int := (2, n)

/-- A field of four bytes. -/
def longField (n : Nat) : Nat × Int := (4, n)

/-- Presence marks, the first in bit 0. -/
def marks (l : List Bool) : Nat := (l.zipIdx.map fun x => if x.1 then 2 ^ x.2 else 0).sum

/-- A handle: slot number, then generation (R14, R189). -/
def Handle.field (h : Handle) : Nat × Int := (2, 256 * h.slot.val + h.gen.toNat)

/-- A local time, or a duration in ticks. -/
def timeField (t : BitVec 48) : Nat × Int := (6, t.toNat)

/-- A reference value. -/
def rvField (v : RefValue) : Nat × Int := (5, v.toNat)

/-- An optional field: zero when absent (R189). -/
def optField {α : Type} (k : Nat) (f : α → Nat × Int) (o : Option α) : Nat × Int := o.elim (k, 0) f

/-- The results of an OK response to a port request, in the order of R193. -/
def PortResult.fields : PortResult → List (Nat × Int)
  | .convert eff now q t p => [eff.field, timeField now, byteField q.code, timeField t, rvField p]
  | .invert eff now q v t => [eff.field, timeField now, byteField q.code, rvField v, timeField t]
  | .due eff now q p cls distance =>
    [eff.field, timeField now, byteField q.code, rvField p, byteField cls.code, (5, distance)]
  | .status eff now life lock active trim lastError age =>
    [eff.field, timeField now, byteField life.code, byteField lock.code, byteField (roleCode active), (4, trim),
     byteField (marks [lastError.isSome, age.isSome]), optField 4 (fun e => (4, e)) lastError,
     optField 6 (fun a => (6, a)) age]
  | .lease n named grant eff => [byteField n.val, named.field, timeField grant, eff.field]
  | .release n named grant life => [byteField n.val, named.field, timeField grant, byteField life.code]
  | .cancel kind d => [byteField kind.code, timeField d]
  | .retarget a old new => [a.field, old.field, new.field]
  | .unsplice a new d origin => [a.field, new.field, timeField d, byteField origin.code, byteField origin.tagCode]

/-- The WAKE completion body of R193. -/
def WakeBody.fields (b : WakeBody) : List (Nat × Int) :=
  [b.clock.field, timeField b.now,
   byteField (marks [b.quality.isSome, b.p.isSome, b.lead.isSome, b.due.isSome, b.lateness.isSome]),
   optField 1 (fun q => byteField q.code) b.quality, optField 5 rvField b.p, optField 5 (fun l => (5, l)) b.lead,
   optField 6 timeField b.due, optField 6 timeField b.lateness]

/-- The SPLICE completion body of R193. -/
def SpliceBody.fields (b : SpliceBody) : List (Nat × Int) :=
  [b.aliasHandle.field, optField 2 Handle.field b.oldTarget, b.newTarget.field, timeField b.now,
   optField 6 timeField b.due, byteField (marks [b.oldTarget.isSome, b.due.isSome])]

/-- The CLOCK part of a snapshot, at the offsets 12 to 105 of R197. -/
def ClockRecord.fields (c : ClockRecord) (drain : Option LocalTime) : List (Nat × Int) :=
  [byteField c.cfg.level,
   byteField (marks [c.cfg.useSet.convert, c.cfg.useSet.due, c.cfg.useSet.wake, c.cfg.useSet.lease]),
   wordField c.cfg.lockWindow, longField c.cfg.jumpLimit, byteField (if c.cfg.jumpPolicy = .reject then 1 else 0),
   byteField c.cfg.rejectLimit, byteField c.cfg.enterCount, byteField c.cfg.leaveCount, byteField c.cfg.gainShift,
   wordField c.cfg.silenceMs, wordField c.cfg.holdoverMs, longField c.cfg.farEarly, longField c.cfg.lateTolerance,
   wordField c.cfg.drainMs,
   byteField c.lock.code,
   wordField (marks [c.anchor.isSome, c.lastError.isSome, c.heardPrimary.isSome, c.heardStandby.isSome, c.silence.isSome,
     c.holdover.isSome, drain.isSome]),
   optField 6 (fun a => timeField a.lt) c.anchor, optField 5 (fun a => rvField a.rv) c.anchor, (4, c.trim),
   optField 4 (fun e => (4, e)) c.lastError, byteField c.inCount, byteField c.outCount, byteField c.rejectRun,
   byteField (roleCode c.active), optField 6 timeField c.heardPrimary, optField 6 timeField c.heardStandby,
   optField 6 (fun x => timeField x.start) c.silence, optField 6 (fun x => timeField x.deadline) c.silence,
   optField 6 (fun x => timeField x.start) c.holdover, optField 6 (fun x => timeField x.deadline) c.holdover,
   byteField c.leaseCount, wordField c.aliasCount, byteField c.wakeCount, optField 6 timeField drain]

/-- The ALIAS part of a snapshot, at the offsets 12 to 32 of R197. -/
def AliasRecord.fields (a : AliasRecord) (drain : Option LocalTime) (splice : Option (Handle × LocalTime)) :
    List (Nat × Int) :=
  [byteField a.level, byteField (marks [a.useSet.convert, a.useSet.due, a.useSet.wake, a.useSet.lease]), a.target.field,
   byteField a.leaseCount, byteField (marks [drain.isSome, splice.isSome]), optField 6 timeField drain,
   optField 2 (fun x => x.1.field) splice, optField 6 (fun x => timeField x.2) splice, wordField a.drainMs]

/-- The fields of a snapshot after its notice flags, by what the slot holds (R197). -/
def Snapshot.recordFields (r : Snapshot) : List (Nat × Int) :=
  match r.slot.content with
  | .active ph (.ofClock c) => c.fields ph.drainDeadline
  | .active ph (.ofAlias a) => a.fields ph.drainDeadline r.splice
  | .free | .retired _ => []

/-- A snapshot: the common part of R197, and the part of the record. -/
def Snapshot.fields (r : Snapshot) : List (Nat × Int) :=
  [timeField r.now, byteField r.number.val, byteField r.slot.content.lifecycle.code, byteField r.slot.gen.toNat,
   byteField (kindCode r.slot.content.kind), wordField r.slot.notices.toNat] ++ r.recordFields

/-- The results of an OK management response, in the order of R196. -/
def MgmtResult.fields : MgmtResult → List (Nat × Int)
  | .none => []
  | .newHandle h => [h.field]
  | .lifecycle l => [byteField l.code]
  | .snapshot r => r.fields
  | .activeSource active => [byteField (roleCode active)]
  | .unbound h role active => [h.field, byteField (roleCode (some role)), byteField (roleCode active)]
  | .offset previous => [(3, previous)]
  | .lockState previous => [byteField previous.code]
  | .level previous => [byteField previous]
  | .portReset requests responses entries leases =>
    [byteField requests, byteField responses, byteField entries, byteField leases]
  | .port r =>
    [byteField r.level, byteField r.credits, byteField r.requests, byteField r.responses, byteField r.revoked,
     byteField r.leaseUse, byteField (marks [r.purged, r.framing, r.refused]), byteField r.tx.code]
  | .retarget a old new => [a.field, old.field, new.field]
  | .spliceExecuted a old new now => [byteField 1, a.field, old.field, new.field, timeField now]
  | .spliceArmed a new d => [byteField 2, a.field, wordField 0, new.field, timeField d]
  | .unsplice a new d origin => [a.field, new.field, timeField d, byteField origin.code, byteField origin.tagCode]
  | .identity =>
    [byteField 0x71, byteField 0x02, byteField 255, byteField 64, byteField 48, byteField 16, byteField 4, byteField 4]
  | .time now => [timeField now]
  | .mask before after => [wordField before.toNat, wordField after.toNat]
  | .notice .empty => [byteField 0, wordField 0, wordField 0, byteField 0, byteField 0]
  | .notice (.input n flags) => [byteField 1, wordField n.val, wordField flags.toNat, byteField 0, byteField 0]
  | .notice (.slot h flags life kind) =>
    [byteField 2, h.field, wordField flags.toNat, byteField life.code, byteField (kindCode kind)]

/-! ## One slot (R13, R17, R18, R28, R31, R86, R182) -/

/-- Every configuration field lies in its range, and J exceeds W (R17, R26). -/
def ClockConfig.legal (c : ClockConfig) : Bool :=
  decide (c.level ≤ 3) && decide (1 ≤ c.lockWindow ∧ c.lockWindow ≤ 65535) &&
  decide (c.lockWindow < c.jumpLimit ∧ c.jumpLimit ≤ 2147483647) && decide (1 ≤ c.rejectLimit ∧ c.rejectLimit ≤ 15) &&
  decide (1 ≤ c.enterCount ∧ c.enterCount ≤ 15) && decide (1 ≤ c.leaveCount ∧ c.leaveCount ≤ 15) &&
  decide (c.gainShift ≤ 15) && decide (1 ≤ c.silenceMs ∧ c.silenceMs ≤ 65535) && decide (c.holdoverMs ≤ 65535) &&
  decide (1 ≤ c.farEarly ∧ c.farEarly < 4294967296) && decide (c.lateTolerance < 4294967296) &&
  decide (1 ≤ c.drainMs ∧ c.drainMs ≤ 65535)

/-- A timer's deadline stands its parameter after its start (R18, R27). -/
def Timer.formedBy (t : Timer) (ms : Nat) : Bool := t.deadline == addTicks t.start (msTicks ms)

/-- The silence timer a record has in a phase and lock state: LIVE and ACQUIRING or LOCKED, and formed by the silence
timeout (chapter 5, table of lock states; R27, R88). -/
def silenceLegal (ph : Phase) (c : ClockRecord) : Bool :=
  match c.silence with
  | some t => ph == .live && (c.lock == .acquiring || c.lock == .locked) && t.formedBy c.cfg.silenceMs
  | none => ph != .live || !(c.lock == .acquiring || c.lock == .locked)

/-- The holdover timer a record has in a phase and lock state: LIVE and HOLDOVER, and formed by the holdover limit (R18,
R27, R90). -/
def holdoverLegal (ph : Phase) (c : ClockRecord) : Bool :=
  match c.holdover with
  | some t => ph == .live && c.lock == .holdover && t.formedBy c.cfg.holdoverMs
  | none => ph != .live || c.lock != .holdover

/-- A CLOCK record's own fields agree with one another in a phase: ranges (R17, R18), counters below their limits (R28),
counters of the other lock state at 0 (R85, R86), the anchor absent exactly in UNSET (R18), the timers of its lock state,
the lock states of a RESERVED record, and no update pending mark without wakes to move (R92, R93). -/
def ClockRecord.legal (ph : Phase) (c : ClockRecord) : Bool :=
  c.cfg.legal && decide (-Config.trimLimit ≤ c.trim ∧ c.trim ≤ Config.trimLimit) &&
  c.lastError.all (fun e => decide (-2147483648 ≤ e ∧ e ≤ 2147483647)) &&
  decide (c.inCount < c.cfg.enterCount) && decide (c.outCount < c.cfg.leaveCount) &&
  decide (c.rejectRun < c.cfg.rejectLimit) &&
  (c.lock == .acquiring || c.inCount == 0) && (c.lock != .acquiring || c.outCount == 0) &&
  (c.anchor.isNone == (c.lock == .unset)) && silenceLegal ph c && holdoverLegal ph c &&
  (ph != .reserved || c.lock == .unset || c.lock == .acquiring) &&
  (!c.updatePending || !(c.lock.timeless || ph.isDraining))

/-- An ALIAS record's own fields lie in their ranges (R19). -/
def AliasRecord.legal (a : AliasRecord) : Bool :=
  decide (a.level ≤ 3) && decide (1 ≤ a.drainMs ∧ a.drainMs ≤ 65535)

/-- A slot's notice flags fit its content: none in FREE; the slot kinds other than DRAINED while it holds a record; DRAINED,
and at most REVOKED and SPLICE_CANCELLED beside it, in RETIRED (R182, R189). -/
def Slot.noticesLegal (x : Slot) : Bool :=
  match x.content with
  | .free => x.notices == 0
  | .active .. => x.notices &&& 0xe007 == 0
  | .retired _ => noticed x.notices .drained && (x.notices &&& 0xc7ff == 0)

/-- A slot is as R13 to R19 allow. -/
def Slot.legal (x : Slot) : Bool :=
  x.gen != 0 && x.noticesLegal &&
  match x.content with
  | .active ph (.ofClock c) => c.legal ph
  | .active _ (.ofAlias a) => a.legal
  | .free | .retired _ => true

/-- Every slot is legal, and the null slot is FREE (R13). -/
def SlotsLegal (s : State) : Prop := (∀ i, (s.slot i).legal = true) ∧ (s.slot 0).content = .free

/-! ## Inputs, ports, mask -/

/-- An input's own fields: at most the input notices, the offset in its range, and as many bits kept as counted, up to 72
(R56, R59, R64). -/
def Input.legal (i : Input) : Bool :=
  (i.notices &&& 0xfff8 == 0) && offsetInRange i.offset &&
  match i.receiver with
  | .assembling count bits => bits.length == min count Config.sampleFrameBits
  | .idle | .blocked => true

/-- The bits a transaction keeps: fewer than eight in KIND, in REQUEST as many as counted up to the longest frame (R101,
R175). -/
def Transaction.legal {σ : Type} (longest : Nat) : Transaction σ → Bool
  | .kind _ bits => decide (bits.length < 8)
  | .request _ bits count _ => decide (8 ≤ count) && bits.length == min count longest
  | .idle | .fetch .. | .blocked => true

/-- Every input, port level, transaction and the mask is as R56 to R64, R100, R101, R114, R174 and R183 allow. -/
def PinsLegal (s : State) : Prop :=
  (∀ i, (s.input i).legal = true) ∧
  (∀ n, (s.port n).level ≤ 3 ∧ (s.port n).tx.legal Config.queryFrameBits = true) ∧
  s.mgmt.tx.legal Config.mgmtFrameBits = true ∧ s.mask &&& 0xe000 = 0

/-- While RST_N is low, every block stands in its initial state (R1, R38, R71, R100, R138, R174). -/
def ResetHolds (s : State) : Prop := s.rstLow = true → s = hardReset s

/-- Inputs, ports and mask are legal, and a low RST_N holds the initial state. -/
def PartsLegal (s : State) : Prop := PinsLegal s ∧ ResetHolds s

/-! ## Credits and leases -/

/-- An entry of a response queue held on a credit: every one but a REVOKED notice (R105, R108). -/
def ResponseEntry.credited (e : ResponseEntry) : Bool := !e.isRevoked

/-- The accepted requests of a port whose answers have not been fetched, by the places of R105. -/
def State.unfetched (s : State) (n : PortNo) : Nat :=
  (s.port n).requests.length + s.deadlines.countP (DeadlineEntry.isFrom n) +
    (s.port n).responses.countP ResponseEntry.credited

/-- On each port, unfetched requests and free credits make 8 (R105). -/
def CreditsBalance (s : State) : Prop := ∀ n, s.unfetched n + (s.port n).credits = Config.portCredits

/-- On each port, the lease-use count is the leases held and the REVOKED notices waiting, at most 4 (R105, R112). -/
def LeaseUseBalance (s : State) : Prop :=
  ∀ n, (s.port n).leaseUse = s.leasesOf n + (s.port n).responses.countP ResponseEntry.isRevoked ∧
    (s.port n).leaseUse ≤ Config.leaseUseLimit

/-- The Lease Table entries that name a record (R22). -/
def State.leasesNaming (s : State) (h : Handle) : Nat := s.leases.toList.countP fun l => l.any fun x => x.named == h

/-- Leases and lease counts agree: each record's lease count is the number of leases naming it, at least one in DRAINING,
and every lease names a LIVE or DRAINING record (R22, R31). -/
def LeasesTied (s : State) : Prop :=
  (∀ h ph r, s.current h = some (ph, r) →
    r.leaseCount = s.leasesNaming h ∧ (ph.isDraining = true → 1 ≤ r.leaseCount)) ∧
  (∀ k l, s.lease k = some l → ∃ ph r, s.current l.named = some (ph, r) ∧ ph ≠ .reserved)

/-! ## Bindings and active sources -/

/-- The Binding Map and the records' active sources agree (R65, R67, R70). -/
def BindingsTied (s : State) : Prop :=
  s.bindings.length ≤ Config.bindingCapacity ∧
  s.bindings.Pairwise (fun a b => ¬(a.input = b.input ∧ a.tag = b.tag)) ∧
  s.bindings.Pairwise (fun a b => ¬(a.clock = b.clock ∧ a.role = b.role)) ∧
  (∀ b ∈ s.bindings, ∃ ph c, s.current b.clock = some (ph, .ofClock c) ∧ ph.isDraining = false) ∧
  (∀ h ph c, s.current h = some (ph, .ofClock c) →
    (∀ r, c.active = some r → s.roleBound h r = true) ∧
    (c.active = none → ∀ r, s.roleBound h r = false) ∧
    (c.active = none → ph.isDraining = false → c.rejectRun = 0))

/-! ## Aliases, wakes and splices -/

/-- The ALIAS records in RESERVED, LIVE or DRAINING that target a clock (R20). -/
def State.aliasesOf (s : State) (h : Handle) : Nat :=
  s.slots.toList.countP fun x =>
    match x.content with
    | .active _ (.ofAlias a) => a.target == h
    | .active _ (.ofClock _) | .free | .retired _ => false

/-- The entry is a SPLICE whose new target is the clock (R20). -/
def DeadlineEntry.isSpliceTo (h : Handle) (e : DeadlineEntry) : Bool :=
  match e.work with
  | .splice _ _ n => n == h
  | .wake .. => false

/-- The counts R20, R22 and R137 keep in a CLOCK record. -/
def ClockRecord.countsTied (c : ClockRecord) (s : State) (h : Handle) : Prop :=
  c.aliasCount = s.aliasesOf h + s.deadlines.countP (DeadlineEntry.isSpliceTo h) ∧
  c.wakeCount = s.deadlines.countP (DeadlineEntry.isWakeOf h)

/-- An entry names what R137 and R144 say it names: a WAKE is bound to a LIVE CLOCK in ACQUIRING, LOCKED or HOLDOVER; a
SPLICE's alias is RESERVED or LIVE with this entry pending, and its new target a CLOCK in RESERVED or LIVE. -/
def DeadlineEntry.tied (s : State) (e : DeadlineEntry) : Prop :=
  match e.work with
  | .wake _ _ _ b _ => ∃ c, s.current b = some (.live, .ofClock c) ∧ c.lock.timeless = false
  | .splice _ h n =>
    (∃ ph a, s.current h = some (ph, .ofAlias a) ∧ ph.isDraining = false ∧ a.pendingSplice = some e.order) ∧
    (∃ ph c, s.current n = some (ph, .ofClock c) ∧ ph.isDraining = false)

/-- The Deadline List, the aliases and the counts agree (R19, R20, R22, R137). -/
def DeadlinesTied (s : State) : Prop :=
  s.deadlines.length ≤ Config.deadlineCapacity ∧
  s.deadlines.Pairwise (fun a b => a.order ≠ b.order) ∧
  (∀ e ∈ s.deadlines, e.order < s.nextOrder ∧ e.tied s) ∧
  (∀ h ph c, s.current h = some (ph, .ofClock c) →
    c.countsTied s h ∧ (ph.isDraining = true → c.aliasCount = 0)) ∧
  (∀ h ph a, s.current h = some (ph, .ofAlias a) →
    (∃ ph' c, s.current a.target = some (ph', .ofClock c) ∧ ph'.isDraining = false) ∧
    (∀ o, a.pendingSplice = some o →
      ph.isDraining = false ∧ ∃ e ∈ s.deadlines, e.order = o ∧ ∃ origin n, e.work = .splice origin h n))

end Sys2Proof.Machine
end

