-- ==== Sys2Proof/Certificates/Slice0/Obligations.lean ====
section
/-! DEFINITION. The statements for the provers: what the manual's rules say the part does. -/

open Sys2Proof Sys2Proof.Machine

/-! ## Queue, reset, local time -/

/-- A step takes the command at the front of the queue and executes it on the state with the queue's rest; an empty queue
idles. The queue is the model's own (log entry 5): each command is one whole step of the table. -/
def Obligations.StepTakesFrontCommand : Prop :=
  (∀ (s : State) (c : Instr) (rest : List Instr), s.pending = c :: rest → step s = exec c { s with pending := rest }) ∧
    ∀ s : State, s.pending = [] → step s = .next s

/-- Every command answers a next state, in every state; it leaves the queue as it was and does not read it. Both are the
model's choice: the queue is its own, the part has none (log entry 5), and a command whose cause has not come about answers
the state unchanged (log entry 2). -/
def Obligations.EveryCommandCompletes : Prop :=
  ∀ (c : Instr) (s : State) (q : List Instr), ∃ t, exec c s = .next t ∧ t.pending = s.pending ∧
    exec c { s with pending := q } = .next { t with pending := q }

/-- R1 whole: a tick adds one modulo 2^48, and while RST_N is low LT stays; a hard reset sets LT to 0; the first tick after
the release makes it 1; no other command, purge and port reset among them, changes it. -/
def Obligations.LocalTimeCounts : Prop :=
  (∀ s : State, s.rstLow = false → exec .lclkTick s = .next { s with lt := s.lt + 1 }) ∧
  (∀ s : State, s.lt = BitVec.ofNat 48 (2 ^ 48 - 1) → s.rstLow = false →
    exec .lclkTick s = .next { s with lt := 0 }) ∧
  (∀ s : State, s.rstLow = true → exec .lclkTick s = .next s) ∧
  (∀ (s : State) (sfs qcs : BitVec 4) (mcs : Bool), ∃ t u v, exec .hardReset s = .next t ∧ t.lt = 0 ∧
    exec .lclkTick t = .next t ∧ exec (.resetRelease sfs qcs mcs) t = .next u ∧ u.lt = 0 ∧
    exec .lclkTick u = .next v ∧ v.lt = 1) ∧
  ∀ (c : Instr) (s t : State), c ≠ .lclkTick → c ≠ .hardReset → exec c s = .next t → t.lt = s.lt

/-- What a hard reset leaves in every block, and what the return of RST_N makes of the receivers. While RST_N is low the
receivers are shown IDLE (log entry 1); the queue is kept (log entry 5). With every strobe and chip select deasserted the
release leaves State.reset. -/
def Obligations.ResetSequence : Prop :=
  (∀ s : State, exec .hardReset s = .next
    { lt := 0, rstLow := true
      slots := Vector.replicate 256 { gen := 1, content := .free, notices := 0 }
      leases := Vector.replicate 16 none
      inputs := Vector.replicate 4 { receiver := .idle, offset := 0, holding := none, notices := 0 }
      bindings := [], estPtr := 0, deadlines := [], nextOrder := 0
      ports := Vector.replicate 4
        { level := 3, tx := .idle, requests := [], responses := [], credits := 8, leaseUse := 0, refused := false
          framing := false, purged := false, purgeMark := false }
      qePtr := 0
      mgmt := { tx := .idle, req := .none, collide := false }
      mask := 0, pending := s.pending }) ∧
  (∀ (s : State) (sfs qcs : BitVec 4) (mcs : Bool), s.rstLow = true → ∃ t,
    exec (.resetRelease sfs qcs mcs) s = .next t ∧
    t = { s with rstLow := false, inputs := t.inputs, ports := t.ports
                 mgmt := { s.mgmt with tx := if mcs then .blocked else .idle } } ∧
    (∀ i, t.input i = { s.input i with receiver := if sfs.getLsbD i.val then .blocked else .idle }) ∧
    ∀ n, t.port n = { s.port n with tx := if qcs.getLsbD n.val then .blocked else .idle }) ∧
  ∀ s t : State, exec .hardReset s = .next t →
    exec (.resetRelease 0 0 false) t = .next { State.reset with pending := s.pending }

/-- R38 whole: after a hard reset every slot is FREE with generation 1 and no flag set, the Lease Table is empty and a
request in progress is lost; the next CREATE-CLOCK allocates slot 1, with handle 0x0101, and no CREATE-ALIAS can come
before it, since no handle is current. -/
def Obligations.TableAfterHardReset : Prop :=
  ∀ (s : State) (sfs qcs : BitVec 4) (mcs : Bool), ∃ t u, exec .hardReset s = .next t ∧
    exec (.resetRelease sfs qcs mcs) t = .next u ∧
    (∀ i, u.slot i = { gen := 1, content := .free, notices := 0 }) ∧ (∀ k, u.lease k = none) ∧
    u.mgmt.req = .none ∧
    (∃ v, exec .createClock { u with mgmt := { u.mgmt with req := .inProgress .createClock } } = .next v ∧
      v.mgmt.req = .held { code := .createClock, answer := .ok (.newHandle { slot := 1, gen := 1 }) } ∧
      v.slot 1 = { gen := 1, content := .active .reserved (.ofClock ClockRecord.created), notices := 0 } ∧
      ∀ i, i ≠ 1 → v.slot i = u.slot i) ∧
    ∀ h, ∃ st, exec .createAlias { u with mgmt := { u.mgmt with req := .inProgress (.createAlias h) } } = .next
      ({ u with mgmt := { u.mgmt with req := .held { code := .createAlias, answer := .refused st h } } })

/-- A command whose cause has not come about changes nothing (log entry 2): nothing but a reset is taken while RST_N is low;
an edge needs the receiver state it acts on; an expiry needs its deadline present and reached; an evaluation needs its
request granted or in progress. -/
def Obligations.NoCauseNoChange : Prop :=
  ∀ s : State,
    (s.rstLow = true → ∀ c, c ≠ .hardReset → (∀ a b m, c ≠ .resetRelease a b m) → exec c s = .next s) ∧
    (s.rstLow = false → ∀ a b m, exec (.resetRelease a b m) s = .next s) ∧
    (∀ n, (s.input n).receiver ≠ .idle → exec (.frameStart n) s = .next s) ∧
    (∀ n, (s.input n).receiver ≠ .blocked → exec (.receiverUnblock n) s = .next s) ∧
    (∀ n, (∀ k bits, (s.input n).receiver ≠ .assembling k bits) →
      exec (.frameEnd n) s = .next s ∧ ∀ b, exec (.inputBitSampled n b) s = .next s) ∧
    ((∀ n, (s.input n).holding = none) → exec .sampleTake s = .next s) ∧
    (∀ i, (∀ c d, s.current (s.handleOf i) = some (.live, .ofClock c) → c.silence = some d →
      timeDiff d.deadline s.lt < 0) → exec (.silenceExpiry i) s = .next s) ∧
    (∀ i, (∀ c d, s.current (s.handleOf i) = some (.live, .ofClock c) → c.holdover = some d →
      timeDiff d.deadline s.lt < 0) → exec (.holdoverExpiry i) s = .next s) ∧
    (∀ i, (∀ ph c, s.current (s.handleOf i) = some (ph, .ofClock c) → c.updatePending = false) →
      exec (.updateNotice i) s = .next s) ∧
    (∀ i, (∀ d r, (s.slot i).content = .active (.draining d) r → timeDiff d s.lt < 0) →
      exec (.drainExpiry i) s = .next s) ∧
    ((∀ e rest, s.deadlines = e :: rest → timeDiff e.due s.lt < 0) →
      exec .wakeExpiry s = .next s ∧ exec .spliceExpiry s = .next s) ∧
    (∀ e rest, s.deadlines = e :: rest →
      (∀ o h n, e.work = .splice o h n → exec .wakeExpiry s = .next s) ∧
      ∀ n tag h b p, e.work = .wake n tag h b p → exec .spliceExpiry s = .next s) ∧
    (∀ n, ((s.port n).tx.state ≠ .idle → exec (.querySelect n) s = .next s) ∧
      ((s.port n).tx.state = .idle ∨ (s.port n).tx.state = .blocked → ∀ b, exec (.queryBitSampled n b) s = .next s) ∧
      ((s.port n).tx.state ≠ .kind → exec (.queryFetchSelect n) s = .next s) ∧
      ((s.port n).tx.state ≠ .kind → (s.port n).tx.state ≠ .request → exec (.queryRequestEnd n) s = .next s) ∧
      ((s.port n).tx.state ≠ .fetch → exec (.queryFetchEnd n) s = .next s) ∧
      ((s.port n).tx.state ≠ .blocked → exec (.queryPortUnblock n) s = .next s)) ∧
    ((s.mgmt.tx.state ≠ .idle → exec .mgmtSelect s = .next s) ∧
      (s.mgmt.tx.state = .idle ∨ s.mgmt.tx.state = .blocked → ∀ b, exec (.mgmtBitSampled b) s = .next s) ∧
      (s.mgmt.tx.state ≠ .kind → exec .mgmtFetchSelect s = .next s) ∧
      (s.mgmt.tx.state ≠ .kind → s.mgmt.tx.state ≠ .request → exec .mgmtRequestEnd s = .next s) ∧
      (s.mgmt.tx.state ≠ .fetch → exec .mgmtFetchEnd s = .next s) ∧
      (s.mgmt.tx.state ≠ .blocked → exec .mgmtPortUnblock s = .next s)) ∧
    (∀ x ∈ evaluations, (∀ n q, s.granted = some (n, q) → q.request.code ≠ x.2) → exec x.1 s = .next s) ∧
    ∀ x ∈ ownerEvents, (∀ r, s.mgmt.req = .inProgress r → r.code ≠ x.2) → exec x.1 s = .next s

/-- The sound-state properties the other statements carry from step to step, the order of the Deadline List among them, hold
of State.reset, and after a hard reset and after its release with any strobes and chip selects asserted. State.reset is the
release with none asserted: the model's choice, log entry 1. -/
def Obligations.ResetStateIsSound : Prop :=
  let sound := fun (s : State) => SlotsLegal s ∧ PartsLegal s ∧ CreditsBalance s ∧ LeaseUseBalance s ∧ LeasesTied s ∧
    BindingsTied s ∧ DeadlinesTied s ∧ s.deadlines.Pairwise (fun a b => a.precedes s.lt b = true)
  sound State.reset ∧
    ∀ (s : State) (sfs qcs : BitVec 4) (mcs : Bool), ∃ t u, exec .hardReset s = .next t ∧ sound t ∧
      exec (.resetRelease sfs qcs mcs) t = .next u ∧ sound u

/-! ## The arithmetic of chapter 1 -/

/-- Time differences, projection, inverse and lead, as whole-number arithmetic: signed differences modulo 2^48 and 2^40; the
projection RVa + Δ + floor(Δ·R / 2^32) and the inverse LTa + d - floor(d·R / 2^32) within 2^36 of the anchor, its ends
included, and OUT_OF_RANGE outside; the anchor's own times exactly; the inverse at most 2^24 ticks beyond the span; the
lead signed40(P - projection). -/
def Obligations.ProjectionAndInverseFollowTheLine : Prop :=
  (∀ a t : LocalTime, -(2 : Int) ^ 47 ≤ timeDiff a t ∧ timeDiff a t < 2 ^ 47 ∧
    ((t.toNat : Int) - a.toNat - timeDiff a t) % 2 ^ 48 = 0) ∧
  (∀ u v : RefValue, -(2 : Int) ^ 39 ≤ rvDiff u v ∧ rvDiff u v < 2 ^ 39 ∧
    ((v.toNat : Int) - u.toNat - rvDiff u v) % 2 ^ 40 = 0) ∧
  (∀ (a : Anchor) (r : Int) (t : LocalTime),
    (2 ^ 36 < (timeDiff a.lt t).natAbs → projection a r t = none) ∧
    ((timeDiff a.lt t).natAbs ≤ 2 ^ 36 → ∃ p, projection a r t = some p ∧
      (p.toNat : Int) = (a.rv.toNat + timeDiff a.lt t + timeDiff a.lt t * r / 2 ^ 32) % 2 ^ 40) ∧
    projection a r a.lt = some a.rv) ∧
  (∀ (a : Anchor) (r : Int) (v : RefValue),
    (2 ^ 36 < (rvDiff a.rv v).natAbs → inverse a r v = none) ∧
    ((rvDiff a.rv v).natAbs ≤ 2 ^ 36 → ∃ t, inverse a r v = some t ∧
      (t.toNat : Int) = (a.lt.toNat + rvDiff a.rv v - rvDiff a.rv v * r / 2 ^ 32) % 2 ^ 48 ∧
      (-1048576 ≤ r → r ≤ 1048576 → (timeDiff a.lt t).natAbs ≤ 2 ^ 36 + 2 ^ 24)) ∧
    inverse a r a.rv = some a.lt) ∧
  ∀ (a : Anchor) (r : Int) (p : RefValue) (t : LocalTime),
    (∀ q, projection a r t = some q → lead a r p t = some (rvDiff q p)) ∧
    (projection a r t = none → lead a r p t = none)

/-- R11 whole, its bound on the residual among it. The bound does not follow from R8 and R10 (log entry 7): a negative
distance with a positive trim can miss it by one, so this is expected to fail. -/
def Obligations.ResidualRule : Prop :=
  ∃ f : Int → Int → Int, ∀ (a : Anchor) (r : Int) (v w : RefValue) (t : LocalTime), -1048576 ≤ r → r ≤ 1048576 →
    inverse a r v = some t → projection a r t = some w →
    rvDiff v w = f (rvDiff a.rv v) r ∧ (r = 0 → rvDiff v w = 0) ∧
    (0 < rvDiff a.rv v → rvDiff v w ≤ 0) ∧ (rvDiff a.rv v < 0 → 0 ≤ rvDiff v w) ∧
    (rvDiff v w).natAbs ≤ 1 + (rvDiff a.rv v).natAbs * r.natAbs ^ 2 / 2 ^ 64

/-- What R8 and R10 give of R11 (log entry 7): the residual as a function of d and R, zero for R = 0, never beyond v on the side
away from the anchor; within R11's bound, 1 + floor(|d|·R² / 2^64), for every d at or ahead of the anchor and for every R of zero
or less, and at most one more for d behind the anchor with R positive. So R128: a CONVERT of an INVERT's answer on a record's
line returns v plus that residual. -/
def Obligations.ResidualWithinTwo : Prop :=
  let residual := fun (d r : Int) => (d - d * r / 2 ^ 32) * r / 2 ^ 32 - d * r / 2 ^ 32
  (∀ (a : Anchor) (r : Int) (v w : RefValue) (t : LocalTime), -1048576 ≤ r → r ≤ 1048576 →
    inverse a r v = some t → projection a r t = some w →
    rvDiff v w = residual (rvDiff a.rv v) r ∧ (r = 0 → rvDiff v w = 0) ∧
    (0 < rvDiff a.rv v → rvDiff v w ≤ 0) ∧ (rvDiff a.rv v < 0 → 0 ≤ rvDiff v w) ∧
    (0 ≤ rvDiff a.rv v ∨ r ≤ 0 → (rvDiff v w).natAbs ≤ 1 + (rvDiff a.rv v).natAbs * r.natAbs ^ 2 / 2 ^ 64) ∧
    (rvDiff v w).natAbs ≤ 2 + (rvDiff a.rv v).natAbs * r.natAbs ^ 2 / 2 ^ 64) ∧
  ∀ (c : ClockRecord) (v w : RefValue) (t : LocalTime), -1048576 ≤ c.trim → c.trim ≤ 1048576 →
    c.inverse v = some t → c.projection t = some w →
    ∃ a, c.anchor = some a ∧ rvDiff v w = residual (rvDiff a.rv v) c.trim

/-- On one line the projection does not step back: k ticks on, it lies k - floor(k/4096) - 1 to k + floor(k/4096) + 1 counts
on, and never behind. The line of a record changes at SAMPLE_TAKE and SET_ANCHOR and at no other command. -/
def Obligations.ProjectionAdvancesOnOneLine : Prop :=
  (∀ (a : Anchor) (r : Int) (t1 t2 : LocalTime) (p1 p2 : RefValue) (k : Int), -1048576 ≤ r → r ≤ 1048576 →
    projection a r t1 = some p1 → projection a r t2 = some p2 → k = timeDiff t1 t2 → 0 < k →
    0 ≤ rvDiff p1 p2 ∧ k - k / 4096 - 1 ≤ rvDiff p1 p2 ∧ rvDiff p1 p2 ≤ k + k / 4096 + 1) ∧
  ∀ (c : Instr) (s t : State) (h : Handle) (ph ph' : Phase) (x x' : ClockRecord), exec c s = .next t →
    s.current h = some (ph, .ofClock x) → t.current h = some (ph', .ofClock x') →
    (x'.anchor ≠ x.anchor ∨ x'.trim ≠ x.trim) → c = .sampleTake ∨ c = .setAnchor

/-! ## The Reference Intake -/

/-- What the frame strobe and clock do to a receiver (R56): assertion in IDLE starts an empty frame; each bit is counted, and
kept among the first 72; deassertion in BLOCKED gives IDLE with no frame end and no notice. -/
def Obligations.FrameReceiver : Prop :=
  ∀ (s : State) (n : InputNo), s.rstLow = false →
    ((s.input n).receiver = .idle →
      exec (.frameStart n) s = .next (s.updInput n fun i => { i with receiver := .assembling 0 [] })) ∧
    (∀ k bits b, (s.input n).receiver = .assembling k bits → exec (.inputBitSampled n b) s =
      .next (s.updInput n fun i =>
        { i with receiver := .assembling (k + 1) (if k < 72 then bits ++ [b] else bits) })) ∧
    ((s.input n).receiver = .blocked →
      exec (.receiverUnblock n) s = .next (s.updInput n fun i => { i with receiver := .idle }))

/-- A frame end (R56 to R62): a bit count other than 72 sets BAD_FRAME; nine bytes whose ninth is not the check value of the
eight before it set BAD_FRAME; an intact frame whose key is not bound sets UNBOUND_TAG; a bound one becomes the held sample,
stamped now plus the offset, and sets OVERRUN where it replaces one. Nothing else changes. -/
def Obligations.FrameEnd : Prop :=
  ∀ (s : State) (n : InputNo) (k : Nat) (bits : List Bool), s.rstLow = false →
    (s.input n).receiver = .assembling k bits →
    (k ≠ 72 → exec (.frameEnd n) s =
      .next (s.updInput n fun i => { i with receiver := .idle, notices := i.notices ||| 0x0001 })) ∧
    ∀ t1 t0 r4 r3 r2 r1 r0 flags check : Byte, k = 72 →
      bits = frameBits [t1, t0, r4, r3, r2, r1, r0, flags, check] →
      (crc8 [t1, t0, r4, r3, r2, r1, r0, flags] ≠ check → exec (.frameEnd n) s =
        .next (s.updInput n fun i => { i with receiver := .idle, notices := i.notices ||| 0x0001 })) ∧
      (crc8 [t1, t0, r4, r3, r2, r1, r0, flags] = check →
        ((∀ b ∈ s.bindings, ¬(b.input = n ∧ b.tag = t1 ++ t0)) → exec (.frameEnd n) s =
          .next (s.updInput n fun i => { i with receiver := .idle, notices := i.notices ||| 0x0002 })) ∧
        ∀ b, b ∈ s.bindings → b.input = n → b.tag = t1 ++ t0 →
          s.bindings.Pairwise (fun x y => ¬(x.input = y.input ∧ x.tag = y.tag)) → exec (.frameEnd n) s =
          .next (s.updInput n fun i =>
            { i with receiver := .idle
                     holding := some { clock := b.clock, role := b.role, stamp := s.lt + BitVec.ofInt 48 i.offset
                                       rv := r4 ++ r3 ++ r2 ++ r1 ++ r0, brk := flags.getLsbD 0 }
                     notices := i.notices ||| (if i.holding = none then 0 else 0x0004) }))

/-- A whole sample frame whose key is bound, clocked in bit by bit from the strobe's assertion to its deassertion, becomes the
input's held sample, whatever the flags byte's seven ignored bits are and whatever else the Binding Map holds under other keys;
one wrong check byte makes it a damaged frame. -/
def Obligations.SampleFrameIsReceived : Prop :=
  ∀ (s : State) (n : InputNo) (t1 t0 r4 r3 r2 r1 r0 flags check : Byte) (b : Binding), s.rstLow = false →
    (s.input n).receiver = .idle → b ∈ s.bindings →
    s.bindings.Pairwise (fun x y => ¬(x.input = y.input ∧ x.tag = y.tag)) → b.input = n → b.tag = t1 ++ t0 →
    execAll (.frameStart n ::
        ((frameBits [t1, t0, r4, r3, r2, r1, r0, flags, check]).map (.inputBitSampled n) ++ [.frameEnd n])) s =
      .next (s.updInput n fun i =>
        if crc8 [t1, t0, r4, r3, r2, r1, r0, flags] = check then
          { i with holding := some { clock := b.clock, role := b.role, stamp := s.lt + BitVec.ofInt 48 i.offset
                                     rv := r4 ++ r3 ++ r2 ++ r1 ++ r0, brk := flags.getLsbD 0 }
                   notices := i.notices ||| (if i.holding = none then 0 else 0x0004) }
        else { i with notices := i.notices ||| 0x0001 })

/-- The check value is the remainder of the CRC-8 with polynomial x^8 + x^2 + x + 1, initial value 0 and no final inversion:
the two check values the manual's note gives; a message followed by its check value has check value 0; the value is linear, so
that one wrong byte among the first eight is always found. -/
def Obligations.CheckByte : Prop :=
  crc8 [0, 0, 0, 0, 0, 0, 0, 0] = 0x00 ∧ crc8 [0, 0, 0, 0, 0, 0, 0, 1] = 0x07 ∧
  (∀ bs : List Byte, crc8 (bs ++ [crc8 bs]) = 0) ∧
  (∀ xs ys : List Byte, xs.length = ys.length →
    crc8 (List.zipWith (· ^^^ ·) xs ys) = crc8 xs ^^^ crc8 ys) ∧
  ∀ (us vs : List Byte) (x y : Byte), crc8 (us ++ x :: vs) = crc8 (us ++ y :: vs) → x = y

/-! ## The Estimator -/

/-- Which held sample the Estimator takes, and when it goes no further than the role filter (R63, R75 to R77): the first
occupied holding slot from the pointer on; a sample whose record is not a current LIVE CLOCK, or whose role is not bound, is
discarded; one of the other role in ACQUIRING or LOCKED is only heard; in UNSET, HOLDOVER or STALE it takes over and is handled
as a sample of the active role. -/
def Obligations.SampleTakeOrder : Prop :=
  ∀ (s : State) (n : InputNo) (x : Sample), s.rstLow = false → (s.input n).holding = some x →
    (∀ m : InputNo, (m - s.estPtr).val < (n - s.estPtr).val → (s.input m).holding = none) →
    s.nextSample = some (n, x) ∧
    ((∀ c, s.current x.clock ≠ some (.live, .ofClock c)) → exec .sampleTake s = .next (s.afterTake n)) ∧
    (s.roleBound x.clock x.role = false → exec .sampleTake s = .next (s.afterTake n)) ∧
    ∀ c, s.current x.clock = some (.live, .ofClock c) → s.roleBound x.clock x.role = true → c.active ≠ some x.role →
      (c.lock = .acquiring ∨ c.lock = .locked → exec .sampleTake s = .next
        ((s.afterTake n).withRecord x.clock.slot .live (.ofClock (c.hear x.role s.lt)) 0)) ∧
      (c.lock = .unset ∨ c.lock = .holdover ∨ c.lock = .stale → exec .sampleTake s =
        exec .sampleTake (s.withRecord x.clock.slot .live
          (.ofClock { c with active := some x.role, rejectRun := 0 }) 0x0200))

/-- A sample of the active role in UNSET or STALE anchors the record (R79, R88); one with BREAK in ACQUIRING, LOCKED or HOLDOVER
re-anchors it and ends its wakes with DISCONTINUITY, its update pending mark clear (R78). The trim and the last error stay. -/
def Obligations.AnchoringSampleAndBreak : Prop :=
  ∀ (s : State) (n : InputNo) (x : Sample) (c : ClockRecord), s.takesActive n x c →
    (c.lock = .unset ∨ c.lock = .stale → c.holdover = none → exec .sampleTake s = .next
      ((s.afterTake n).withRecord x.clock.slot .live
        (.ofClock { c.hear x.role s.lt with
          anchor := some { lt := x.stamp, rv := x.rv }, lock := .acquiring, inCount := 0, outCount := 0, rejectRun := 0
          silence := some (c.freshSilence s.lt), updatePending := true })
        (if x.brk then 0x0100 else 0))) ∧
    (c.lock = .acquiring ∨ c.lock = .locked ∨ c.lock = .holdover → x.brk = true → exec .sampleTake s = .next
      (((s.afterTake n).withRecord x.clock.slot .live
        (.ofClock { c.hear x.role s.lt with
          anchor := some { lt := x.stamp, rv := x.rv }, lock := .acquiring, inCount := 0, outCount := 0, rejectRun := 0
          silence := some (c.freshSilence s.lt), holdover := none, updatePending := false })
        (0x0100 ||| (if c.lock = .acquiring then 0 else 0x0010))).endWakes x.clock .discontinuity))

/-- A compared sample of the active role with |e| ≤ J (R81, R82, R85 to R88): the last error, the trim bent by e·4096/2^g and
clamped, the anchor at the sample, the reject-run 0 and the mark set; then the counters, lock state and notices of each lock
state, IN for |e| ≤ W and OUT beyond; and the silence timer restarted. -/
def Obligations.AppliedSample : Prop :=
  ∀ (s : State) (n : InputNo) (x : Sample) (c : ClockRecord) (a : Anchor) (q : RefValue), s.takesActive n x c →
    x.brk = false → c.anchor = some a → 0 < timeDiff a.lt x.stamp → timeDiff a.lt x.stamp ≤ 2 ^ 36 →
    projection a c.trim x.stamp = some q → (rvDiff q x.rv).natAbs ≤ c.cfg.jumpLimit →
    let e := rvDiff q x.rv
    let line : ClockRecord :=
      { c.hear x.role s.lt with
        anchor := some { lt := x.stamp, rv := x.rv }
        trim := max (-1048576) (min 1048576 (c.trim + e * 4096 / 2 ^ c.cfg.gainShift))
        lastError := some (max (-2147483648) (min 2147483647 e)), rejectRun := 0
        silence := some (c.freshSilence s.lt), updatePending := true }
    let leaves := fun (c' : ClockRecord) (flags : NoticeSet) =>
      exec .sampleTake s = .next ((s.afterTake n).withRecord x.clock.slot .live (.ofClock c') flags)
    (e.natAbs ≤ c.cfg.lockWindow →
      (c.lock = .acquiring → c.inCount + 1 < c.cfg.enterCount → leaves { line with inCount := c.inCount + 1 } 0) ∧
      (c.lock = .acquiring → c.cfg.enterCount ≤ c.inCount + 1 →
        leaves { line with lock := .locked, inCount := 0, outCount := 0 } 0x0008) ∧
      (c.lock = .locked → leaves { line with outCount := 0 } 0) ∧
      (c.lock = .holdover →
        leaves { line with lock := .locked, inCount := 0, outCount := 0, holdover := none } 0x0008)) ∧
    (c.cfg.lockWindow < e.natAbs →
      (c.lock = .acquiring → leaves { line with inCount := 0 } 0) ∧
      (c.lock = .locked → c.outCount + 1 < c.cfg.leaveCount → leaves { line with outCount := c.outCount + 1 } 0) ∧
      (c.lock = .locked → c.cfg.leaveCount ≤ c.outCount + 1 →
        leaves { line with lock := .acquiring, inCount := 0, outCount := 0 } 0x0010) ∧
      (c.lock = .holdover →
        leaves { line with lock := .acquiring, inCount := 0, outCount := 0, holdover := none } 0x0010))

/-- A sample of the active role that is set aside, forces a re-anchor, or jumps (R80, R83, R84, R88): with its stamp at or
before the anchor it only restarts the silence timer; beyond the span it re-anchors; a JUMP re-anchors under REANCHOR and at the
reject limit, and below it raises the reject-run alone. -/
def Obligations.SetAsideAndJumpingSample : Prop :=
  ∀ (s : State) (n : InputNo) (x : Sample) (c : ClockRecord) (a : Anchor), s.takesActive n x c →
    (c.lock = .acquiring ∨ c.lock = .locked ∨ c.lock = .holdover) → x.brk = false → c.anchor = some a →
    let heard : ClockRecord :=
      { c.hear x.role s.lt with
        silence := if c.lock = .holdover then c.silence else some (c.freshSilence s.lt) }
    let leaves := fun (c' : ClockRecord) (flags : NoticeSet) =>
      exec .sampleTake s = .next ((s.afterTake n).withRecord x.clock.slot .live (.ofClock c') flags)
    let reanchors := fun (err : Option Int) =>
      leaves { c.hear x.role s.lt with
        anchor := some { lt := x.stamp, rv := x.rv }, lock := .acquiring, lastError := err, inCount := 0, outCount := 0
        rejectRun := 0, silence := some (c.freshSilence s.lt), holdover := none, updatePending := true }
        (0x0080 ||| (if c.lock = .acquiring then 0 else 0x0010))
    (-(2 : Int) ^ 36 ≤ timeDiff a.lt x.stamp → timeDiff a.lt x.stamp ≤ 0 → leaves heard 0) ∧
    (2 ^ 36 < (timeDiff a.lt x.stamp).natAbs → reanchors c.lastError) ∧
    ∀ q, 0 < timeDiff a.lt x.stamp → timeDiff a.lt x.stamp ≤ 2 ^ 36 → projection a c.trim x.stamp = some q →
      c.cfg.lockWindow ≤ c.cfg.jumpLimit → c.cfg.jumpLimit < (rvDiff q x.rv).natAbs →
      let err := some (max (-2147483648) (min 2147483647 (rvDiff q x.rv)))
      (c.cfg.jumpPolicy = .reanchor → reanchors err) ∧
      (c.cfg.jumpPolicy = .reject → c.cfg.rejectLimit ≤ c.rejectRun + 1 → reanchors err) ∧
      (c.cfg.jumpPolicy = .reject → c.rejectRun + 1 < c.cfg.rejectLimit →
        leaves { heard with lastError := err, rejectRun := c.rejectRun + 1 } 0)

/-- The silence and holdover expiries of a LIVE clock (R89 to R92): a switch to the other role when it is bound and was heard
within one timeout; else HOLDOVER from LOCKED, or STALE from ACQUIRING, from LOCKED with a holdover limit of 0, and at the
holdover expiry. Entry into STALE ends the wakes with NO_TIMEBASE and keeps anchor, trim, last error and active source. -/
def Obligations.SilenceAndHoldover : Prop :=
  ∀ (s : State) (i : SlotNo) (c : ClockRecord), s.rstLow = false →
    s.current (s.handleOf i) = some (.live, .ofClock c) →
    let stale := ((s.withRecord i .live
      (.ofClock { c with lock := .stale, silence := none, holdover := none, inCount := 0, outCount := 0, rejectRun := 0 })
      0x0040).endWakes (s.handleOf i) .noTimebase)
    (∀ d, c.silence = some d → 0 ≤ timeDiff d.deadline s.lt →
      (∀ r u, c.active = some r → s.roleBound (s.handleOf i) r.other = true → c.heard r.other = some u →
        timeDiff u s.lt ≤ (c.cfg.silenceMs : Int) * 25000 → exec (.silenceExpiry i) s = .next
        (s.withRecord i .live
          (.ofClock { c with active := some r.other, rejectRun := 0, silence := some (c.freshSilence s.lt) }) 0x0200)) ∧
      ((∀ r u, c.active = some r → s.roleBound (s.handleOf i) r.other = true → c.heard r.other = some u →
          (c.cfg.silenceMs : Int) * 25000 < timeDiff u s.lt) →
        (c.lock = .locked → c.cfg.holdoverMs ≠ 0 → exec (.silenceExpiry i) s = .next
          (s.withRecord i .live
            (.ofClock { c with
              lock := .holdover, silence := none
              holdover := some { start := s.lt, deadline := s.lt + BitVec.ofNat 48 (c.cfg.holdoverMs * 25000) } })
            0x0020)) ∧
        (c.lock = .acquiring ∨ c.lock = .locked ∧ c.cfg.holdoverMs = 0 →
          exec (.silenceExpiry i) s = .next stale))) ∧
    ∀ d, c.holdover = some d → 0 ≤ timeDiff d.deadline s.lt → exec (.holdoverExpiry i) s = .next stale

/-- SET-ANCHOR and SELECT-SOURCE on a record that passes their checks (R95, R96): the line placed, ACQUIRING, the mark set and
the silence timer started on a LIVE record, LOCK_LOST from LOCKED or HOLDOVER; the active source changed to a bound role with
the reject-run 0 and SOURCE_SWITCH, or left alone when it already is the one named. -/
def Obligations.SetAnchorAndSelectSource : Prop :=
  (∀ (s : State) (h : Handle) (rv : RefValue) (trim : Int) (ph : Phase) (c : ClockRecord),
    s.asked (.setAnchor h rv trim) → s.current h = some (ph, .ofClock c) → ph = .reserved ∨ ph = .live →
    -1048576 ≤ trim → trim ≤ 1048576 → exec .setAnchor s = .next
      ((s.withRecord h.slot ph
        (.ofClock { c with
          anchor := some { lt := s.lt, rv }, trim, lock := .acquiring, inCount := 0, outCount := 0, rejectRun := 0
          silence := if ph = .live then some (c.freshSilence s.lt) else c.silence, holdover := none
          updatePending := true })
        (if c.lock = .locked ∨ c.lock = .holdover then 0x0010 else 0)).hold .setAnchor (.ok (.lockState c.lock)))) ∧
  ∀ (s : State) (h : Handle) (r : Role) (ph : Phase) (c : ClockRecord), s.asked (.selectSource h r) →
    s.current h = some (ph, .ofClock c) → s.roleBound h r = true →
    (c.active = some r → exec .selectSource s = .next (s.hold .selectSource (.ok (.activeSource (some r))))) ∧
    (c.active ≠ some r → exec .selectSource s = .next
      ((s.withRecord h.slot ph (.ofClock { c with active := some r, rejectRun := 0 }) 0x0200).hold .selectSource
        (.ok (.activeSource (some r)))))

/-! ## The Deadline Unit -/

/-- The wakes bound to a clock ended by another block's event (R150): every such entry leaves the list, each origin port gets
its completions in list order, the wake count becomes 0 and the update pending mark is cleared; nothing else changes. -/
def Obligations.WakesEndedByTheirClock : Prop :=
  ∀ (s : State) (h : Handle) (ending : Ending),
    let t := s.endWakes h ending
    t = { s with slots := t.slots, ports := t.ports, deadlines := s.deadlines.filter fun e => !e.isWakeOf h } ∧
    (∀ n, t.port n = { s.port n with responses := (s.port n).responses ++ s.endedOn n h ending }) ∧
    (∀ ph c, s.current h = some (ph, .ofClock c) → t.slot h.slot =
      { s.slot h.slot with content := .active ph (.ofClock { c with wakeCount := 0, updatePending := false }) }) ∧
    ∀ i, i ≠ h.slot → t.slot i = s.slot i

/-- A WAKE at the head whose due LT is reached fires (R142, R143, R145): DUE at a lead of -L or more, TOO_LATE below, NO_TIMEBASE
where the lead is out of range; the entry leaves the list, the completion joins its port's queue and the wake count falls. -/
def Obligations.WakeFires : Prop :=
  ∀ (s : State) (e : DeadlineEntry) (rest : List DeadlineEntry) (n : PortNo) (tag : Byte) (named b : Handle)
    (p : RefValue) (ph : Phase) (c : ClockRecord), s.rstLow = false → s.deadlines = e :: rest →
    e.work = .wake n tag named b p → 0 ≤ timeDiff e.due s.lt → s.current b = some (ph, .ofClock c) →
    let fires := fun (ending : Ending) (body : WakeBody) => exec .wakeExpiry s = .next
      ((({ s with deadlines := rest }).withRecord b.slot ph (.ofClock { c with wakeCount := c.wakeCount - 1 }) 0).push n
        (.wakeDone tag ending body))
    (c.lead p s.lt = none → fires .noTimebase
      { clock := b, now := s.lt, quality := none, p := some p, lead := none, due := some e.due, lateness := none }) ∧
    ∀ l, c.lead p s.lt = some l → fires (if -(c.cfg.lateTolerance : Int) ≤ l then .due else .tooLate)
      { clock := b, now := s.lt, quality := some { lock := c.lock, draining := false }, p := some p, lead := some l
        due := some e.due, lateness := some (s.lt - e.due) }

/-- A SPLICE at the head whose due LT is reached executes (R142, R144): the alias moves to the new target and has no pending
splice, the old target's alias count falls by one and the new target's stays; a port is told by a DONE completion, the
management port by SPLICE_DONE on the alias. -/
def Obligations.SpliceExecutes : Prop :=
  ∀ (s : State) (e : DeadlineEntry) (rest : List DeadlineEntry) (origin : Origin) (h k : Handle) (ph pc : Phase)
    (a : AliasRecord) (c : ClockRecord), s.rstLow = false → s.deadlines = e :: rest → e.work = .splice origin h k →
    0 ≤ timeDiff e.due s.lt → s.current h = some (ph, .ofAlias a) → s.current a.target = some (pc, .ofClock c) →
    let moved := fun (flags : NoticeSet) =>
      (({ s with deadlines := rest }).withRecord h.slot ph
        (.ofAlias { a with target := k, pendingSplice := none }) flags).withRecord a.target.slot pc
        (.ofClock { c with aliasCount := c.aliasCount - 1 }) 0
    (∀ n tag, origin = .port n tag → exec .spliceExpiry s = .next ((moved 0).push n (.spliceDone tag .done
      { aliasHandle := h, oldTarget := some a.target, newTarget := k, now := s.lt, due := some e.due }))) ∧
    (origin = .management → exec .spliceExpiry s = .next (moved 0x0400))

/-- A set update pending mark is taken (R146): the mark is cleared, and each wake bound to the record is completed JUMPED where
its new lead or inverse is out of range or the lead exceeds E, fired where its new due LT is not later than now, and otherwise
kept with its new due LT; completions join their ports' queues in list order and lower the wake count; other entries and
records stay. -/
def Obligations.UpdateNotice : Prop :=
  ∀ (s : State) (i : SlotNo) (ph : Phase) (c : ClockRecord), s.rstLow = false →
    s.current (s.handleOf i) = some (ph, .ofClock c) → c.updatePending = true →
    let h := s.handleOf i
    let jumped := fun (p : RefValue) (l : Option Int) => some (Ending.jumped, ({
      clock := h, now := s.lt, quality := none, p := some p, lead := l, due := none, lateness := none } : WakeBody))
    let ends := fun (p : RefValue) =>
      match c.lead p s.lt with
      | none => jumped p none
      | some l =>
        if (c.cfg.farEarly : Int) < l then jumped p (some l)
        else
          match c.inverse p with
          | none => jumped p (some l)
          | some d =>
            if 0 < timeDiff s.lt d then none
            else some (if -(c.cfg.lateTolerance : Int) ≤ l then Ending.due else Ending.tooLate,
              { clock := h, now := s.lt, quality := some { lock := c.lock, draining := false }, p := some p
                lead := some l, due := some d, lateness := some (s.lt - d) })
    ∃ t, exec (.updateNotice i) s = .next t ∧
      t = { s with slots := t.slots, ports := t.ports, deadlines := t.deadlines } ∧
      (∀ n, t.port n =
        { s.port n with
          responses := (s.port n).responses ++ s.deadlines.filterMap fun e =>
            match e.work with
            | .wake m tag _ b p =>
              if b = h ∧ m = n then (ends p).map fun x => ResponseEntry.wakeDone tag x.1 x.2 else none
            | .splice .. => none }) ∧
      t.deadlines.Perm (s.deadlines.filterMap fun e =>
        match e.work with
        | .wake _ _ _ b p =>
          if b = h then (if (ends p).isSome then none else (c.inverse p).map fun d => { e with due := d }) else some e
        | .splice .. => some e) ∧
      t.slot i = { s.slot i with
        content := .active ph (.ofClock { c with
          updatePending := false
          wakeCount := c.wakeCount - s.deadlines.countP fun e =>
            match e.work with
            | .wake _ _ _ b p => b == h && (ends p).isSome
            | .splice .. => false }) } ∧
      ∀ j, j ≠ i → t.slot j = s.slot j

/-- The Deadline List stays in list order, by the difference from now to each due LT and then by arming order (R137): at every
command but a tick, and at a tick too while no entry is overdue by 2^47 ticks, which is as far as a difference reads. -/
def Obligations.DeadlineListStaysInOrder : Prop :=
  ∀ (c : Instr) (s t : State), DeadlinesTied s → s.deadlines.Pairwise (fun a b => a.precedes s.lt b = true) →
    (c = .lclkTick → ∀ e ∈ s.deadlines, -(2 : Int) ^ 47 < timeDiff s.lt e.due) → exec c s = .next t →
    t.deadlines.Pairwise (fun a b => a.precedes t.lt b = true)

/-- A granted WAKE (R139 to R141): refused where resolution refuses it, in UNSET or STALE, out of range, too early, or with the
list full; completed at once at a lead of 0 or less; otherwise armed at the inverse of P, in its place in the list, with one
more wake on its clock and no response. -/
def Obligations.WakeRequest : Prop :=
  ∀ (s : State) (n : PortNo) (tag : Byte) (h : Handle) (p : RefValue), s.grants n tag (.wake h p) →
    let refuses := fun (st : Status) (f : Handle) =>
      exec .wake s = .next ((s.serve n).respond n .wake tag (.refused st f))
    (∀ st f, resolve s (s.port n).level .wake true h = .fail st f → refuses st f) ∧
    ∀ r ph, resolve s (s.port n).level .wake true h = .pass r → s.current r.eff = some (ph, .ofClock r.clock) →
      (r.clock.lock = .unset ∨ r.clock.lock = .stale → refuses .noTimebase r.eff) ∧
      (r.clock.lock ≠ .unset → r.clock.lock ≠ .stale →
        (r.clock.lead p s.lt = none → refuses .outOfRange r.eff) ∧
        ∀ l, r.clock.lead p s.lt = some l →
          ((r.clock.cfg.farEarly : Int) < l → refuses .tooEarly r.eff) ∧
          (l ≤ (r.clock.cfg.farEarly : Int) → l ≤ 0 → exec .wake s = .next ((s.serve n).push n
            (.wakeDone tag (if -(r.clock.cfg.lateTolerance : Int) ≤ l then .due else .tooLate)
              { clock := r.eff, now := s.lt, quality := some { lock := r.clock.lock, draining := false }, p := some p
                lead := some l, due := none, lateness := none }))) ∧
          (l ≤ (r.clock.cfg.farEarly : Int) → 0 < l →
            (r.clock.inverse p = none → refuses .outOfRange r.eff) ∧
            ∀ d, r.clock.inverse p = some d →
              (48 ≤ s.deadlines.length → refuses .listFull h) ∧
              (s.deadlines.length < 48 → exec .wake s = .next
                { (s.serve n).withRecord r.eff.slot ph
                    (.ofClock { r.clock with wakeCount := r.clock.wakeCount + 1 }) 0 with
                  deadlines :=
                    insertEntry s.lt { due := d, order := s.nextOrder, work := .wake n tag h r.eff p } s.deadlines
                  nextOrder := s.nextOrder + 1 })))

/-- A granted CANCEL (R148): NOT_FOUND where the port has no armed entry with the tag; otherwise the earliest-armed one ends, a
WAKE with its clock's count lowered, a SPLICE with its new target's count lowered and its alias without a pending splice; the
CANCELLED completion joins the queue, and the CANCEL's own response after it. -/
def Obligations.CancelRequest : Prop :=
  ∀ (s : State) (n : PortNo) (tag wanted : Byte), s.grants n tag (.cancel wanted) →
    ((∀ e ∈ s.deadlines, e.hasTag n wanted = false) → exec .cancel s = .next
      ((s.serve n).respond n .cancel tag (.refused .notFound { slot := 0, gen := 0 }))) ∧
    ∀ e ∈ s.deadlines, (∀ x ∈ s.deadlines, x.hasTag n wanted = true → x ≠ e → e.order < x.order) →
      let rest := { s.serve n with deadlines := s.deadlines.erase e }
      (∀ named b p ph c, e.work = .wake n wanted named b p → s.current b = some (ph, .ofClock c) →
        exec .cancel s = .next (((rest.withRecord b.slot ph (.ofClock { c with wakeCount := c.wakeCount - 1 }) 0).push n
          (.wakeDone wanted .cancelled
            { clock := named, now := s.lt, quality := none, p := none, lead := none, due := some e.due
              lateness := none })).respond n .cancel tag (.ok (.cancel .wake e.due)))) ∧
      ∀ h k ph pk a c, e.work = .splice (.port n wanted) h k → s.current h = some (ph, .ofAlias a) →
        s.current k = some (pk, .ofClock c) →
        exec .cancel s = .next ((((rest.withRecord k.slot pk (.ofClock { c with aliasCount := c.aliasCount - 1 })
          0).withRecord h.slot ph (.ofAlias { a with pendingSplice := none }) 0).push n
          (.spliceDone wanted .cancelled
            { aliasHandle := h, oldTarget := none, newTarget := k, now := s.lt, due := some e.due })).respond n .cancel
          tag (.ok (.cancel .splice e.due)))

/-! ## Query ports -/

/-- Select, bits and unblocking on a query port (R101, R102, R110, R191): the status byte captured and the purge mark cleared;
the kind byte collected; its eighth bit making a FETCH with a copy of the head, a REQUEST, or a malformed REQUEST; later bits
counted, a REQUEST's kept up to 104. QUERY_FETCH_SELECT is the bit that completes a FETCH kind byte: an inference of the model,
log entry 8. -/
def Obligations.PortTransactionBits : Prop :=
  ∀ (s : State) (n : PortNo), s.rstLow = false →
    let becomes := fun (c : Instr) (tx : Transaction Selection) =>
      exec c s = .next (s.updPort n fun p => { p with tx })
    let head := (s.port n).responses.head?.map fun e => ({ entry := e, inQueue := true } : Selection)
    ((s.port n).tx = .idle → (s.port n).credits ≤ 8 → ∃ st : Byte,
      exec (.querySelect n) s = .next (s.updPort n fun p => { p with tx := .kind st [], purgeMark := false }) ∧
      (st.getLsbD 7 = true ↔ (s.port n).responses ≠ []) ∧ (st.toNat / 8) % 16 = (s.port n).credits ∧
      st.getLsbD 2 = (s.port n).refused ∧ st.getLsbD 1 = (s.port n).framing ∧ st.getLsbD 0 = (s.port n).purged) ∧
    (∀ st bits b, (s.port n).tx = .kind st bits →
      (bits.length < 7 → becomes (.queryBitSampled n b) (.kind st (bits ++ [b]))) ∧
      (bits.length = 7 →
        (bits ++ [b] = bitsOfByte 0xa2 → becomes (.queryBitSampled n b) (.fetch st 0 head)) ∧
        (bits ++ [b] = bitsOfByte 0xa1 → becomes (.queryBitSampled n b) (.request st (bits ++ [b]) 8 false)) ∧
        (bits ++ [b] ≠ bitsOfByte 0xa2 → bits ++ [b] ≠ bitsOfByte 0xa1 →
          becomes (.queryBitSampled n b) (.request st (bits ++ [b]) 8 true)))) ∧
    (∀ st bits k m b, (s.port n).tx = .request st bits k m →
      becomes (.queryBitSampled n b) (.request st (if k < 104 then bits ++ [b] else bits) (k + 1) m)) ∧
    (∀ st k sel b, (s.port n).tx = .fetch st k sel → becomes (.queryBitSampled n b) (.fetch st (k + 1) sel)) ∧
    (∀ st, (s.port n).tx = .kind st [true, false, true, false, false, false, true] →
      becomes (.queryFetchSelect n) (.fetch st 0 head)) ∧
    ((s.port n).tx = .blocked → becomes (.queryPortUnblock n) .idle)

/-- R109 whole: QRDYn is asserted while the port's response queue holds an entry and deasserted while it is empty; the RDY item
says the same at the capture; it falls only at a FETCH end, a port reset, a purge or a hard reset; and it does not depend on the
request queue, the credits or the sticky flags. -/
def Obligations.ReadyLine : Prop :=
  (∀ s : State, PartsLegal s → ∀ n,
    (queryReady s n = true ↔ (s.port n).responses ≠ []) ∧
    ((s.port n).credits ≤ 8 → ((s.port n).statusByte.getLsbD 7 = true ↔ (s.port n).responses ≠ [])) ∧
    ∀ q k a b c, queryReady (s.updPort n fun p =>
      { p with requests := q, credits := k, refused := a, framing := b, purged := c }) n = queryReady s n) ∧
  ∀ (c : Instr) (s t : State) (n : PortNo), exec c s = .next t → queryReady s n = true → queryReady t n = false →
    c = .queryFetchEnd n ∨ c = .portReset ∨ c = .purge ∨ c = .hardReset

/-- The end of a query transaction that is no FETCH (R101, R103, R104, R192): nothing for one with no clock; FRAMING for a
malformed one (a broken kind byte, an unknown kind, a bit count that is no multiple of 8, a frame over 13 bytes or under three,
an unknown code, or another length than the code's); for a well-formed one REFUSED without credit, else one credit fewer and the
request, with its code and tag, at the tail of the queue. -/
def Obligations.QueryRequestEnd : Prop :=
  ∀ (s : State) (n : PortNo), s.rstLow = false →
    let ends := fun (f : Port → Port) =>
      exec (.queryRequestEnd n) s = .next (s.updPort n fun p => { f p with tx := .idle })
    let framing := fun (p : Port) => { p with framing := true }
    let lengths : List (Nat × Nat) :=
      [(0x10, 12), (0x11, 10), (0x12, 5), (0x13, 10), (0x14, 10), (0x15, 5), (0x16, 4), (0x17, 4), (0x18, 7), (0x19, 13),
       (0x1a, 5)]
    (∀ st, (s.port n).tx = .kind st [] → ends id) ∧
    (∀ st b bits, (s.port n).tx = .kind st (b :: bits) → ends framing) ∧
    ∀ st bits k m, (s.port n).tx = .request st bits k m →
      (m = true ∨ k % 8 ≠ 0 ∨ 104 < k ∧ bits.length ≤ 104 → ends framing) ∧
      ∀ bs : List Byte, m = false → bits = frameBits bs → k = 8 * bs.length →
        (bs.length < 3 → ends framing) ∧
        ∀ (code tag : Byte) (body : List Byte), bs = 0xa1 :: code :: tag :: body →
          ((code.toNat, bs.length) ∉ lengths → ends framing) ∧
          ((code.toNat, bs.length) ∈ lengths → ∃ r : PortRequest, r.code.code = code.toNat ∧
            ((s.port n).credits = 0 → ends fun p => { p with refused := true }) ∧
            ((s.port n).credits ≠ 0 → ends fun p =>
              { p with credits := p.credits - 1, requests := p.requests ++ [{ tag, request := r }] }))

/-- The end of a FETCH (R105, R111, R113): with the whole response clocked and the entry still at the head, the entry goes, and
its credit returns or, for a REVOKED notice, the lease-use count falls; aborted, gone or NONE, the queue stays; in every case the
flags the captured byte reported are cleared, but PURGED when a purge came after the capture. -/
def Obligations.QueryFetchEnd : Prop :=
  ∀ (s : State) (n : PortNo) (st : Byte) (k : Nat) (sel : Option Selection), s.rstLow = false →
    (s.port n).tx = .fetch st k sel →
    let ends := fun (f : Port → Port) => exec (.queryFetchEnd n) s = .next (s.updPort n fun p =>
      { f p with
        tx := .idle, refused := p.refused && !st.getLsbD 2, framing := p.framing && !st.getLsbD 1
        purged := p.purged && (!st.getLsbD 0 || p.purgeMark) })
    (∀ e rest, (s.port n).responses = e :: rest → sel = some { entry := e, inQueue := true } →
      8 * e.bytes.length ≤ k →
      ((∀ i h, e ≠ .revoked i h) → ends fun p => { p with responses := rest, credits := p.credits + 1 }) ∧
      (∀ i h, e = .revoked i h → ends fun p => { p with responses := rest, leaseUse := p.leaseUse - 1 })) ∧
    (∀ x, sel = some x → k < 8 * x.entry.bytes.length ∨ x.inQueue = false → ends id) ∧ (sel = none → ends id)

/-- A whole FETCH, bit by bit, with any bits clocked in while the response is clocked out: it removes the head, returns its
credit or lease use, and clears the three flags, all of which its status byte reported (R102, R110, R111). -/
def Obligations.FetchTakesTheHead : Prop :=
  ∀ (s : State) (n : PortNo) (e : ResponseEntry) (rest : List ResponseEntry) (bits : List Bool), s.rstLow = false →
    (s.port n).tx = .idle → (s.port n).responses = e :: rest → bits.length = 8 * e.bytes.length →
    execAll (.querySelect n :: ((bitsOfByte 0xa2 ++ bits).map (.queryBitSampled n) ++ [.queryFetchEnd n])) s =
      .next (s.updPort n fun p =>
        { p with
          responses := rest, refused := false, framing := false, purged := false, purgeMark := false
          credits := if e.credited then p.credits + 1 else p.credits
          leaseUse := if e.credited then p.leaseUse else p.leaseUse - 1 })

/-- What the data-out pins present for the next rising edge (R101, R110, R175, R180), which is the model's choice of instant
(log entry 14): high impedance with the select deasserted, in reset too; with RST_N high and the select at its level, the
captured status byte, most significant bit first, during the kind byte; the bytes of the selected response, or the NONE byte, in
a FETCH, and zeros beyond; zero in a REQUEST and in BLOCKED. -/
def Obligations.DataOutPins : Prop :=
  (∀ (s : State) (n : PortNo), queryDataOut s n false = none ∧ mgmtDataOut s false = none) ∧
  ∀ s : State, s.rstLow = false →
    (∀ n, let out := queryDataOut s n (selectAsserted s n)
      ((s.port n).tx = .idle → out = none) ∧ ((s.port n).tx = .blocked → out = some false) ∧
      (∀ st bits, (s.port n).tx = .kind st bits → bits.length < 8 → out = some (st.getLsbD (7 - bits.length))) ∧
      (∀ st bits k m, (s.port n).tx = .request st bits k m → out = some false) ∧
      (∀ st k, (s.port n).tx = .fetch st k none → out = some false) ∧
      ∀ st k x, (s.port n).tx = .fetch st k (some x) →
        (8 * x.entry.bytes.length ≤ k → out = some false) ∧
        ∀ i j b, k = 8 * i + j → j < 8 → x.entry.bytes[i]? = some b → out = some (b.getLsbD (7 - j))) ∧
    let out := mgmtDataOut s (mgmtSelected s)
    (s.mgmt.tx = .idle → out = none) ∧ (s.mgmt.tx = .blocked → out = some false) ∧
    (∀ st bits, s.mgmt.tx = .kind st bits → bits.length < 8 → out = some (st.getLsbD (7 - bits.length))) ∧
    (∀ st bits k m, s.mgmt.tx = .request st bits k m → out = some false) ∧
    (∀ st k, s.mgmt.tx = .fetch st k none → out = some false) ∧
    ∀ st k x, s.mgmt.tx = .fetch st k (some x) →
      (8 * x.bytes.length ≤ k → out = some false) ∧
      ∀ i j b, k = 8 * i + j → j < 8 → x.bytes[i]? = some b → out = some (b.getLsbD (7 - j))

/-- The layout of every response (R189, R193, R196, R197, R181): the codes of the enumerated values; class, length and header
bytes; the results and completion bodies field by field, in the order and sizes of the tables (their fields written out in
Safety.lean), an absent field zero and its presence bit clear; and the lengths the tables give. READ-PORT follows R196's eight
bytes, without an instant (log entry 18). -/
def Obligations.ResponseLayout : Prop :=
  ([Status.ok, .nullHandle, .staleHandle, .notLive, .draining, .level, .use, .wrongKind, .noTimebase, .outOfRange, .tooEarly,
      .listFull, .leaseLimit, .notFound, .busy, .inUse, .tableFull, .mapFull, .duplicateKey, .roleTaken, .badValue].map
      Status.code = List.range 21 ∧
    [Ending.due, .tooLate, .cancelled, .discontinuity, .jumped, .noTimebase, .retired, .done, .aliasRetired].map
      Ending.code = List.range' 0x41 9 ∧
    [PortCode.convert, .invert, .status, .due, .wake, .lease, .release, .cancel, .retarget, .splice, .unsplice].map
      PortCode.code = List.range' 0x10 11 ∧
    [MgmtCode.createClock, .createAlias, .configure, .enable, .retire, .readRecord, .bind, .unbind, .setInputOffset,
      .setAnchor, .selectSource, .setPortLevel, .portReset, .readPort, .retarget, .splice, .unsplice, .readIdentity,
      .readTime, .setMask, .nextNotice, .purge].map MgmtCode.code =
      [0x40, 0x41, 0x42, 0x43, 0x44, 0x45, 0x48, 0x49, 0x4a, 0x4c, 0x4d, 0x50, 0x51, 0x52, 0x54, 0x55, 0x56, 0x58, 0x59,
       0x5a, 0x5b, 0x5c] ∧
    [Lifecycle.free, .reserved, .live, .draining, .retired].map Lifecycle.code = [0, 1, 2, 3, 4] ∧
    [LockState.unset, .acquiring, .locked, .holdover, .stale].map LockState.code = [0, 1, 2, 3, 4] ∧
    [none, some RecordKind.clockKind, some .aliasKind].map kindCode = [0, 1, 2] ∧
    [none, some Role.primary, some .standby].map roleCode = [0, 1, 2] ∧
    (∀ q : Quality, q.code = q.lock.code + if q.draining then 128 else 0) ∧
    [DueClass.tooEarly, .wait, .due, .tooLate].map DueClass.code = [1, 2, 3, 4] ∧
    [EntryKind.wake, .splice].map EntryKind.code = [1, 2] ∧
    [TxState.idle, .kind, .request, .fetch, .blocked].map TxState.code = [0, 1, 2, 3, 4] ∧
    (∀ n tag, (Origin.port n tag).code = n.val ∧ (Origin.port n tag).tagCode = tag.toNat) ∧
    Origin.management.code = 0xff ∧ Origin.management.tagCode = 0 ∧
    [NoticeKind.badFrame, .unboundTag, .overrun, .lockGained, .lockLost, .holdover, .stale, .jump, .breakSeen,
      .sourceSwitch, .spliceDone, .spliceCancelled, .revoked, .drained].map NoticeKind.bit = List.range 14) ∧
  (∀ e : ResponseEntry, ∃ (cls : Byte) (payload : List Byte), payload.length < 256 ∧
    e.bytes = cls :: BitVec.ofNat 8 payload.length :: payload ∧
    (∀ code tag st f, e = .response code tag (.refused st f) → cls = 0x01 ∧ payload =
      [BitVec.ofNat 8 code.code, tag, BitVec.ofNat 8 st.code, BitVec.ofNat 8 f.slot.val, f.gen]) ∧
    (∀ code tag r, e = .response code tag (.ok r) → cls = 0x01 ∧ ∃ results : List Byte,
      payload = BitVec.ofNat 8 code.code :: tag :: 0 :: 0 :: 0 :: results ∧ Spells r.fields results ∧
      results.length =
        match r with
        | .convert .. | .invert .. | .due .. => 20
        | .status .. => 26
        | .lease .. => 11
        | .release .. => 10
        | .cancel .. => 7
        | .retarget .. => 6
        | .unsplice .. => 12) ∧
    (∀ tag x b, e = .wakeDone tag x b → cls = 0x02 ∧ payload.length = 35 ∧ ∃ body : List Byte,
      payload = 0x14 :: tag :: BitVec.ofNat 8 x.code :: body ∧ Spells b.fields body) ∧
    (∀ tag x b, e = .spliceDone tag x b → cls = 0x02 ∧ payload.length = 22 ∧ ∃ body : List Byte,
      payload = 0x19 :: tag :: BitVec.ofNat 8 x.code :: body ∧ Spells b.fields body) ∧
    ∀ k h, e = .revoked k h → cls = 0x03 ∧ payload = [0x4a, BitVec.ofNat 8 k.val, BitVec.ofNat 8 h.slot.val, h.gen]) ∧
  ∀ r : HeldResponse, ∃ payload : List Byte, payload.length < 256 ∧ 4 ≤ payload.length ∧
    r.bytes = BitVec.ofNat 8 payload.length :: payload ∧
    (∀ st f, r.answer = .refused st f → payload =
      [BitVec.ofNat 8 r.code.code, BitVec.ofNat 8 st.code, BitVec.ofNat 8 f.slot.val, f.gen]) ∧
    ∀ x, r.answer = .ok x → ∃ results : List Byte, payload = BitVec.ofNat 8 r.code.code :: 0 :: 0 :: 0 :: results ∧
      Spells x.fields results ∧
      results.length =
        match x with
        | .none => 0
        | .newHandle _ => 2
        | .lifecycle _ | .activeSource _ | .lockState _ | .level _ => 1
        | .unbound .. | .portReset .. | .mask .. => 4
        | .offset _ => 3
        | .port _ | .identity => 8
        | .retarget .. | .time _ => 6
        | .spliceExecuted .. | .spliceArmed .. => 13
        | .unsplice .. => 12
        | .notice _ => 7
        | .snapshot y =>
          match y.slot.content with
          | .free | .retired _ => 12
          | .active _ (.ofClock _) => 111
          | .active _ (.ofAlias _) => 34

/-- Every request frame reads back as the request it was sent for (R189, R192, R194, R195), at the frame length of its code; a
management request is taken with its signed fields in their widths and at most 14 changes. The bits R189 says are ignored have
no effect on the request: bits 7 to 1 of a selector, mode or role, bits 15 and 14 of a SET-MASK's set, and the t of a CONVERT
NOW, whatever they are. -/
def Obligations.RequestFramesReadBack : Prop :=
  (∀ q : QueuedRequest, readPortFrame q.frame = some q ∧ q.frame.length =
    match q.request with
    | .convert .. => 12
    | .invert .. | .due .. | .wake .. => 10
    | .status _ | .lease _ | .unsplice _ => 5
    | .release _ | .cancel _ => 4
    | .retarget .. => 7
    | .splice .. => 13) ∧
  (∀ tag slot gen sel t5 t4 t3 t2 t1 t0 : Byte,
    readPortFrame [0xa1, 0x10, tag, slot, gen, sel, t5, t4, t3, t2, t1, t0] = some
      { tag, request := .convert { slot := slot.toFin, gen }
          (if sel.getLsbD 0 then .at (t5 ++ t4 ++ t3 ++ t2 ++ t1 ++ t0) else .now) }) ∧
  (∀ slot gen mode : Byte, readMgmtFrame [0xa1, 0x44, slot, gen, mode] =
    some (.retire { slot := slot.toFin, gen } (if mode.getLsbD 0 then .immediate else .normal))) ∧
  (∀ slot gen role : Byte, readMgmtFrame [0xa1, 0x4d, slot, gen, role] =
    some (.selectSource { slot := slot.toFin, gen } (if role.getLsbD 0 then .standby else .primary))) ∧
  (∀ input t1 t0 slot gen role : Byte, readMgmtFrame [0xa1, 0x48, input, t1, t0, slot, gen, role] =
    some (.bind input (t1 ++ t0) { slot := slot.toFin, gen } (if role.getLsbD 0 then .standby else .primary))) ∧
  (∀ k1 k0 : Byte, readMgmtFrame [0xa1, 0x5a, k1, k0] = some (.setMask ((k1 ++ k0).setWidth 14))) ∧
  ∀ r : MgmtRequest, r.encodable = true → readMgmtFrame r.frame = some r ∧ r.frame.length ≤ 74 ∧ r.frame.length =
    match r with
    | .createClock | .readIdentity | .readTime | .nextNotice | .purge => 2
    | .createAlias _ | .enable _ | .setPortLevel .. | .unsplice _ | .setMask _ => 4
    | .configure _ cs => 4 + 5 * cs.length
    | .retire .. | .unbind .. | .selectSource .. => 5
    | .readRecord _ | .portReset _ | .readPort _ => 3
    | .bind .. => 8
    | .setInputOffset .. | .retarget .. => 6
    | .setAnchor .. => 13
    | .splice .. => 12

/-- Every frame that reads as a request, its ignored bits of any value, clocked in bit by bit from select to deselect, is received
whole (R101 to R104, R175, R177): on a query port with a free credit it joins the request queue with one credit fewer; on the
management port in NONE, with at most 74 bytes, it becomes the request in progress. Nothing else changes but the purge mark,
which the capture clears. Every request has such a frame: RequestFramesReadBack. -/
def Obligations.RequestsAreReceived : Prop :=
  (∀ (s : State) (n : PortNo) (q : QueuedRequest) (frame : List Byte), s.rstLow = false → (s.port n).tx = .idle →
    (s.port n).credits ≠ 0 → readPortFrame frame = some q →
    execAll (.querySelect n :: ((frameBits frame).map (.queryBitSampled n) ++ [.queryRequestEnd n])) s =
      .next (s.updPort n fun p =>
        { p with credits := p.credits - 1, requests := p.requests ++ [q], purgeMark := false })) ∧
  ∀ (s : State) (r : MgmtRequest) (frame : List Byte), s.rstLow = false → s.mgmt.tx = .idle → s.mgmt.req = .none →
    readMgmtFrame frame = some r → frame.length ≤ 74 →
    execAll (.mgmtSelect :: ((frameBits frame).map .mgmtBitSampled ++ [.mgmtRequestEnd])) s =
      .next { s with mgmt := { s.mgmt with req := .inProgress r } }

/-- Which request the Query Engine grants, and what every evaluation does with the queues (R106, R107): the head of the first
non-empty queue from the pointer on; the head goes, the pointer moves to the port after the one served, and no other queue or
level changes. -/
def Obligations.GrantOrder : Prop :=
  ∀ (s : State) (n : PortNo) (q : QueuedRequest) (rest : List QueuedRequest), s.rstLow = false →
    (s.port n).requests = q :: rest →
    (∀ m : PortNo, (m - s.qePtr).val < (n - s.qePtr).val → (s.port m).requests = []) →
    s.granted = some (n, q) ∧
    ∀ x ∈ evaluations, x.2 = q.request.code → ∃ t, exec x.1 s = .next t ∧ t.qePtr = n + 1 ∧
      (t.port n).requests = rest ∧ (∀ m, m ≠ n → (t.port m).requests = (s.port m).requests) ∧
      ∀ m, (t.port m).level = (s.port m).level ∧ (t.port m).credits = (s.port m).credits ∧
        (t.port m).tx = (s.port m).tx

/-! ## Resolution and the Query Engine's requests -/

/-- Checks 1 to 7 of a port request (R42 to R46), each with its status and fault handle, in their order: null, stale, RESERVED,
level, the target behind an alias, the use kind in the named record and then in the effective one, and DRAINING where check 7
applies; passing yields the effective record. -/
def Obligations.Resolution : Prop :=
  ∀ (s : State) (level : Nat) (use : UseKind) (fresh : Bool) (h : Handle),
    let fails := fun (st : Status) (f : Handle) => resolve s level use fresh h = .fail st f
    (h = { slot := 0, gen := 0 } → fails .nullHandle { slot := 0, gen := 0 }) ∧
    (h ≠ { slot := 0, gen := 0 } → s.current h = none → fails .staleHandle h) ∧
    ∀ ph r, s.current h = some (ph, r) →
      (ph = .reserved → fails .notLive h) ∧
      (ph ≠ .reserved → r.level < level → fails .level h) ∧
      (ph ≠ .reserved → level ≤ r.level →
        (∀ a c, r = .ofAlias a → s.current a.target = some (.reserved, .ofClock c) → fails .notLive a.target) ∧
        ∀ eff c, (r = .ofClock c ∧ eff = h ∨ ∃ a p, r = .ofAlias a ∧ eff = a.target ∧
            s.current a.target = some (p, .ofClock c) ∧ p ≠ .reserved) →
          (r.useSet.has use = false → fails .use h) ∧
          (r.useSet.has use = true → c.cfg.useSet.has use = false → fails .use eff) ∧
          (r.useSet.has use = true → c.cfg.useSet.has use = true →
            (fresh = true → ph.isDraining = true → fails .draining h) ∧
            (¬(fresh = true ∧ ph.isDraining = true) →
              resolve s level use fresh h = .pass { named := h, phase := ph, eff, clock := c })))

/-- Granted CONVERT, INVERT, DUE and STATUS (R121 to R132): the refusals of resolution, NO_TIMEBASE in UNSET and STALE,
OUT_OF_RANGE, and the answers with their now, quality and value; DUE by the thresholds E, 0 and -L; STATUS in every lock state,
with the named record's lifecycle. The answer joins the queue and nothing else changes. -/
def Obligations.TimingQueries : Prop :=
  ∀ (s : State) (n : PortNo) (tag : Byte) (h : Handle),
    let answers := fun (c : Instr) (code : PortCode) (x : PortAnswer) =>
      exec c s = .next ((s.serve n).respond n code tag x)
    let needs := fun (c : Instr) (code : PortCode) (use : UseKind) (value : Resolved → Option PortResult) =>
      (∀ st f, resolve s (s.port n).level use false h = .fail st f → answers c code (.refused st f)) ∧
      ∀ r, resolve s (s.port n).level use false h = .pass r →
        (r.clock.lock = .unset ∨ r.clock.lock = .stale → answers c code (.refused .noTimebase r.eff)) ∧
        (r.clock.lock ≠ .unset → r.clock.lock ≠ .stale →
          (value r = none → answers c code (.refused .outOfRange r.eff)) ∧
          ∀ x, value r = some x → answers c code (.ok x))
    let quality := fun (r : Resolved) => ({ lock := r.clock.lock, draining := r.phase.isDraining } : Quality)
    (s.grants n tag (.convert h .now) → needs .convert .convert .convert fun r =>
      (r.clock.projection s.lt).map fun q => .convert r.eff s.lt (quality r) s.lt q) ∧
    (∀ t, s.grants n tag (.convert h (.at t)) → needs .convert .convert .convert fun r =>
      (r.clock.projection t).map fun q => .convert r.eff s.lt (quality r) t q) ∧
    (∀ v, s.grants n tag (.invert h v) → needs .invert .invert .convert fun r =>
      (r.clock.inverse v).map fun t => .invert r.eff s.lt (quality r) v t) ∧
    (∀ p, s.grants n tag (.due h p) → needs .due .due .due fun r =>
      (r.clock.lead p s.lt).map fun l => .due r.eff s.lt (quality r) p
        (if (r.clock.cfg.farEarly : Int) < l then .tooEarly else if 0 < l then .wait
          else if -(r.clock.cfg.lateTolerance : Int) ≤ l then .due else .tooLate) l.natAbs) ∧
    (s.grants n tag (.status h) →
      (∀ st f, resolve s (s.port n).level .convert false h = .fail st f → answers .status .status (.refused st f)) ∧
      ∀ r, resolve s (s.port n).level .convert false h = .pass r → answers .status .status
        (.ok (.status r.eff s.lt r.phase.lifecycle r.clock.lock r.clock.active r.clock.trim r.clock.lastError
          (r.clock.anchor.map fun a => timeDiff a.lt s.lt))))

/-- A granted LEASE (R157, R158): refused as resolution refuses it, or with LEASE_LIMIT at a lease-use count of 4; otherwise the
lowest-numbered free entry is held, and the record's lease count and the port's lease-use count rise. A granted RELEASE (R160):
NOT_FOUND unless the number is a lease the port holds; otherwise the entry is free, both counts fall, and a DRAINING record whose
last lease went enters RETIRED. -/
def Obligations.LeaseAndRelease : Prop :=
  (∀ (s : State) (n : PortNo) (tag : Byte) (h : Handle), s.grants n tag (.lease h) →
    let refuses := fun (st : Status) (f : Handle) =>
      exec .lease s = .next ((s.serve n).respond n .lease tag (.refused st f))
    (∀ st f, resolve s (s.port n).level .lease true h = .fail st f → refuses st f) ∧
    ∀ r ph x, resolve s (s.port n).level .lease true h = .pass r → s.current h = some (ph, x) →
      (4 ≤ (s.port n).leaseUse → refuses .leaseLimit h) ∧
      ∀ k, (s.port n).leaseUse < 4 → s.lease k = none → (∀ j, j < k → s.lease j ≠ none) → exec .lease s = .next
        (((((s.serve n).putLease k (some { port := n, named := h, grant := s.lt })).withRecord h.slot ph
          (x.updLeaseCount (· + 1)) 0).updPort n fun p => { p with leaseUse := p.leaseUse + 1 }).respond n .lease tag
          (.ok (.lease k h s.lt r.eff)))) ∧
  ∀ (s : State) (n : PortNo) (tag number : Byte), s.grants n tag (.release number) →
    ((∀ k l, s.lease k = some l → k.val = number.toNat → l.port ≠ n) → exec .release s = .next
      ((s.serve n).respond n .release tag (.refused .notFound { slot := 0, gen := 0 }))) ∧
    ∀ (k : LeaseNo) l ph x, k.val = number.toNat → s.lease k = some l → l.port = n →
      s.current l.named = some (ph, x) →
      let freed := ((s.serve n).putLease k none).updPort n fun p => { p with leaseUse := p.leaseUse - 1 }
      let answers := fun (t : State) (life : Lifecycle) =>
        exec .release s = .next (t.respond n .release tag (.ok (.release k l.named l.grant life)))
      (¬(ph.isDraining = true ∧ x.leaseCount ≤ 1) →
        answers (freed.withRecord l.named.slot ph (x.updLeaseCount (· - 1)) 0) ph.lifecycle) ∧
      (ph.isDraining = true → x.leaseCount ≤ 1 →
        (∀ c, x = .ofClock c →
          answers (freed.putSlot l.named.slot ((s.slot l.named.slot).retiredAs .clockKind)) .retired) ∧
        ∀ a p c, x = .ofAlias a → s.current a.target = some (p, .ofClock c) →
          answers ((freed.withRecord a.target.slot p (.ofClock { c with aliasCount := c.aliasCount - 1 }) 0).putSlot
            l.named.slot ((s.slot l.named.slot).retiredAs .aliasKind)) .retired)

/-- The checks of RETARGET, SPLICE and UNSPLICE, from a port (R48) and from the management port (R53), each with its status and
fault handle: the alias handle null, stale, RESERVED and level from a port alone, WRONG_KIND; then for RETARGET and SPLICE the new
target null, stale, WRONG_KIND, DRAINING, the alias DRAINING, a splice pending (R164, R166). A refusal changes nothing else. -/
def Obligations.AliasRequestChecks : Prop :=
  ∀ (s : State) (h k : Handle) (t : LocalTime), s.rstLow = false →
    let null : Handle := { slot := 0, gen := 0 }
    let move := fun (refuses : Status → Handle → Prop) (ph : Phase) (a : AliasRecord) =>
      (k = null → refuses .nullHandle null) ∧ (k ≠ null → s.current k = none → refuses .staleHandle k) ∧
      (∀ p b, s.current k = some (p, .ofAlias b) → refuses .wrongKind k) ∧
      ∀ p c, s.current k = some (p, .ofClock c) →
        (p.isDraining = true → refuses .draining k) ∧
        (p.isDraining = false → ph.isDraining = true → refuses .draining h) ∧
        (p.isDraining = false → ph.isDraining = false → a.pendingSplice ≠ none → refuses .busy h)
    (∀ x ∈ [(Instr.retarget, PortRequest.retarget h k), (.splice, .splice h k t), (.unsplice, .unsplice h)],
      ∀ n tag, s.granted = some (n, { tag, request := x.2 }) →
      let refuses := fun (st : Status) (f : Handle) =>
        exec x.1 s = .next ((s.serve n).respond n x.2.code tag (.refused st f))
      (h = null → refuses .nullHandle null) ∧ (h ≠ null → s.current h = none → refuses .staleHandle h) ∧
      ∀ ph r, s.current h = some (ph, r) →
        (ph = .reserved → refuses .notLive h) ∧ (ph ≠ .reserved → (s.port n).level ≠ 0 → refuses .level h) ∧
        (ph ≠ .reserved → (s.port n).level = 0 →
          (∀ c, r = .ofClock c → refuses .wrongKind h) ∧
          ∀ a, r = .ofAlias a → x.1 ≠ .unsplice → move refuses ph a)) ∧
    ∀ x ∈ [(Instr.mgmtRetarget, MgmtRequest.retarget h k), (.mgmtSplice, .splice h k t), (.mgmtUnsplice, .unsplice h)],
      s.mgmt.req = .inProgress x.2 →
      let refuses := fun (st : Status) (f : Handle) => exec x.1 s = .next (s.hold x.2.code (.refused st f))
      (h = null → refuses .nullHandle null) ∧ (h ≠ null → s.current h = none → refuses .staleHandle h) ∧
      ∀ ph r, s.current h = some (ph, r) →
        (∀ c, r = .ofClock c → refuses .wrongKind h) ∧
        ∀ a, r = .ofAlias a → x.1 ≠ .mgmtUnsplice → move refuses ph a

/-- An accepted RETARGET, and an accepted SPLICE whose time is not later than now, move the alias at once (R164, R165, R167): its
target changes, the new target's alias count rises and the old one's falls, and the alias alone changes where the two are one
clock. The port is answered by a response, or a DONE completion without a due LT; the management port by its held response. -/
def Obligations.AliasMovesAtOnce : Prop :=
  ∀ (s : State) (h k : Handle) (ph pk po : Phase) (a : AliasRecord) (ck co : ClockRecord), s.rstLow = false →
    s.current h = some (ph, .ofAlias a) → s.current k = some (pk, .ofClock ck) →
    s.current a.target = some (po, .ofClock co) → ph.isDraining = false → pk.isDraining = false →
    a.pendingSplice = none →
    let moved := fun (s0 : State) =>
      let s1 := s0.withRecord h.slot ph (.ofAlias { a with target := k }) 0
      if k = a.target then s1
      else (s1.withRecord k.slot pk (.ofClock { ck with aliasCount := ck.aliasCount + 1 }) 0).withRecord a.target.slot po
        (.ofClock { co with aliasCount := co.aliasCount - 1 }) 0
    (∀ n tag, ph = .live → (s.port n).level = 0 →
      (s.granted = some (n, { tag, request := .retarget h k }) → exec .retarget s = .next
        ((moved (s.serve n)).respond n .retarget tag (.ok (.retarget h a.target k)))) ∧
      ∀ t, timeDiff s.lt t ≤ 0 → s.granted = some (n, { tag, request := .splice h k t }) →
        exec .splice s = .next ((moved (s.serve n)).push n (.spliceDone tag .done
          { aliasHandle := h, oldTarget := some a.target, newTarget := k, now := s.lt, due := none }))) ∧
    (s.mgmt.req = .inProgress (.retarget h k) → exec .mgmtRetarget s = .next
      ((moved s).hold .retarget (.ok (.retarget h a.target k)))) ∧
    ∀ t, timeDiff s.lt t ≤ 0 → s.mgmt.req = .inProgress (.splice h k t) → exec .mgmtSplice s = .next
      ((moved s).hold .splice (.ok (.spliceExecuted h a.target k s.lt)))

/-- An accepted SPLICE whose time is later than now (R166, R168): LIST_FULL with 48 entries, with the alias as fault handle to a
port and the null handle to the management port; otherwise the entry is armed in its place, the new target's alias count rises,
and the alias has it pending. A port gets no response yet. -/
def Obligations.SpliceIsArmed : Prop :=
  ∀ (s : State) (h k : Handle) (t : LocalTime) (ph pk : Phase) (a : AliasRecord) (ck : ClockRecord), s.rstLow = false →
    s.current h = some (ph, .ofAlias a) → s.current k = some (pk, .ofClock ck) → ph.isDraining = false →
    pk.isDraining = false → a.pendingSplice = none → 0 < timeDiff s.lt t →
    let armed := fun (s0 : State) (origin : Origin) =>
      { (s0.withRecord k.slot pk (.ofClock { ck with aliasCount := ck.aliasCount + 1 }) 0).withRecord h.slot ph
          (.ofAlias { a with pendingSplice := some s.nextOrder }) 0 with
        deadlines := insertEntry s.lt { due := t, order := s.nextOrder, work := .splice origin h k } s.deadlines
        nextOrder := s.nextOrder + 1 }
    (∀ n tag, ph = .live → (s.port n).level = 0 → s.granted = some (n, { tag, request := .splice h k t }) →
      (48 ≤ s.deadlines.length → exec .splice s = .next
        ((s.serve n).respond n .splice tag (.refused .listFull h))) ∧
      (s.deadlines.length < 48 → exec .splice s = .next (armed (s.serve n) (.port n tag)))) ∧
    (s.mgmt.req = .inProgress (.splice h k t) →
      (48 ≤ s.deadlines.length → exec .mgmtSplice s = .next
        (s.hold .splice (.refused .listFull { slot := 0, gen := 0 }))) ∧
      (s.deadlines.length < 48 → exec .mgmtSplice s = .next
        ((armed s .management).hold .splice (.ok (.spliceArmed h k t)))))

/-- UNSPLICE of an alias (R170), from a port and from the management port: NOT_FOUND without a pending splice; otherwise the
entry leaves the list, its new target's alias count falls, the alias has none pending, the splice's origin is told (a CANCELLED
completion on its port, SPLICE_CANCELLED on the alias for management), and the response names the splice withdrawn. -/
def Obligations.Unsplice : Prop :=
  ∀ (s : State) (h : Handle) (ph : Phase) (a : AliasRecord), s.rstLow = false → s.current h = some (ph, .ofAlias a) →
    let port := fun (n : PortNo) (tag : Byte) =>
      ph ≠ .reserved ∧ (s.port n).level = 0 ∧ s.granted = some (n, { tag, request := .unsplice h })
    (a.pendingSplice = none →
      (∀ n tag, port n tag → exec .unsplice s = .next
        ((s.serve n).respond n .unsplice tag (.refused .notFound h))) ∧
      (s.mgmt.req = .inProgress (.unsplice h) → exec .mgmtUnsplice s = .next
        (s.hold .unsplice (.refused .notFound { slot := 0, gen := 0 })))) ∧
    ∀ e origin k pk ck, a.pendingSplice = some e.order → s.entryAt e.order = some e → e.work = .splice origin h k →
      s.current k = some (pk, .ofClock ck) →
      let withdrawn := fun (s0 : State) =>
        let rest := { s0 with deadlines := s.deadlines.erase e }
        let s1 := fun (flags : NoticeSet) =>
          (rest.withRecord k.slot pk (.ofClock { ck with aliasCount := ck.aliasCount - 1 }) 0).withRecord h.slot ph
            (.ofAlias { a with pendingSplice := none }) flags
        match origin with
        | .port m t => (s1 0).push m (.spliceDone t .cancelled
          { aliasHandle := h, oldTarget := none, newTarget := k, now := s.lt, due := some e.due })
        | .management => s1 0x0800
      (∀ n tag, port n tag → exec .unsplice s = .next
        ((withdrawn (s.serve n)).respond n .unsplice tag (.ok (.unsplice h k e.due origin)))) ∧
      (s.mgmt.req = .inProgress (.unsplice h) → exec .mgmtUnsplice s = .next
        ((withdrawn s).hold .unsplice (.ok (.unsplice h k e.due origin))))

/-! ## The management port -/

/-- Management transactions (R174 to R180, R191): the captured status byte; bits as on a query port, kept up to 592; a REQUEST
taken in NONE and colliding otherwise, MCOLLIDE for a malformed one by the lengths of R194; a FETCH that clocks the whole held
response out frees the holder, and clears MCOLLIDE where it was reported; unblocking. MGMT_FETCH_SELECT is the bit that completes
a FETCH kind byte: an inference of the model, log entry 8. The pin MRDY is asserted exactly while a response is held, with RST_N
high; it rises only at an owner's event and falls only at a FETCH end or a hard reset. -/
def Obligations.ManagementTransactions : Prop :=
  (∀ s : State, mgmtReady s = true ↔ s.rstLow = false ∧ ∃ r, s.mgmt.req = .held r) ∧
  (∀ (c : Instr) (s t : State), PartsLegal s → exec c s = .next t →
    (mgmtReady s = false → mgmtReady t = true → ∃ x ∈ ownerEvents, x.1 = c) ∧
    (mgmtReady s = true → mgmtReady t = false → c = .mgmtFetchEnd ∨ c = .hardReset)) ∧
  ∀ s : State, s.rstLow = false →
    let becomes := fun (c : Instr) (m : MgmtPort) => exec c s = .next { s with mgmt := m }
    let m := s.mgmt
    let held := match m.req with
      | .held r => some r
      | .none | .inProgress _ => none
    let collides := becomes .mgmtRequestEnd { m with tx := .idle, collide := true }
    let lengths : List (Nat × Nat) :=
      [(0x40, 2), (0x41, 4), (0x43, 4), (0x44, 5), (0x45, 3), (0x48, 8), (0x49, 5), (0x4a, 6), (0x4c, 13), (0x4d, 5),
       (0x50, 4), (0x51, 3), (0x52, 3), (0x54, 6), (0x55, 12), (0x56, 4), (0x58, 2), (0x59, 2), (0x5a, 4), (0x5b, 2),
       (0x5c, 2)] ++ (List.range 15).map fun k => (0x42, 4 + 5 * k)
    (m.tx = .idle → ∃ st : Byte, becomes .mgmtSelect { m with tx := .kind st [] } ∧
      (st.getLsbD 7 = true ↔ ∃ r, m.req = .inProgress r) ∧ (st.getLsbD 6 = true ↔ ∃ r, m.req = .held r) ∧
      st.getLsbD 5 = m.collide ∧ st.getLsbD 4 = attentionPin s ∧ st.toNat % 16 = 0) ∧
    (∀ st bits b, m.tx = .kind st bits →
      (bits.length < 7 → becomes (.mgmtBitSampled b) { m with tx := .kind st (bits ++ [b]) }) ∧
      (bits.length = 7 →
        (bits ++ [b] = bitsOfByte 0xa2 → becomes (.mgmtBitSampled b) { m with tx := .fetch st 0 held }) ∧
        (bits ++ [b] = bitsOfByte 0xa1 →
          becomes (.mgmtBitSampled b) { m with tx := .request st (bits ++ [b]) 8 false }) ∧
        (bits ++ [b] ≠ bitsOfByte 0xa2 → bits ++ [b] ≠ bitsOfByte 0xa1 →
          becomes (.mgmtBitSampled b) { m with tx := .request st (bits ++ [b]) 8 true }))) ∧
    (∀ st bits k x b, m.tx = .request st bits k x →
      becomes (.mgmtBitSampled b) { m with tx := .request st (if k < 592 then bits ++ [b] else bits) (k + 1) x }) ∧
    (∀ st k sel b, m.tx = .fetch st k sel → becomes (.mgmtBitSampled b) { m with tx := .fetch st (k + 1) sel }) ∧
    (∀ st, m.tx = .kind st [true, false, true, false, false, false, true] →
      becomes .mgmtFetchSelect { m with tx := .fetch st 0 held }) ∧
    (m.tx = .blocked → becomes .mgmtPortUnblock { m with tx := .idle }) ∧
    (∀ st, m.tx = .kind st [] → becomes .mgmtRequestEnd { m with tx := .idle }) ∧
    (∀ st b bits, m.tx = .kind st (b :: bits) → collides) ∧
    (∀ st bits k x, m.tx = .request st bits k x →
      (x = true ∨ k % 8 ≠ 0 ∨ 592 < k ∧ bits.length ≤ 592 → collides) ∧
      ∀ bs : List Byte, x = false → bits = frameBits bs → k = 8 * bs.length →
        (bs.length < 2 → collides) ∧
        ∀ (code : Byte) (body : List Byte), bs = 0xa1 :: code :: body → k ≤ 592 →
          ((code.toNat, bs.length) ∉ lengths → collides) ∧
          ((code.toNat, bs.length) ∈ lengths → ∃ r : MgmtRequest, r.code.code = code.toNat ∧
            (m.req = .none → becomes .mgmtRequestEnd { m with tx := .idle, req := .inProgress r }) ∧
            (m.req ≠ .none → collides))) ∧
    ∀ st k sel, m.tx = .fetch st k sel →
      let clear := { m with tx := .idle, collide := m.collide && !st.getLsbD 5 }
      (∀ r : HeldResponse, sel = some r → 8 * r.bytes.length ≤ k →
        becomes .mgmtFetchEnd { clear with req := .none }) ∧
      (∀ r : HeldResponse, sel = some r → k < 8 * r.bytes.length → becomes .mgmtFetchEnd clear) ∧
      (sel = none → becomes .mgmtFetchEnd clear)

/-- The handle checks of the management requests that name a record (R16, R21, R53), with their fault handles: null, stale, an
ALIAS where a CLOCK is needed, DRAINING and LIVE where they are refused; and no refused management request changes anything but
the held response. That ENABLE's NOT_LIVE and DRAINING and CREATE-ALIAS's WRONG_KIND and DRAINING name the handle is the model's
inference, log entry 15. -/
def Obligations.ManagementRefusals : Prop :=
  (∀ (s : State) (h : Handle) (cs : List Change) (mode : RetireMode) (input : Byte) (tag : StreamTag) (role : Role)
    (rv : RefValue) (trim : Int), s.rstLow = false →
    ∀ x ∈ [(Instr.createAlias, MgmtRequest.createAlias h), (.configure, .configure h cs), (.enable, .enable h),
      (.retire, .retire h mode), (.bind, .bind input tag h role), (.setAnchor, .setAnchor h rv trim),
      (.selectSource, .selectSource h role)],
    s.mgmt.req = .inProgress x.2 →
    let refuses := fun (st : Status) (f : Handle) => exec x.1 s = .next (s.hold x.2.code (.refused st f))
    (h = { slot := 0, gen := 0 } → refuses .nullHandle { slot := 0, gen := 0 }) ∧
    (h ≠ { slot := 0, gen := 0 } → s.current h = none → refuses .staleHandle h) ∧
    (∀ ph a, s.current h = some (ph, .ofAlias a) →
      (x.1 = .createAlias ∨ x.1 = .setAnchor ∨ x.1 = .selectSource ∨ x.1 = .bind ∧ input.toNat < 4 →
        refuses .wrongKind h)) ∧
    (∀ ph c, s.current h = some (ph, .ofClock c) → ph.isDraining = true →
      (x.1 = .createAlias ∨ x.1 = .setAnchor ∨ x.1 = .bind ∧ input.toNat < 4 → refuses .draining h)) ∧
    (∀ ph r, s.current h = some (ph, r) → x.1 = .enable →
      (ph = .live → refuses .notLive h) ∧ (ph.isDraining = true → refuses .draining h)) ∧
    (∀ ph c, s.current h = some (ph, .ofClock c) → ph.isDraining = false → x.1 = .setAnchor →
      trim < -1048576 ∨ 1048576 < trim → refuses .badValue { slot := 0, gen := 0 }) ∧
    (∀ ph c, s.current h = some (ph, .ofClock c) → x.1 = .selectSource → s.roleBound h role = false →
      refuses .notFound { slot := 0, gen := 0 }) ∧
    (∀ ph c, s.current h = some (ph, .ofClock c) → ph.isDraining = false → x.1 = .createAlias →
      (∀ i, i ≠ 0 → (s.slot i).content ≠ .free) → refuses .tableFull { slot := 0, gen := 0 })) ∧
  ∀ x ∈ ownerEvents, ∀ (s t : State) (r : MgmtRequest) (code : MgmtCode) (st : Status) (f : Handle),
    s.mgmt.req = .inProgress r → exec x.1 s = .next t →
    t.mgmt.req = .held { code, answer := .refused st f } → code = r.code ∧ t = { s with mgmt := t.mgmt }

/-- CREATE-CLOCK, CREATE-ALIAS and ENABLE (R13, R15, R17, R18, R23 to R25): the lowest-numbered FREE slot, its generation unchanged
and its notices clear, with the default configuration and creation values, or an alias at its creation values with its target's
alias count raised; TABLE_FULL without one; and a RESERVED record made LIVE, a CLOCK in ACQUIRING with its silence timer. -/
def Obligations.CreationAndEnabling : Prop :=
  (∀ s : State, s.asked .createClock → (∀ i, i ≠ 0 → (s.slot i).content ≠ .free) →
    exec .createClock s = .next (s.hold .createClock (.refused .tableFull { slot := 0, gen := 0 }))) ∧
  (∀ (s : State) (i : SlotNo), i ≠ 0 → (s.slot i).content = .free →
    (∀ j, j ≠ 0 → j < i → (s.slot j).content ≠ .free) →
    (s.asked .createClock → exec .createClock s = .next
      ((s.putSlot i
        { gen := (s.slot i).gen, notices := 0
          content := .active .reserved (.ofClock
            { cfg :=
                { level := 3, useSet := { convert := true, due := true, wake := true, lease := true }, lockWindow := 250
                  jumpLimit := 2500000, jumpPolicy := .reject, rejectLimit := 3, enterCount := 4, leaveCount := 3
                  gainShift := 4, silenceMs := 200, holdoverMs := 10000, farEarly := 25000000, lateTolerance := 250000
                  drainMs := 1000 }
              lock := .unset, anchor := none, trim := 0, lastError := none, inCount := 0, outCount := 0, rejectRun := 0
              active := none, heardPrimary := none, heardStandby := none, silence := none, holdover := none
              leaseCount := 0, aliasCount := 0, wakeCount := 0, updatePending := false }) }).hold .createClock
        (.ok (.newHandle { slot := i, gen := (s.slot i).gen })))) ∧
    ∀ target ph c, s.asked (.createAlias target) → s.current target = some (ph, .ofClock c) → ph.isDraining = false →
      exec .createAlias s = .next
        (((s.withRecord target.slot ph (.ofClock { c with aliasCount := c.aliasCount + 1 }) 0).putSlot i
          { gen := (s.slot i).gen, notices := 0
            content := .active .reserved (.ofAlias
              { level := 3, useSet := { convert := true, due := true, wake := true, lease := true }, target
                pendingSplice := none, leaseCount := 0, drainMs := 1000 }) }).hold .createAlias
          (.ok (.newHandle { slot := i, gen := (s.slot i).gen })))) ∧
  ∀ (s : State) (h : Handle), s.asked (.enable h) →
    (∀ c, s.current h = some (.reserved, .ofClock c) → exec .enable s = .next
      ((s.withRecord h.slot .live (.ofClock { c with
        silence := if c.lock = .acquiring then some (c.freshSilence s.lt) else c.silence }) 0).hold .enable (.ok .none))) ∧
    ∀ a, s.current h = some (.reserved, .ofAlias a) → exec .enable s = .next
      ((s.withRecord h.slot .live (.ofAlias a) 0).hold .enable (.ok .none))

/-- CONFIGURE (R26 to R28, R195): WRONG_KIND for a CLOCK field on an alias; BAD_VALUE for a field named twice, an unknown one, a
value out of its range, or a jump limit not above the lock window; otherwise every named field takes its value, the counters are
brought below lowered counts, and running silence and holdover deadlines are formed anew from their starts. That WRONG_KIND
names the handle is the model's inference, log entry 15. -/
def Obligations.Configure : Prop :=
  ∀ (s : State) (h : Handle) (cs : List Change) (ph : Phase), s.asked (.configure h cs) →
    let refuses := fun (st : Status) (f : Handle) => exec .configure s = .next (s.hold .configure (.refused st f))
    let ranges : List (Nat × Nat × Nat) :=
      [(1, 0, 3), (2, 0, 15), (3, 1, 65535), (4, 0, 2 ^ 31 - 1), (5, 0, 1), (6, 1, 15), (7, 1, 15), (8, 0, 15),
       (9, 1, 65535), (10, 0, 65535), (11, 1, 2 ^ 32 - 1), (12, 0, 2 ^ 32 - 1), (13, 1, 65535), (14, 1, 15)]
    let sound := cs.Pairwise (fun x y => x.id ≠ y.id) ∧
      ∀ x ∈ cs, ∃ g ∈ ranges, g.1 = x.id.toNat ∧ g.2.1 ≤ x.value.toNat ∧ x.value.toNat ≤ g.2.2
    let named := fun (id : Nat) => (cs.find? fun x => x.id.toNat == id).map Change.value
    let field := fun (id old : Nat) => (named id).elim old BitVec.toNat
    let uses := fun (old : UseSet) => (named 2).elim old fun v =>
      { convert := v.getLsbD 0, due := v.getLsbD 1, wake := v.getLsbD 2, lease := v.getLsbD 3 }
    (∀ a, s.current h = some (ph, .ofAlias a) →
      let clockField := ∃ x ∈ cs, 3 ≤ x.id.toNat ∧ x.id.toNat ≤ 14 ∧ x.id.toNat ≠ 13
      (clockField → refuses .wrongKind h) ∧ (¬clockField → ¬sound → refuses .badValue { slot := 0, gen := 0 }) ∧
      (¬clockField → sound → exec .configure s = .next
        ((s.withRecord h.slot ph (.ofAlias { a with
          level := field 1 a.level, useSet := uses a.useSet, drainMs := field 13 a.drainMs }) 0).hold .configure
          (.ok .none)))) ∧
    ∀ c, s.current h = some (ph, .ofClock c) → c.legal ph = true →
      let w := field 3 c.cfg.lockWindow
      let j := field 4 c.cfg.jumpLimit
      (¬sound → refuses .badValue { slot := 0, gen := 0 }) ∧
      (sound → j ≤ w → refuses .badValue { slot := 0, gen := 0 }) ∧
      (sound → w < j →
        let cfg : ClockConfig :=
          { level := field 1 c.cfg.level, useSet := uses c.cfg.useSet, lockWindow := w, jumpLimit := j
            jumpPolicy := (named 5).elim c.cfg.jumpPolicy fun v => if v = 0 then .reanchor else .reject
            rejectLimit := field 6 c.cfg.rejectLimit, enterCount := field 7 c.cfg.enterCount
            leaveCount := field 14 c.cfg.leaveCount, gainShift := field 8 c.cfg.gainShift
            silenceMs := field 9 c.cfg.silenceMs, holdoverMs := field 10 c.cfg.holdoverMs
            farEarly := field 11 c.cfg.farEarly, lateTolerance := field 12 c.cfg.lateTolerance
            drainMs := field 13 c.cfg.drainMs }
        exec .configure s = .next
          ((s.withRecord h.slot ph (.ofClock { c with
            cfg, inCount := min c.inCount (cfg.enterCount - 1), outCount := min c.outCount (cfg.leaveCount - 1)
            rejectRun := min c.rejectRun (cfg.rejectLimit - 1)
            silence := c.silence.map fun t => { t with deadline := t.start + BitVec.ofNat 48 (cfg.silenceMs * 25000) }
            holdover := c.holdover.map fun t =>
              { t with deadline := t.start + BitVec.ofNat 48 (cfg.holdoverMs * 25000) } }) 0).hold .configure
            (.ok .none)))

/-- RETIRE and the drain expiry (R29 to R31, R33, R34, R69): BUSY and IN_USE; a CLOCK's bindings, active source, deadlines and wakes
go; then RETIRED without leases, DRAINING in mode NORMAL, and in mode IMMEDIATE every lease revoked and RETIRED; a pending splice
of an alias ends first, told to its origin; an alias entering RETIRED lowers its target's count; the drain expiry revokes and
retires. That BUSY and IN_USE name the handle is the model's inference, log entry 15. -/
def Obligations.RetirementAndDrain : Prop :=
  ∀ (s : State) (h : Handle) (ph : Phase), s.rstLow = false →
    let held := fun (l : Lifecycle) =>
      { s.mgmt with req := .held { code := .retire, answer := .ok (.lifecycle l) } }
    let retired := fun (kind : RecordKind) (revoked : Bool) =>
      let x := (s.slot h.slot).retiredAs kind
      if revoked then { x with notices := x.notices ||| 0x1000 } else x
    let revokes := fun (t : State) (yes : Bool) =>
      (∀ k, t.lease k = if yes = true ∧ (s.lease k).any (fun l => l.named == h) = true then none else s.lease k)
    (∀ mode r, s.mgmt.req = .inProgress (.retire h mode) → s.current h = some (ph, r) →
      (ph.isDraining = true → mode = .normal → exec .retire s = .next (s.hold .retire (.refused .busy h))) ∧
      ∀ c, r = .ofClock c → 0 < c.aliasCount → ¬(ph.isDraining = true ∧ mode = .normal) →
        exec .retire s = .next (s.hold .retire (.refused .inUse h))) ∧
    (∀ mode c, s.mgmt.req = .inProgress (.retire h mode) → s.current h = some (ph, .ofClock c) →
      ¬(ph.isDraining = true ∧ mode = .normal) → c.aliasCount = 0 →
      let gone := c.leaseCount = 0 ∨ mode = .immediate
      let revoking := decide (c.leaseCount ≠ 0 ∧ mode = .immediate)
      ∃ t, exec .retire s = .next t ∧ t.mgmt = held (if gone then .retired else .draining) ∧
        t = { s with slots := t.slots, leases := t.leases, ports := t.ports, bindings := t.bindings
                     deadlines := t.deadlines, mgmt := t.mgmt } ∧
        t.bindings = (if ph.isDraining then s.bindings else s.bindings.filter fun b => b.clock != h) ∧
        t.deadlines = (if ph.isDraining then s.deadlines else s.deadlines.filter fun e => !e.isWakeOf h) ∧
        (∀ n, t.port n = { s.port n with
          responses := (s.port n).responses ++ (if ph.isDraining then [] else s.endedOn n h .retired) ++
            (if revoking then s.revokedOn n h else []) }) ∧
        revokes t revoking ∧
        t.slot h.slot =
          (if gone then retired .clockKind revoking
          else { s.slot h.slot with
            content := .active (.draining (s.lt + BitVec.ofNat 48 (c.cfg.drainMs * 25000))) (.ofClock { c with
              active := none, silence := none, holdover := none, wakeCount := 0, updatePending := false }) }) ∧
        ∀ i, i ≠ h.slot → t.slot i = s.slot i) ∧
    (∀ mode a e origin k pk ck, s.mgmt.req = .inProgress (.retire h mode) → s.current h = some (ph, .ofAlias a) →
      ph.isDraining = false → a.pendingSplice = some e.order → s.entryAt e.order = some e →
      e.work = .splice origin h k → s.current k = some (pk, .ofClock ck) →
      let ended := fun (flags : NoticeSet) =>
        (({ s with deadlines := s.deadlines.erase e }).withRecord k.slot pk
          (.ofClock { ck with aliasCount := ck.aliasCount - 1 }) 0).withRecord h.slot ph
          (.ofAlias { a with pendingSplice := none }) flags
      (∀ n tag, origin = .port n tag → exec .retire s = exec .retire ((ended 0).push n (.spliceDone tag .aliasRetired
        { aliasHandle := h, oldTarget := none, newTarget := k, now := s.lt, due := some e.due }))) ∧
      (origin = .management → exec .retire s = exec .retire (ended 0x0800))) ∧
    (∀ a pt ct, s.current h = some (ph, .ofAlias a) → s.current a.target = some (pt, .ofClock ct) →
      let left := { s.slot a.target.slot with
        content := .active pt (.ofClock { ct with aliasCount := ct.aliasCount - 1 }) }
      (∀ mode, s.mgmt.req = .inProgress (.retire h mode) → a.pendingSplice = none →
        ¬(ph.isDraining = true ∧ mode = .normal) →
        let gone := a.leaseCount = 0 ∨ mode = .immediate
        let revoking := decide (a.leaseCount ≠ 0 ∧ mode = .immediate)
        ∃ t, exec .retire s = .next t ∧ t.mgmt = held (if gone then .retired else .draining) ∧
          t = { s with slots := t.slots, leases := t.leases, ports := t.ports, mgmt := t.mgmt } ∧
          (∀ n, t.port n = { s.port n with
            responses := (s.port n).responses ++ (if revoking then s.revokedOn n h else []) }) ∧
          revokes t revoking ∧
          t.slot h.slot =
            (if gone then retired .aliasKind revoking
            else { s.slot h.slot with
              content := .active (.draining (s.lt + BitVec.ofNat 48 (a.drainMs * 25000))) (.ofAlias a) }) ∧
          (t.slot a.target.slot = if gone then left else s.slot a.target.slot) ∧
          ∀ i, i ≠ h.slot → i ≠ a.target.slot → t.slot i = s.slot i) ∧
      ∀ d, ph = .draining d → h = s.handleOf h.slot → 0 ≤ timeDiff d s.lt →
        ∃ t, exec (.drainExpiry h.slot) s = .next t ∧
          t = { s with slots := t.slots, leases := t.leases, ports := t.ports } ∧
          (∀ n, t.port n = { s.port n with responses := (s.port n).responses ++ s.revokedOn n h }) ∧
          revokes t true ∧ t.slot h.slot = retired .aliasKind true ∧ t.slot a.target.slot = left ∧
          ∀ i, i ≠ h.slot → i ≠ a.target.slot → t.slot i = s.slot i) ∧
    ∀ c d, s.current h = some (.draining d, .ofClock c) → 0 ≤ timeDiff d s.lt →
      ∃ t, exec (.drainExpiry h.slot) s = .next t ∧
        t = { s with slots := t.slots, leases := t.leases, ports := t.ports } ∧
        (∀ n, t.port n = { s.port n with responses := (s.port n).responses ++ s.revokedOn n h }) ∧
        revokes t true ∧ t.slot h.slot = retired .clockKind true ∧ ∀ i, i ≠ h.slot → t.slot i = s.slot i

/-- BIND and UNBIND (R65 to R68): BAD_VALUE, DUPLICATE_KEY, ROLE_TAKEN, MAP_FULL and NOT_FOUND with the null fault handle; an
accepted BIND adds the entry and makes its role the active source where there was none; an UNBIND removes the entry and settles
the active source: to the other role with SOURCE_SWITCH, to none, or unchanged. -/
def Obligations.BindAndUnbind : Prop :=
  ∀ (s : State) (input : Byte) (tag : StreamTag),
    let null : Handle := { slot := 0, gen := 0 }
    let keyed := fun (b : Binding) => b.input.val = input.toNat ∧ b.tag = tag
    (∀ h role ph r, s.asked (.bind input tag h role) → s.current h = some (ph, r) →
      let refuses := fun (st : Status) => exec .bind s = .next (s.hold .bind (.refused st null))
      (4 ≤ input.toNat → refuses .badValue) ∧
      ∀ (i : InputNo) c, i.val = input.toNat → r = .ofClock c → ph.isDraining = false →
        ((∃ b ∈ s.bindings, keyed b) → refuses .duplicateKey) ∧
        ((∀ b ∈ s.bindings, ¬keyed b) →
          (s.roleBound h role = true → refuses .roleTaken) ∧
          (s.roleBound h role = false → 64 ≤ s.bindings.length → refuses .mapFull) ∧
          (s.roleBound h role = false → s.bindings.length < 64 → exec .bind s = .next
            ((({ s with bindings := { input := i, tag, clock := h, role } :: s.bindings }).withRecord h.slot ph
              (.ofClock { c with active := some (c.active.getD role) }) 0).hold .bind
              (.ok (.activeSource (some (c.active.getD role)))))))) ∧
    (s.asked (.unbind input tag) →
      let refuses := fun (st : Status) => exec .unbind s = .next (s.hold .unbind (.refused st null))
      (4 ≤ input.toNat → refuses .badValue) ∧
      (input.toNat < 4 → (∀ b ∈ s.bindings, ¬keyed b) → refuses .notFound) ∧
      ∀ b ph c, s.binding b.input b.tag = some b → keyed b → s.current b.clock = some (ph, .ofClock c) →
        let rest := { s with bindings := s.bindings.erase b }
        let leaves := fun (t : State) (active : Option Role) =>
          exec .unbind s = .next (t.hold .unbind (.ok (.unbound b.clock b.role active)))
        (c.active = some b.role → s.roleBound b.clock b.role.other = true → leaves
          (rest.withRecord b.clock.slot ph (.ofClock { c with active := some b.role.other, rejectRun := 0 }) 0x0200)
          (some b.role.other)) ∧
        (c.active = some b.role → s.roleBound b.clock b.role.other = false → leaves
          (rest.withRecord b.clock.slot ph (.ofClock { c with active := none, rejectRun := 0 }) 0) none) ∧
        (c.active ≠ some b.role → leaves rest c.active))

/-- The requests that set or read one item (R37, R60, R114, R115, R181, R183): their BAD_VALUE cases; the offset, level and mask
set, with the value before; and the snapshots, the identity and the time, which change nothing but the held response. A READ-PORT
holds the instant of its event, which R179 gives it and the bytes of R196 do not carry: the model's choice, log entry 18. -/
def Obligations.SettingsAndReads : Prop :=
  ∀ (s : State) (b : Byte),
    let refuses := fun (c : Instr) (code : MgmtCode) =>
      exec c s = .next (s.hold code (.refused .badValue { slot := 0, gen := 0 }))
    let answers := fun (c : Instr) (code : MgmtCode) (t : State) (x : MgmtResult) => exec c s = .next (t.hold code (.ok x))
    (∀ o, s.asked (.setInputOffset b o) →
      (4 ≤ b.toNat ∨ o < -1048576 ∨ 1048575 < o → refuses .setInputOffset .setInputOffset) ∧
      ∀ i : InputNo, i.val = b.toNat → -1048576 ≤ o → o ≤ 1048575 → answers .setInputOffset .setInputOffset
        (s.updInput i fun x => { x with offset := o }) (.offset (s.input i).offset)) ∧
    (∀ l : Byte, s.asked (.setPortLevel b l) →
      (4 ≤ b.toNat ∨ 3 < l.toNat → refuses .setPortLevel .setPortLevel) ∧
      ∀ n : PortNo, n.val = b.toNat → l.toNat ≤ 3 → answers .setPortLevel .setPortLevel
        (s.updPort n fun p => { p with level := l.toNat }) (.level (s.port n).level)) ∧
    (∀ k, s.asked (.setMask k) → ∃ m : NoticeSet, m.toNat = k.toNat % 2 ^ 13 ∧
      answers .setMask .setMask { s with mask := m } (.mask s.mask m)) ∧
    (s.asked (.readRecord b) →
      (b = 0 → refuses .readRecord .readRecord) ∧
      ∀ i : SlotNo, i.val = b.toNat → b ≠ 0 → ∃ y : Snapshot, answers .readRecord .readRecord s (.snapshot y) ∧
        y.now = s.lt ∧ y.number = i ∧ y.slot = s.slot i ∧
        (∀ ph a, (s.slot i).content = .active ph (.ofAlias a) →
          (a.pendingSplice = none → y.splice = none) ∧
          ∀ e origin h k, a.pendingSplice = some e.order → s.entryAt e.order = some e → e.work = .splice origin h k →
            y.splice = some (k, e.due)) ∧
        ((∀ ph a, (s.slot i).content ≠ .active ph (.ofAlias a)) → y.splice = none)) ∧
    (s.asked (.readPort b) →
      (4 ≤ b.toNat → refuses .readPort .readPort) ∧
      ∀ n : PortNo, n.val = b.toNat → let p := s.port n
        answers .readPort .readPort s (.port
          { now := s.lt, level := p.level, credits := p.credits, requests := p.requests.length, responses := p.responses.length
            revoked := (p.responses.filter fun e => !e.credited).length, leaseUse := p.leaseUse, refused := p.refused
            framing := p.framing, purged := p.purged, tx := p.tx.state })) ∧
    (s.asked .readIdentity → answers .readIdentity .readIdentity s .identity) ∧
    (s.asked .readTime → answers .readTime .readTime s (.time s.lt))

/-- PORT-RESET of a port (R40, R116, R117, R119, R153): BAD_VALUE above 3; otherwise its queues, credits, counts and flags as
after a reset, its level, transaction and purge mark kept, its list entries gone without completion and its leases given up
without notice; each record's lease and wake counts lowered, an alias without the splice that went, and a DRAINING record without
leases RETIRED; the response counts what went. That each alias count still agrees is the statement DeadlinesStayTied. -/
def Obligations.PortReset : Prop :=
  ∀ (s : State) (b : Byte), s.asked (.portReset b) →
    (4 ≤ b.toNat → exec .portReset s = .next (s.hold .portReset (.refused .badValue { slot := 0, gen := 0 }))) ∧
    ∀ n : PortNo, n.val = b.toNat → SlotsLegal s → LeasesTied s → DeadlinesTied s →
      let mine := fun (l : Option Lease) => l.any fun x => x.port == n
      ∃ t, exec .portReset s = .next t ∧
        t = { s with slots := t.slots, leases := t.leases, deadlines := s.deadlines.filter fun e => !e.isFrom n
                     ports := t.ports
                     mgmt := { s.mgmt with
                       req := .held { code := .portReset, answer := .ok (.portReset (s.port n).requests.length
                         (s.port n).responses.length (s.deadlines.countP (DeadlineEntry.isFrom n))
                         (s.leases.toList.countP mine)) } } } ∧
        (∀ k, t.lease k = if mine (s.lease k) then none else s.lease k) ∧
        (∀ m, m ≠ n → t.port m = s.port m) ∧
        (∃ tx, t.port n =
          { level := (s.port n).level, tx, requests := [], responses := [], credits := 8, leaseUse := 0
            refused := false, framing := false, purged := false, purgeMark := (s.port n).purgeMark } ∧
          (∀ st k x, (s.port n).tx = .fetch st k (some x) → tx = .fetch st k (some { x with inQueue := false })) ∧
          ((∀ st k x, (s.port n).tx ≠ .fetch st k (some x)) → tx = (s.port n).tx)) ∧
        ∀ i,
          ((∀ ph r, (s.slot i).content ≠ .active ph r) → t.slot i = s.slot i) ∧
          ∀ ph r, (s.slot i).content = .active ph r →
            let h := s.handleOf i
            let held := s.leases.toList.countP fun l => l.any fun x => x.port == n && x.named == h
            (ph.isDraining = true → held = r.leaseCount → t.slot i = (s.slot i).retiredAs r.kind) ∧
            (¬(ph.isDraining = true ∧ held = r.leaseCount) →
              (∀ c, r = .ofClock c → ∃ k, t.slot i = { s.slot i with content := .active ph (.ofClock { c with
                leaseCount := c.leaseCount - held, aliasCount := k
                wakeCount := c.wakeCount - s.deadlines.countP fun e => e.isFrom n && e.isWakeOf h }) }) ∧
              ∀ a, r = .ofAlias a → t.slot i = { s.slot i with content := .active ph (.ofAlias { a with
                leaseCount := a.leaseCount - held
                pendingSplice :=
                  if s.deadlines.any fun e => e.isFrom n && some e.order == a.pendingSplice then none
                  else a.pendingSplice }) })

/-- NEXT-NOTICE (R35, R184 to R186): the first input, else the first slot, with an unmasked flag is reported with all its unmasked
flags, which are cleared; a RETIRED slot is reported under the generation its record carried and becomes FREE with no flag; EMPTY
where there is none, which is exactly while ATTN_N is released. -/
def Obligations.NextNotice : Prop :=
  ∀ s : State, s.asked .nextNotice → SlotsLegal s → PartsLegal s →
    let answers := fun (t : State) (x : NoticeReport) => exec .nextNotice s = .next (t.hold .nextNotice (.ok (.notice x)))
    let shown := fun (flags : NoticeSet) => flags &&& ~~~s.mask
    (∀ i, shown (s.input i).notices ≠ 0 → (∀ j, j < i → shown (s.input j).notices = 0) →
      answers (s.updInput i fun x => { x with notices := x.notices &&& s.mask }) (.input i (shown (s.input i).notices))) ∧
    ((∀ i, shown (s.input i).notices = 0) →
      (∀ i, shown (s.slot i).notices ≠ 0 → (∀ j, j < i → shown (s.slot j).notices = 0) →
        (∀ ph r, (s.slot i).content = .active ph r → answers
          (s.putSlot i { s.slot i with notices := (s.slot i).notices &&& s.mask })
          (.slot (s.handleOf i) (shown (s.slot i).notices) ph.lifecycle (some r.kind))) ∧
        ∀ k, (s.slot i).content = .retired k → answers
          (s.putSlot i { gen := (s.slot i).gen, content := .free, notices := 0 })
          (.slot { slot := i, gen := if (s.slot i).gen = 1 then 255 else (s.slot i).gen - 1 }
            (shown (s.slot i).notices) .retired (some k))) ∧
      ((∀ i, shown (s.slot i).notices = 0) → answers s .empty)) ∧
    (attentionPin s = false ↔ (∀ i, shown (s.input i).notices = 0) ∧ ∀ i, shown (s.slot i).notices = 0)

/-- PURGE (R39, R72, R99, R118, R154, R187): every slot FREE and its generation moved on where it was not, every notice, lease,
binding, list entry, held sample and queue gone, the ports as after a port reset but with PURGED and the purge mark set, and the
arming order afresh; LT, receivers, offsets, pointers, levels, transactions and mask stay; the answer is its now. -/
def Obligations.Purge : Prop :=
  ∀ s : State, s.asked .purge → ∃ t, exec .purge s = .next t ∧
    t = { s with slots := t.slots, leases := Vector.replicate 16 none, inputs := t.inputs, bindings := []
                 deadlines := [], nextOrder := 0, ports := t.ports
                 mgmt := { s.mgmt with req := .held { code := .purge, answer := .ok (.time s.lt) } } } ∧
    (∀ i, t.slot i =
      { gen := if (s.slot i).content = .free then (s.slot i).gen else if (s.slot i).gen = 255 then 1 else (s.slot i).gen + 1
        content := .free, notices := 0 }) ∧
    (∀ i, t.input i = { s.input i with holding := none, notices := 0 }) ∧
    ∀ n, ∃ tx, t.port n =
      { level := (s.port n).level, tx, requests := [], responses := [], credits := 8, leaseUse := 0, refused := false
        framing := false, purged := true, purgeMark := true } ∧
      (∀ st k x, (s.port n).tx = .fetch st k (some x) → tx = .fetch st k (some { x with inQueue := false })) ∧
      ((∀ st k x, (s.port n).tx ≠ .fetch st k (some x)) → tx = (s.port n).tx)

/-! ## What every command keeps -/

/-- The moves of a slot's lifecycle and generation (the table of section 2.3; R15): each move has its command, and a command makes
no other; the generation moves on, 255 to 1, at entry into RETIRED and at a purge of a slot that is not FREE, becomes 1 at a hard
reset, and changes at nothing else. -/
def Obligations.LifecycleMoves : Prop :=
  ∀ (c : Instr) (s t : State) (i : SlotNo), SlotsLegal s → LeasesTied s → exec c s = .next t →
    let a := (s.slot i).content.lifecycle
    let b := (t.slot i).content.lifecycle
    (a ≠ b → (c = .hardReset ∨ c = .purge) ∧ b = .free ∨
      a = .free ∧ b = .reserved ∧ (c = .createClock ∨ c = .createAlias) ∨ a = .reserved ∧ b = .live ∧ c = .enable ∨
      a = .reserved ∧ b = .retired ∧ c = .retire ∨ a = .live ∧ (b = .retired ∨ b = .draining) ∧ c = .retire ∨
      a = .draining ∧ b = .retired ∧ (c = .retire ∨ c = .release ∨ c = .portReset ∨ c = .drainExpiry i) ∨
      a = .retired ∧ b = .free ∧ c = .nextNotice) ∧
    (c = .hardReset → (t.slot i).gen = 1) ∧
    (c ≠ .hardReset → (t.slot i).gen =
      if a ≠ .retired ∧ b = .retired ∨
          c = .purge ∧ s.rstLow = false ∧ s.mgmt.req = .inProgress .purge ∧ a ≠ .free then
        (if (s.slot i).gen = 255 then 1 else (s.slot i).gen + 1)
      else (s.slot i).gen)

/-- Every step keeps every slot legal: fields in their ranges, counters below their limits, timers exactly in the lock states and
phases that have them, formed by the parameters in force, an anchor exactly outside UNSET, notices that fit the content, the
generation not 0, and slot 0 FREE. Every step keeps the inputs, ports, transactions and mask within the values the manual allows,
and every block in its initial state while RST_N stays low. -/
def Obligations.SlotsAndPortsStayLegal : Prop :=
  (∀ s t : State, SlotsLegal s → step s = .next t → SlotsLegal t) ∧
  ∀ s t : State, PartsLegal s → step s = .next t → PartsLegal t

/-- Every step keeps R105 and R112: on each port, unfetched requests and free credits make 8, and the lease-use count is the leases
held and REVOKED notices waiting, at most 4. So the request queue holds at most 8 requests and the response queue at most 12
entries. -/
def Obligations.CreditsAndLeaseUseStayBalanced : Prop :=
  (∀ s t : State, CreditsBalance s → step s = .next t → CreditsBalance t) ∧
  (∀ s t : State, LeaseUseBalance s → step s = .next t → LeaseUseBalance t) ∧
  ∀ s : State, CreditsBalance s → LeaseUseBalance s →
    ∀ n, (s.port n).requests.length ≤ 8 ∧ (s.port n).responses.length ≤ 12 ∧ (s.port n).credits ≤ 8

/-- Every step keeps the Lease Table and the lease counts in agreement (R22, R31), and the Binding Map and the active sources
(R65, R67, R70). -/
def Obligations.LeasesAndBindingsStayTied : Prop :=
  (∀ s t : State, SlotsLegal s → LeasesTied s → step s = .next t → LeasesTied t) ∧
  ∀ s t : State, SlotsLegal s → BindingsTied s → step s = .next t → BindingsTied t

/-- Every step keeps the Deadline List, the alias and wake counts, the aliases' targets and their pending splices in agreement
(R19, R20, R22, R137). -/
def Obligations.DeadlinesStayTied : Prop :=
  ∀ s t : State, SlotsLegal s → DeadlinesTied s → step s = .next t → DeadlinesTied t
end

