-- ==== Sys2Proof/Laws/State.lean ====
section
/-! SUPPORT. What each shared operation leaves unchanged, one lemma for each field of State it does not touch, and what
reading a numbered part gives after it was written. -/

namespace Sys2Proof.Machine

variable (s : State)


/-! ## State.putSlot -/

@[simp] theorem State.putSlot_lt (i : SlotNo) (x : Slot) : (s.putSlot i x).lt = s.lt := rfl
@[simp] theorem State.putSlot_rstLow (i : SlotNo) (x : Slot) : (s.putSlot i x).rstLow = s.rstLow := rfl
@[simp] theorem State.putSlot_leases (i : SlotNo) (x : Slot) : (s.putSlot i x).leases = s.leases := rfl
@[simp] theorem State.putSlot_inputs (i : SlotNo) (x : Slot) : (s.putSlot i x).inputs = s.inputs := rfl
@[simp] theorem State.putSlot_bindings (i : SlotNo) (x : Slot) : (s.putSlot i x).bindings = s.bindings := rfl
@[simp] theorem State.putSlot_estPtr (i : SlotNo) (x : Slot) : (s.putSlot i x).estPtr = s.estPtr := rfl
@[simp] theorem State.putSlot_deadlines (i : SlotNo) (x : Slot) : (s.putSlot i x).deadlines = s.deadlines := rfl
@[simp] theorem State.putSlot_nextOrder (i : SlotNo) (x : Slot) : (s.putSlot i x).nextOrder = s.nextOrder := rfl
@[simp] theorem State.putSlot_ports (i : SlotNo) (x : Slot) : (s.putSlot i x).ports = s.ports := rfl
@[simp] theorem State.putSlot_qePtr (i : SlotNo) (x : Slot) : (s.putSlot i x).qePtr = s.qePtr := rfl
@[simp] theorem State.putSlot_mgmt (i : SlotNo) (x : Slot) : (s.putSlot i x).mgmt = s.mgmt := rfl
@[simp] theorem State.putSlot_mask (i : SlotNo) (x : Slot) : (s.putSlot i x).mask = s.mask := rfl
@[simp] theorem State.putSlot_pending (i : SlotNo) (x : Slot) : (s.putSlot i x).pending = s.pending := rfl

/-! ## State.putContent -/

@[simp] theorem State.putContent_lt (i : SlotNo) (x : Content) : (s.putContent i x).lt = s.lt := rfl
@[simp] theorem State.putContent_rstLow (i : SlotNo) (x : Content) : (s.putContent i x).rstLow = s.rstLow := rfl
@[simp] theorem State.putContent_leases (i : SlotNo) (x : Content) : (s.putContent i x).leases = s.leases := rfl
@[simp] theorem State.putContent_inputs (i : SlotNo) (x : Content) : (s.putContent i x).inputs = s.inputs := rfl
@[simp] theorem State.putContent_bindings (i : SlotNo) (x : Content) : (s.putContent i x).bindings = s.bindings := rfl
@[simp] theorem State.putContent_estPtr (i : SlotNo) (x : Content) : (s.putContent i x).estPtr = s.estPtr := rfl
@[simp] theorem State.putContent_deadlines (i : SlotNo) (x : Content) : (s.putContent i x).deadlines = s.deadlines :=
  rfl
@[simp] theorem State.putContent_nextOrder (i : SlotNo) (x : Content) : (s.putContent i x).nextOrder = s.nextOrder :=
  rfl
@[simp] theorem State.putContent_ports (i : SlotNo) (x : Content) : (s.putContent i x).ports = s.ports := rfl
@[simp] theorem State.putContent_qePtr (i : SlotNo) (x : Content) : (s.putContent i x).qePtr = s.qePtr := rfl
@[simp] theorem State.putContent_mgmt (i : SlotNo) (x : Content) : (s.putContent i x).mgmt = s.mgmt := rfl
@[simp] theorem State.putContent_mask (i : SlotNo) (x : Content) : (s.putContent i x).mask = s.mask := rfl
@[simp] theorem State.putContent_pending (i : SlotNo) (x : Content) : (s.putContent i x).pending = s.pending := rfl

/-! ## State.notify -/

@[simp] theorem State.notify_lt (i : SlotNo) (x : NoticeSet) : (s.notify i x).lt = s.lt := rfl
@[simp] theorem State.notify_rstLow (i : SlotNo) (x : NoticeSet) : (s.notify i x).rstLow = s.rstLow := rfl
@[simp] theorem State.notify_leases (i : SlotNo) (x : NoticeSet) : (s.notify i x).leases = s.leases := rfl
@[simp] theorem State.notify_inputs (i : SlotNo) (x : NoticeSet) : (s.notify i x).inputs = s.inputs := rfl
@[simp] theorem State.notify_bindings (i : SlotNo) (x : NoticeSet) : (s.notify i x).bindings = s.bindings := rfl
@[simp] theorem State.notify_estPtr (i : SlotNo) (x : NoticeSet) : (s.notify i x).estPtr = s.estPtr := rfl
@[simp] theorem State.notify_deadlines (i : SlotNo) (x : NoticeSet) : (s.notify i x).deadlines = s.deadlines := rfl
@[simp] theorem State.notify_nextOrder (i : SlotNo) (x : NoticeSet) : (s.notify i x).nextOrder = s.nextOrder := rfl
@[simp] theorem State.notify_ports (i : SlotNo) (x : NoticeSet) : (s.notify i x).ports = s.ports := rfl
@[simp] theorem State.notify_qePtr (i : SlotNo) (x : NoticeSet) : (s.notify i x).qePtr = s.qePtr := rfl
@[simp] theorem State.notify_mgmt (i : SlotNo) (x : NoticeSet) : (s.notify i x).mgmt = s.mgmt := rfl
@[simp] theorem State.notify_mask (i : SlotNo) (x : NoticeSet) : (s.notify i x).mask = s.mask := rfl
@[simp] theorem State.notify_pending (i : SlotNo) (x : NoticeSet) : (s.notify i x).pending = s.pending := rfl

/-! ## State.create -/

@[simp] theorem State.create_lt (i : SlotNo) (r : Record) : (s.create i r).lt = s.lt := rfl
@[simp] theorem State.create_rstLow (i : SlotNo) (r : Record) : (s.create i r).rstLow = s.rstLow := rfl
@[simp] theorem State.create_leases (i : SlotNo) (r : Record) : (s.create i r).leases = s.leases := rfl
@[simp] theorem State.create_inputs (i : SlotNo) (r : Record) : (s.create i r).inputs = s.inputs := rfl
@[simp] theorem State.create_bindings (i : SlotNo) (r : Record) : (s.create i r).bindings = s.bindings := rfl
@[simp] theorem State.create_estPtr (i : SlotNo) (r : Record) : (s.create i r).estPtr = s.estPtr := rfl
@[simp] theorem State.create_deadlines (i : SlotNo) (r : Record) : (s.create i r).deadlines = s.deadlines := rfl
@[simp] theorem State.create_nextOrder (i : SlotNo) (r : Record) : (s.create i r).nextOrder = s.nextOrder := rfl
@[simp] theorem State.create_ports (i : SlotNo) (r : Record) : (s.create i r).ports = s.ports := rfl
@[simp] theorem State.create_qePtr (i : SlotNo) (r : Record) : (s.create i r).qePtr = s.qePtr := rfl
@[simp] theorem State.create_mgmt (i : SlotNo) (r : Record) : (s.create i r).mgmt = s.mgmt := rfl
@[simp] theorem State.create_mask (i : SlotNo) (r : Record) : (s.create i r).mask = s.mask := rfl
@[simp] theorem State.create_pending (i : SlotNo) (r : Record) : (s.create i r).pending = s.pending := rfl

/-! ## State.updRecord -/

@[simp] theorem State.updRecord_lt (h : Handle) (f : Record → Record) : (s.updRecord h f).lt = s.lt :=
  by unfold State.updRecord; split <;> rfl
@[simp] theorem State.updRecord_rstLow (h : Handle) (f : Record → Record) : (s.updRecord h f).rstLow = s.rstLow :=
  by unfold State.updRecord; split <;> rfl
@[simp] theorem State.updRecord_leases (h : Handle) (f : Record → Record) : (s.updRecord h f).leases = s.leases :=
  by unfold State.updRecord; split <;> rfl
@[simp] theorem State.updRecord_inputs (h : Handle) (f : Record → Record) : (s.updRecord h f).inputs = s.inputs :=
  by unfold State.updRecord; split <;> rfl
@[simp] theorem State.updRecord_bindings (h : Handle) (f : Record → Record) : (s.updRecord h f).bindings = s.bindings :=
  by unfold State.updRecord; split <;> rfl
@[simp] theorem State.updRecord_estPtr (h : Handle) (f : Record → Record) : (s.updRecord h f).estPtr = s.estPtr :=
  by unfold State.updRecord; split <;> rfl
@[simp] theorem State.updRecord_deadlines (h : Handle) (f : Record → Record) : (s.updRecord h f).deadlines = s.deadlines :=
  by unfold State.updRecord; split <;> rfl
@[simp] theorem State.updRecord_nextOrder (h : Handle) (f : Record → Record) : (s.updRecord h f).nextOrder = s.nextOrder :=
  by unfold State.updRecord; split <;> rfl
@[simp] theorem State.updRecord_ports (h : Handle) (f : Record → Record) : (s.updRecord h f).ports = s.ports :=
  by unfold State.updRecord; split <;> rfl
@[simp] theorem State.updRecord_qePtr (h : Handle) (f : Record → Record) : (s.updRecord h f).qePtr = s.qePtr :=
  by unfold State.updRecord; split <;> rfl
@[simp] theorem State.updRecord_mgmt (h : Handle) (f : Record → Record) : (s.updRecord h f).mgmt = s.mgmt :=
  by unfold State.updRecord; split <;> rfl
@[simp] theorem State.updRecord_mask (h : Handle) (f : Record → Record) : (s.updRecord h f).mask = s.mask :=
  by unfold State.updRecord; split <;> rfl
@[simp] theorem State.updRecord_pending (h : Handle) (f : Record → Record) : (s.updRecord h f).pending = s.pending :=
  by unfold State.updRecord; split <;> rfl

/-! ## State.updClock -/

@[simp] theorem State.updClock_lt (h : Handle) (f : ClockRecord → ClockRecord) : (s.updClock h f).lt = s.lt :=
  by unfold State.updClock; split <;> rfl
@[simp] theorem State.updClock_rstLow (h : Handle) (f : ClockRecord → ClockRecord) : (s.updClock h f).rstLow = s.rstLow :=
  by unfold State.updClock; split <;> rfl
@[simp] theorem State.updClock_leases (h : Handle) (f : ClockRecord → ClockRecord) : (s.updClock h f).leases = s.leases :=
  by unfold State.updClock; split <;> rfl
@[simp] theorem State.updClock_inputs (h : Handle) (f : ClockRecord → ClockRecord) : (s.updClock h f).inputs = s.inputs :=
  by unfold State.updClock; split <;> rfl
@[simp] theorem State.updClock_bindings (h : Handle) (f : ClockRecord → ClockRecord) : (s.updClock h f).bindings = s.bindings :=
  by unfold State.updClock; split <;> rfl
@[simp] theorem State.updClock_estPtr (h : Handle) (f : ClockRecord → ClockRecord) : (s.updClock h f).estPtr = s.estPtr :=
  by unfold State.updClock; split <;> rfl
@[simp] theorem State.updClock_deadlines (h : Handle) (f : ClockRecord → ClockRecord) : (s.updClock h f).deadlines = s.deadlines :=
  by unfold State.updClock; split <;> rfl
@[simp] theorem State.updClock_nextOrder (h : Handle) (f : ClockRecord → ClockRecord) : (s.updClock h f).nextOrder = s.nextOrder :=
  by unfold State.updClock; split <;> rfl
@[simp] theorem State.updClock_ports (h : Handle) (f : ClockRecord → ClockRecord) : (s.updClock h f).ports = s.ports :=
  by unfold State.updClock; split <;> rfl
@[simp] theorem State.updClock_qePtr (h : Handle) (f : ClockRecord → ClockRecord) : (s.updClock h f).qePtr = s.qePtr :=
  by unfold State.updClock; split <;> rfl
@[simp] theorem State.updClock_mgmt (h : Handle) (f : ClockRecord → ClockRecord) : (s.updClock h f).mgmt = s.mgmt :=
  by unfold State.updClock; split <;> rfl
@[simp] theorem State.updClock_mask (h : Handle) (f : ClockRecord → ClockRecord) : (s.updClock h f).mask = s.mask :=
  by unfold State.updClock; split <;> rfl
@[simp] theorem State.updClock_pending (h : Handle) (f : ClockRecord → ClockRecord) : (s.updClock h f).pending = s.pending :=
  by unfold State.updClock; split <;> rfl

/-! ## State.updAlias -/

@[simp] theorem State.updAlias_lt (h : Handle) (f : AliasRecord → AliasRecord) : (s.updAlias h f).lt = s.lt :=
  by unfold State.updAlias; split <;> rfl
@[simp] theorem State.updAlias_rstLow (h : Handle) (f : AliasRecord → AliasRecord) : (s.updAlias h f).rstLow = s.rstLow :=
  by unfold State.updAlias; split <;> rfl
@[simp] theorem State.updAlias_leases (h : Handle) (f : AliasRecord → AliasRecord) : (s.updAlias h f).leases = s.leases :=
  by unfold State.updAlias; split <;> rfl
@[simp] theorem State.updAlias_inputs (h : Handle) (f : AliasRecord → AliasRecord) : (s.updAlias h f).inputs = s.inputs :=
  by unfold State.updAlias; split <;> rfl
@[simp] theorem State.updAlias_bindings (h : Handle) (f : AliasRecord → AliasRecord) : (s.updAlias h f).bindings = s.bindings :=
  by unfold State.updAlias; split <;> rfl
@[simp] theorem State.updAlias_estPtr (h : Handle) (f : AliasRecord → AliasRecord) : (s.updAlias h f).estPtr = s.estPtr :=
  by unfold State.updAlias; split <;> rfl
@[simp] theorem State.updAlias_deadlines (h : Handle) (f : AliasRecord → AliasRecord) : (s.updAlias h f).deadlines = s.deadlines :=
  by unfold State.updAlias; split <;> rfl
@[simp] theorem State.updAlias_nextOrder (h : Handle) (f : AliasRecord → AliasRecord) : (s.updAlias h f).nextOrder = s.nextOrder :=
  by unfold State.updAlias; split <;> rfl
@[simp] theorem State.updAlias_ports (h : Handle) (f : AliasRecord → AliasRecord) : (s.updAlias h f).ports = s.ports :=
  by unfold State.updAlias; split <;> rfl
@[simp] theorem State.updAlias_qePtr (h : Handle) (f : AliasRecord → AliasRecord) : (s.updAlias h f).qePtr = s.qePtr :=
  by unfold State.updAlias; split <;> rfl
@[simp] theorem State.updAlias_mgmt (h : Handle) (f : AliasRecord → AliasRecord) : (s.updAlias h f).mgmt = s.mgmt :=
  by unfold State.updAlias; split <;> rfl
@[simp] theorem State.updAlias_mask (h : Handle) (f : AliasRecord → AliasRecord) : (s.updAlias h f).mask = s.mask :=
  by unfold State.updAlias; split <;> rfl
@[simp] theorem State.updAlias_pending (h : Handle) (f : AliasRecord → AliasRecord) : (s.updAlias h f).pending = s.pending :=
  by unfold State.updAlias; split <;> rfl

/-! ## State.setPhase -/

@[simp] theorem State.setPhase_lt (h : Handle) (p : Phase) : (s.setPhase h p).lt = s.lt :=
  by unfold State.setPhase; split <;> rfl
@[simp] theorem State.setPhase_rstLow (h : Handle) (p : Phase) : (s.setPhase h p).rstLow = s.rstLow :=
  by unfold State.setPhase; split <;> rfl
@[simp] theorem State.setPhase_leases (h : Handle) (p : Phase) : (s.setPhase h p).leases = s.leases :=
  by unfold State.setPhase; split <;> rfl
@[simp] theorem State.setPhase_inputs (h : Handle) (p : Phase) : (s.setPhase h p).inputs = s.inputs :=
  by unfold State.setPhase; split <;> rfl
@[simp] theorem State.setPhase_bindings (h : Handle) (p : Phase) : (s.setPhase h p).bindings = s.bindings :=
  by unfold State.setPhase; split <;> rfl
@[simp] theorem State.setPhase_estPtr (h : Handle) (p : Phase) : (s.setPhase h p).estPtr = s.estPtr :=
  by unfold State.setPhase; split <;> rfl
@[simp] theorem State.setPhase_deadlines (h : Handle) (p : Phase) : (s.setPhase h p).deadlines = s.deadlines :=
  by unfold State.setPhase; split <;> rfl
@[simp] theorem State.setPhase_nextOrder (h : Handle) (p : Phase) : (s.setPhase h p).nextOrder = s.nextOrder :=
  by unfold State.setPhase; split <;> rfl
@[simp] theorem State.setPhase_ports (h : Handle) (p : Phase) : (s.setPhase h p).ports = s.ports :=
  by unfold State.setPhase; split <;> rfl
@[simp] theorem State.setPhase_qePtr (h : Handle) (p : Phase) : (s.setPhase h p).qePtr = s.qePtr :=
  by unfold State.setPhase; split <;> rfl
@[simp] theorem State.setPhase_mgmt (h : Handle) (p : Phase) : (s.setPhase h p).mgmt = s.mgmt :=
  by unfold State.setPhase; split <;> rfl
@[simp] theorem State.setPhase_mask (h : Handle) (p : Phase) : (s.setPhase h p).mask = s.mask :=
  by unfold State.setPhase; split <;> rfl
@[simp] theorem State.setPhase_pending (h : Handle) (p : Phase) : (s.setPhase h p).pending = s.pending :=
  by unfold State.setPhase; split <;> rfl

/-! ## State.raiseAliasCount -/

@[simp] theorem State.raiseAliasCount_lt (h : Handle) : (s.raiseAliasCount h).lt = s.lt :=
  by simp [State.raiseAliasCount]
@[simp] theorem State.raiseAliasCount_rstLow (h : Handle) : (s.raiseAliasCount h).rstLow = s.rstLow :=
  by simp [State.raiseAliasCount]
@[simp] theorem State.raiseAliasCount_leases (h : Handle) : (s.raiseAliasCount h).leases = s.leases :=
  by simp [State.raiseAliasCount]
@[simp] theorem State.raiseAliasCount_inputs (h : Handle) : (s.raiseAliasCount h).inputs = s.inputs :=
  by simp [State.raiseAliasCount]
@[simp] theorem State.raiseAliasCount_bindings (h : Handle) : (s.raiseAliasCount h).bindings = s.bindings :=
  by simp [State.raiseAliasCount]
@[simp] theorem State.raiseAliasCount_estPtr (h : Handle) : (s.raiseAliasCount h).estPtr = s.estPtr :=
  by simp [State.raiseAliasCount]
@[simp] theorem State.raiseAliasCount_deadlines (h : Handle) : (s.raiseAliasCount h).deadlines = s.deadlines :=
  by simp [State.raiseAliasCount]
@[simp] theorem State.raiseAliasCount_nextOrder (h : Handle) : (s.raiseAliasCount h).nextOrder = s.nextOrder :=
  by simp [State.raiseAliasCount]
@[simp] theorem State.raiseAliasCount_ports (h : Handle) : (s.raiseAliasCount h).ports = s.ports :=
  by simp [State.raiseAliasCount]
@[simp] theorem State.raiseAliasCount_qePtr (h : Handle) : (s.raiseAliasCount h).qePtr = s.qePtr :=
  by simp [State.raiseAliasCount]
@[simp] theorem State.raiseAliasCount_mgmt (h : Handle) : (s.raiseAliasCount h).mgmt = s.mgmt :=
  by simp [State.raiseAliasCount]
@[simp] theorem State.raiseAliasCount_mask (h : Handle) : (s.raiseAliasCount h).mask = s.mask :=
  by simp [State.raiseAliasCount]
@[simp] theorem State.raiseAliasCount_pending (h : Handle) : (s.raiseAliasCount h).pending = s.pending :=
  by simp [State.raiseAliasCount]

/-! ## State.lowerAliasCount -/

@[simp] theorem State.lowerAliasCount_lt (h : Handle) : (s.lowerAliasCount h).lt = s.lt :=
  by simp [State.lowerAliasCount]
@[simp] theorem State.lowerAliasCount_rstLow (h : Handle) : (s.lowerAliasCount h).rstLow = s.rstLow :=
  by simp [State.lowerAliasCount]
@[simp] theorem State.lowerAliasCount_leases (h : Handle) : (s.lowerAliasCount h).leases = s.leases :=
  by simp [State.lowerAliasCount]
@[simp] theorem State.lowerAliasCount_inputs (h : Handle) : (s.lowerAliasCount h).inputs = s.inputs :=
  by simp [State.lowerAliasCount]
@[simp] theorem State.lowerAliasCount_bindings (h : Handle) : (s.lowerAliasCount h).bindings = s.bindings :=
  by simp [State.lowerAliasCount]
@[simp] theorem State.lowerAliasCount_estPtr (h : Handle) : (s.lowerAliasCount h).estPtr = s.estPtr :=
  by simp [State.lowerAliasCount]
@[simp] theorem State.lowerAliasCount_deadlines (h : Handle) : (s.lowerAliasCount h).deadlines = s.deadlines :=
  by simp [State.lowerAliasCount]
@[simp] theorem State.lowerAliasCount_nextOrder (h : Handle) : (s.lowerAliasCount h).nextOrder = s.nextOrder :=
  by simp [State.lowerAliasCount]
@[simp] theorem State.lowerAliasCount_ports (h : Handle) : (s.lowerAliasCount h).ports = s.ports :=
  by simp [State.lowerAliasCount]
@[simp] theorem State.lowerAliasCount_qePtr (h : Handle) : (s.lowerAliasCount h).qePtr = s.qePtr :=
  by simp [State.lowerAliasCount]
@[simp] theorem State.lowerAliasCount_mgmt (h : Handle) : (s.lowerAliasCount h).mgmt = s.mgmt :=
  by simp [State.lowerAliasCount]
@[simp] theorem State.lowerAliasCount_mask (h : Handle) : (s.lowerAliasCount h).mask = s.mask :=
  by simp [State.lowerAliasCount]
@[simp] theorem State.lowerAliasCount_pending (h : Handle) : (s.lowerAliasCount h).pending = s.pending :=
  by simp [State.lowerAliasCount]

/-! ## State.lowerWakeCount -/

@[simp] theorem State.lowerWakeCount_lt (h : Handle) : (s.lowerWakeCount h).lt = s.lt := by simp [State.lowerWakeCount]
@[simp] theorem State.lowerWakeCount_rstLow (h : Handle) : (s.lowerWakeCount h).rstLow = s.rstLow :=
  by simp [State.lowerWakeCount]
@[simp] theorem State.lowerWakeCount_leases (h : Handle) : (s.lowerWakeCount h).leases = s.leases :=
  by simp [State.lowerWakeCount]
@[simp] theorem State.lowerWakeCount_inputs (h : Handle) : (s.lowerWakeCount h).inputs = s.inputs :=
  by simp [State.lowerWakeCount]
@[simp] theorem State.lowerWakeCount_bindings (h : Handle) : (s.lowerWakeCount h).bindings = s.bindings :=
  by simp [State.lowerWakeCount]
@[simp] theorem State.lowerWakeCount_estPtr (h : Handle) : (s.lowerWakeCount h).estPtr = s.estPtr :=
  by simp [State.lowerWakeCount]
@[simp] theorem State.lowerWakeCount_deadlines (h : Handle) : (s.lowerWakeCount h).deadlines = s.deadlines :=
  by simp [State.lowerWakeCount]
@[simp] theorem State.lowerWakeCount_nextOrder (h : Handle) : (s.lowerWakeCount h).nextOrder = s.nextOrder :=
  by simp [State.lowerWakeCount]
@[simp] theorem State.lowerWakeCount_ports (h : Handle) : (s.lowerWakeCount h).ports = s.ports :=
  by simp [State.lowerWakeCount]
@[simp] theorem State.lowerWakeCount_qePtr (h : Handle) : (s.lowerWakeCount h).qePtr = s.qePtr :=
  by simp [State.lowerWakeCount]
@[simp] theorem State.lowerWakeCount_mgmt (h : Handle) : (s.lowerWakeCount h).mgmt = s.mgmt :=
  by simp [State.lowerWakeCount]
@[simp] theorem State.lowerWakeCount_mask (h : Handle) : (s.lowerWakeCount h).mask = s.mask :=
  by simp [State.lowerWakeCount]
@[simp] theorem State.lowerWakeCount_pending (h : Handle) : (s.lowerWakeCount h).pending = s.pending :=
  by simp [State.lowerWakeCount]

/-! ## State.enterRetired -/

@[simp] theorem State.enterRetired_lt (i : SlotNo) : (s.enterRetired i).lt = s.lt :=
  by unfold State.enterRetired; split <;> simp
@[simp] theorem State.enterRetired_rstLow (i : SlotNo) : (s.enterRetired i).rstLow = s.rstLow :=
  by unfold State.enterRetired; split <;> simp
@[simp] theorem State.enterRetired_leases (i : SlotNo) : (s.enterRetired i).leases = s.leases :=
  by unfold State.enterRetired; split <;> simp
@[simp] theorem State.enterRetired_inputs (i : SlotNo) : (s.enterRetired i).inputs = s.inputs :=
  by unfold State.enterRetired; split <;> simp
@[simp] theorem State.enterRetired_bindings (i : SlotNo) : (s.enterRetired i).bindings = s.bindings :=
  by unfold State.enterRetired; split <;> simp
@[simp] theorem State.enterRetired_estPtr (i : SlotNo) : (s.enterRetired i).estPtr = s.estPtr :=
  by unfold State.enterRetired; split <;> simp
@[simp] theorem State.enterRetired_deadlines (i : SlotNo) : (s.enterRetired i).deadlines = s.deadlines :=
  by unfold State.enterRetired; split <;> simp
@[simp] theorem State.enterRetired_nextOrder (i : SlotNo) : (s.enterRetired i).nextOrder = s.nextOrder :=
  by unfold State.enterRetired; split <;> simp
@[simp] theorem State.enterRetired_ports (i : SlotNo) : (s.enterRetired i).ports = s.ports :=
  by unfold State.enterRetired; split <;> simp
@[simp] theorem State.enterRetired_qePtr (i : SlotNo) : (s.enterRetired i).qePtr = s.qePtr :=
  by unfold State.enterRetired; split <;> simp
@[simp] theorem State.enterRetired_mgmt (i : SlotNo) : (s.enterRetired i).mgmt = s.mgmt :=
  by unfold State.enterRetired; split <;> simp
@[simp] theorem State.enterRetired_mask (i : SlotNo) : (s.enterRetired i).mask = s.mask :=
  by unfold State.enterRetired; split <;> simp
@[simp] theorem State.enterRetired_pending (i : SlotNo) : (s.enterRetired i).pending = s.pending :=
  by unfold State.enterRetired; split <;> simp

/-! ## State.updInput -/

@[simp] theorem State.updInput_lt (i : InputNo) (f : Input → Input) : (s.updInput i f).lt = s.lt := rfl
@[simp] theorem State.updInput_rstLow (i : InputNo) (f : Input → Input) : (s.updInput i f).rstLow = s.rstLow := rfl
@[simp] theorem State.updInput_slots (i : InputNo) (f : Input → Input) : (s.updInput i f).slots = s.slots := rfl
@[simp] theorem State.updInput_leases (i : InputNo) (f : Input → Input) : (s.updInput i f).leases = s.leases := rfl
@[simp] theorem State.updInput_bindings (i : InputNo) (f : Input → Input) : (s.updInput i f).bindings = s.bindings :=
  rfl
@[simp] theorem State.updInput_estPtr (i : InputNo) (f : Input → Input) : (s.updInput i f).estPtr = s.estPtr := rfl
@[simp] theorem State.updInput_deadlines (i : InputNo) (f : Input → Input) : (s.updInput i f).deadlines = s.deadlines :=
  rfl
@[simp] theorem State.updInput_nextOrder (i : InputNo) (f : Input → Input) : (s.updInput i f).nextOrder = s.nextOrder :=
  rfl
@[simp] theorem State.updInput_ports (i : InputNo) (f : Input → Input) : (s.updInput i f).ports = s.ports := rfl
@[simp] theorem State.updInput_qePtr (i : InputNo) (f : Input → Input) : (s.updInput i f).qePtr = s.qePtr := rfl
@[simp] theorem State.updInput_mgmt (i : InputNo) (f : Input → Input) : (s.updInput i f).mgmt = s.mgmt := rfl
@[simp] theorem State.updInput_mask (i : InputNo) (f : Input → Input) : (s.updInput i f).mask = s.mask := rfl
@[simp] theorem State.updInput_pending (i : InputNo) (f : Input → Input) : (s.updInput i f).pending = s.pending := rfl

/-! ## State.notifyInput -/

@[simp] theorem State.notifyInput_lt (i : InputNo) (x : NoticeSet) : (s.notifyInput i x).lt = s.lt := rfl
@[simp] theorem State.notifyInput_rstLow (i : InputNo) (x : NoticeSet) : (s.notifyInput i x).rstLow = s.rstLow := rfl
@[simp] theorem State.notifyInput_slots (i : InputNo) (x : NoticeSet) : (s.notifyInput i x).slots = s.slots := rfl
@[simp] theorem State.notifyInput_leases (i : InputNo) (x : NoticeSet) : (s.notifyInput i x).leases = s.leases := rfl
@[simp] theorem State.notifyInput_bindings (i : InputNo) (x : NoticeSet) : (s.notifyInput i x).bindings = s.bindings :=
  rfl
@[simp] theorem State.notifyInput_estPtr (i : InputNo) (x : NoticeSet) : (s.notifyInput i x).estPtr = s.estPtr := rfl
@[simp] theorem State.notifyInput_deadlines (i : InputNo) (x : NoticeSet) : (s.notifyInput i x).deadlines = s.deadlines :=
  rfl
@[simp] theorem State.notifyInput_nextOrder (i : InputNo) (x : NoticeSet) : (s.notifyInput i x).nextOrder = s.nextOrder :=
  rfl
@[simp] theorem State.notifyInput_ports (i : InputNo) (x : NoticeSet) : (s.notifyInput i x).ports = s.ports := rfl
@[simp] theorem State.notifyInput_qePtr (i : InputNo) (x : NoticeSet) : (s.notifyInput i x).qePtr = s.qePtr := rfl
@[simp] theorem State.notifyInput_mgmt (i : InputNo) (x : NoticeSet) : (s.notifyInput i x).mgmt = s.mgmt := rfl
@[simp] theorem State.notifyInput_mask (i : InputNo) (x : NoticeSet) : (s.notifyInput i x).mask = s.mask := rfl
@[simp] theorem State.notifyInput_pending (i : InputNo) (x : NoticeSet) : (s.notifyInput i x).pending = s.pending :=
  rfl

/-! ## State.putLease -/

@[simp] theorem State.putLease_lt (k : LeaseNo) (l : Option Lease) : (s.putLease k l).lt = s.lt := rfl
@[simp] theorem State.putLease_rstLow (k : LeaseNo) (l : Option Lease) : (s.putLease k l).rstLow = s.rstLow := rfl
@[simp] theorem State.putLease_slots (k : LeaseNo) (l : Option Lease) : (s.putLease k l).slots = s.slots := rfl
@[simp] theorem State.putLease_inputs (k : LeaseNo) (l : Option Lease) : (s.putLease k l).inputs = s.inputs := rfl
@[simp] theorem State.putLease_bindings (k : LeaseNo) (l : Option Lease) : (s.putLease k l).bindings = s.bindings :=
  rfl
@[simp] theorem State.putLease_estPtr (k : LeaseNo) (l : Option Lease) : (s.putLease k l).estPtr = s.estPtr := rfl
@[simp] theorem State.putLease_deadlines (k : LeaseNo) (l : Option Lease) : (s.putLease k l).deadlines = s.deadlines :=
  rfl
@[simp] theorem State.putLease_nextOrder (k : LeaseNo) (l : Option Lease) : (s.putLease k l).nextOrder = s.nextOrder :=
  rfl
@[simp] theorem State.putLease_ports (k : LeaseNo) (l : Option Lease) : (s.putLease k l).ports = s.ports := rfl
@[simp] theorem State.putLease_qePtr (k : LeaseNo) (l : Option Lease) : (s.putLease k l).qePtr = s.qePtr := rfl
@[simp] theorem State.putLease_mgmt (k : LeaseNo) (l : Option Lease) : (s.putLease k l).mgmt = s.mgmt := rfl
@[simp] theorem State.putLease_mask (k : LeaseNo) (l : Option Lease) : (s.putLease k l).mask = s.mask := rfl
@[simp] theorem State.putLease_pending (k : LeaseNo) (l : Option Lease) : (s.putLease k l).pending = s.pending := rfl

/-! ## State.updPort -/

@[simp] theorem State.updPort_lt (n : PortNo) (f : Port → Port) : (s.updPort n f).lt = s.lt := rfl
@[simp] theorem State.updPort_rstLow (n : PortNo) (f : Port → Port) : (s.updPort n f).rstLow = s.rstLow := rfl
@[simp] theorem State.updPort_slots (n : PortNo) (f : Port → Port) : (s.updPort n f).slots = s.slots := rfl
@[simp] theorem State.updPort_leases (n : PortNo) (f : Port → Port) : (s.updPort n f).leases = s.leases := rfl
@[simp] theorem State.updPort_inputs (n : PortNo) (f : Port → Port) : (s.updPort n f).inputs = s.inputs := rfl
@[simp] theorem State.updPort_bindings (n : PortNo) (f : Port → Port) : (s.updPort n f).bindings = s.bindings := rfl
@[simp] theorem State.updPort_estPtr (n : PortNo) (f : Port → Port) : (s.updPort n f).estPtr = s.estPtr := rfl
@[simp] theorem State.updPort_deadlines (n : PortNo) (f : Port → Port) : (s.updPort n f).deadlines = s.deadlines := rfl
@[simp] theorem State.updPort_nextOrder (n : PortNo) (f : Port → Port) : (s.updPort n f).nextOrder = s.nextOrder := rfl
@[simp] theorem State.updPort_qePtr (n : PortNo) (f : Port → Port) : (s.updPort n f).qePtr = s.qePtr := rfl
@[simp] theorem State.updPort_mgmt (n : PortNo) (f : Port → Port) : (s.updPort n f).mgmt = s.mgmt := rfl
@[simp] theorem State.updPort_mask (n : PortNo) (f : Port → Port) : (s.updPort n f).mask = s.mask := rfl
@[simp] theorem State.updPort_pending (n : PortNo) (f : Port → Port) : (s.updPort n f).pending = s.pending := rfl

/-! ## State.push -/

@[simp] theorem State.push_lt (n : PortNo) (e : ResponseEntry) : (s.push n e).lt = s.lt := rfl
@[simp] theorem State.push_rstLow (n : PortNo) (e : ResponseEntry) : (s.push n e).rstLow = s.rstLow := rfl
@[simp] theorem State.push_slots (n : PortNo) (e : ResponseEntry) : (s.push n e).slots = s.slots := rfl
@[simp] theorem State.push_leases (n : PortNo) (e : ResponseEntry) : (s.push n e).leases = s.leases := rfl
@[simp] theorem State.push_inputs (n : PortNo) (e : ResponseEntry) : (s.push n e).inputs = s.inputs := rfl
@[simp] theorem State.push_bindings (n : PortNo) (e : ResponseEntry) : (s.push n e).bindings = s.bindings := rfl
@[simp] theorem State.push_estPtr (n : PortNo) (e : ResponseEntry) : (s.push n e).estPtr = s.estPtr := rfl
@[simp] theorem State.push_deadlines (n : PortNo) (e : ResponseEntry) : (s.push n e).deadlines = s.deadlines := rfl
@[simp] theorem State.push_nextOrder (n : PortNo) (e : ResponseEntry) : (s.push n e).nextOrder = s.nextOrder := rfl
@[simp] theorem State.push_qePtr (n : PortNo) (e : ResponseEntry) : (s.push n e).qePtr = s.qePtr := rfl
@[simp] theorem State.push_mgmt (n : PortNo) (e : ResponseEntry) : (s.push n e).mgmt = s.mgmt := rfl
@[simp] theorem State.push_mask (n : PortNo) (e : ResponseEntry) : (s.push n e).mask = s.mask := rfl
@[simp] theorem State.push_pending (n : PortNo) (e : ResponseEntry) : (s.push n e).pending = s.pending := rfl

/-! ## State.respond -/

@[simp] theorem State.respond_lt (n : PortNo) (c : PortCode) (t : Byte) (a : PortAnswer) : (s.respond n c t a).lt = s.lt :=
  rfl
@[simp] theorem State.respond_rstLow (n : PortNo) (c : PortCode) (t : Byte) (a : PortAnswer) : (s.respond n c t a).rstLow = s.rstLow :=
  rfl
@[simp] theorem State.respond_slots (n : PortNo) (c : PortCode) (t : Byte) (a : PortAnswer) : (s.respond n c t a).slots = s.slots :=
  rfl
@[simp] theorem State.respond_leases (n : PortNo) (c : PortCode) (t : Byte) (a : PortAnswer) : (s.respond n c t a).leases = s.leases :=
  rfl
@[simp] theorem State.respond_inputs (n : PortNo) (c : PortCode) (t : Byte) (a : PortAnswer) : (s.respond n c t a).inputs = s.inputs :=
  rfl
@[simp] theorem State.respond_bindings (n : PortNo) (c : PortCode) (t : Byte) (a : PortAnswer) : (s.respond n c t a).bindings = s.bindings :=
  rfl
@[simp] theorem State.respond_estPtr (n : PortNo) (c : PortCode) (t : Byte) (a : PortAnswer) : (s.respond n c t a).estPtr = s.estPtr :=
  rfl
@[simp] theorem State.respond_deadlines (n : PortNo) (c : PortCode) (t : Byte) (a : PortAnswer) : (s.respond n c t a).deadlines = s.deadlines :=
  rfl
@[simp] theorem State.respond_nextOrder (n : PortNo) (c : PortCode) (t : Byte) (a : PortAnswer) : (s.respond n c t a).nextOrder = s.nextOrder :=
  rfl
@[simp] theorem State.respond_qePtr (n : PortNo) (c : PortCode) (t : Byte) (a : PortAnswer) : (s.respond n c t a).qePtr = s.qePtr :=
  rfl
@[simp] theorem State.respond_mgmt (n : PortNo) (c : PortCode) (t : Byte) (a : PortAnswer) : (s.respond n c t a).mgmt = s.mgmt :=
  rfl
@[simp] theorem State.respond_mask (n : PortNo) (c : PortCode) (t : Byte) (a : PortAnswer) : (s.respond n c t a).mask = s.mask :=
  rfl
@[simp] theorem State.respond_pending (n : PortNo) (c : PortCode) (t : Byte) (a : PortAnswer) : (s.respond n c t a).pending = s.pending :=
  rfl

/-! ## State.serve -/

@[simp] theorem State.serve_lt (n : PortNo) : (s.serve n).lt = s.lt := rfl
@[simp] theorem State.serve_rstLow (n : PortNo) : (s.serve n).rstLow = s.rstLow := rfl
@[simp] theorem State.serve_slots (n : PortNo) : (s.serve n).slots = s.slots := rfl
@[simp] theorem State.serve_leases (n : PortNo) : (s.serve n).leases = s.leases := rfl
@[simp] theorem State.serve_inputs (n : PortNo) : (s.serve n).inputs = s.inputs := rfl
@[simp] theorem State.serve_bindings (n : PortNo) : (s.serve n).bindings = s.bindings := rfl
@[simp] theorem State.serve_estPtr (n : PortNo) : (s.serve n).estPtr = s.estPtr := rfl
@[simp] theorem State.serve_deadlines (n : PortNo) : (s.serve n).deadlines = s.deadlines := rfl
@[simp] theorem State.serve_nextOrder (n : PortNo) : (s.serve n).nextOrder = s.nextOrder := rfl
@[simp] theorem State.serve_mgmt (n : PortNo) : (s.serve n).mgmt = s.mgmt := rfl
@[simp] theorem State.serve_mask (n : PortNo) : (s.serve n).mask = s.mask := rfl
@[simp] theorem State.serve_pending (n : PortNo) : (s.serve n).pending = s.pending := rfl

/-! ## State.hold -/

@[simp] theorem State.hold_lt (c : MgmtCode) (a : MgmtAnswer) : (s.hold c a).lt = s.lt := rfl
@[simp] theorem State.hold_rstLow (c : MgmtCode) (a : MgmtAnswer) : (s.hold c a).rstLow = s.rstLow := rfl
@[simp] theorem State.hold_slots (c : MgmtCode) (a : MgmtAnswer) : (s.hold c a).slots = s.slots := rfl
@[simp] theorem State.hold_leases (c : MgmtCode) (a : MgmtAnswer) : (s.hold c a).leases = s.leases := rfl
@[simp] theorem State.hold_inputs (c : MgmtCode) (a : MgmtAnswer) : (s.hold c a).inputs = s.inputs := rfl
@[simp] theorem State.hold_bindings (c : MgmtCode) (a : MgmtAnswer) : (s.hold c a).bindings = s.bindings := rfl
@[simp] theorem State.hold_estPtr (c : MgmtCode) (a : MgmtAnswer) : (s.hold c a).estPtr = s.estPtr := rfl
@[simp] theorem State.hold_deadlines (c : MgmtCode) (a : MgmtAnswer) : (s.hold c a).deadlines = s.deadlines := rfl
@[simp] theorem State.hold_nextOrder (c : MgmtCode) (a : MgmtAnswer) : (s.hold c a).nextOrder = s.nextOrder := rfl
@[simp] theorem State.hold_ports (c : MgmtCode) (a : MgmtAnswer) : (s.hold c a).ports = s.ports := rfl
@[simp] theorem State.hold_qePtr (c : MgmtCode) (a : MgmtAnswer) : (s.hold c a).qePtr = s.qePtr := rfl
@[simp] theorem State.hold_mask (c : MgmtCode) (a : MgmtAnswer) : (s.hold c a).mask = s.mask := rfl
@[simp] theorem State.hold_pending (c : MgmtCode) (a : MgmtAnswer) : (s.hold c a).pending = s.pending := rfl

/-! ## State.putMgmt -/

@[simp] theorem State.putMgmt_lt (m : MgmtPort) : (s.putMgmt m).lt = s.lt := rfl
@[simp] theorem State.putMgmt_rstLow (m : MgmtPort) : (s.putMgmt m).rstLow = s.rstLow := rfl
@[simp] theorem State.putMgmt_slots (m : MgmtPort) : (s.putMgmt m).slots = s.slots := rfl
@[simp] theorem State.putMgmt_leases (m : MgmtPort) : (s.putMgmt m).leases = s.leases := rfl
@[simp] theorem State.putMgmt_inputs (m : MgmtPort) : (s.putMgmt m).inputs = s.inputs := rfl
@[simp] theorem State.putMgmt_bindings (m : MgmtPort) : (s.putMgmt m).bindings = s.bindings := rfl
@[simp] theorem State.putMgmt_estPtr (m : MgmtPort) : (s.putMgmt m).estPtr = s.estPtr := rfl
@[simp] theorem State.putMgmt_deadlines (m : MgmtPort) : (s.putMgmt m).deadlines = s.deadlines := rfl
@[simp] theorem State.putMgmt_nextOrder (m : MgmtPort) : (s.putMgmt m).nextOrder = s.nextOrder := rfl
@[simp] theorem State.putMgmt_ports (m : MgmtPort) : (s.putMgmt m).ports = s.ports := rfl
@[simp] theorem State.putMgmt_qePtr (m : MgmtPort) : (s.putMgmt m).qePtr = s.qePtr := rfl
@[simp] theorem State.putMgmt_mask (m : MgmtPort) : (s.putMgmt m).mask = s.mask := rfl
@[simp] theorem State.putMgmt_pending (m : MgmtPort) : (s.putMgmt m).pending = s.pending := rfl

/-! ## State.arm -/

@[simp] theorem State.arm_lt (d : LocalTime) (w : Work) : (s.arm d w).lt = s.lt := rfl
@[simp] theorem State.arm_rstLow (d : LocalTime) (w : Work) : (s.arm d w).rstLow = s.rstLow := rfl
@[simp] theorem State.arm_slots (d : LocalTime) (w : Work) : (s.arm d w).slots = s.slots := rfl
@[simp] theorem State.arm_leases (d : LocalTime) (w : Work) : (s.arm d w).leases = s.leases := rfl
@[simp] theorem State.arm_inputs (d : LocalTime) (w : Work) : (s.arm d w).inputs = s.inputs := rfl
@[simp] theorem State.arm_bindings (d : LocalTime) (w : Work) : (s.arm d w).bindings = s.bindings := rfl
@[simp] theorem State.arm_estPtr (d : LocalTime) (w : Work) : (s.arm d w).estPtr = s.estPtr := rfl
@[simp] theorem State.arm_ports (d : LocalTime) (w : Work) : (s.arm d w).ports = s.ports := rfl
@[simp] theorem State.arm_qePtr (d : LocalTime) (w : Work) : (s.arm d w).qePtr = s.qePtr := rfl
@[simp] theorem State.arm_mgmt (d : LocalTime) (w : Work) : (s.arm d w).mgmt = s.mgmt := rfl
@[simp] theorem State.arm_mask (d : LocalTime) (w : Work) : (s.arm d w).mask = s.mask := rfl
@[simp] theorem State.arm_pending (d : LocalTime) (w : Work) : (s.arm d w).pending = s.pending := rfl

/-! ## State.giveUpLease -/

@[simp] theorem State.giveUpLease_lt (k : LeaseNo) (l : Lease) : (s.giveUpLease k l).lt = s.lt :=
  by unfold State.giveUpLease; dsimp only; (repeat' split) <;> simp
@[simp] theorem State.giveUpLease_rstLow (k : LeaseNo) (l : Lease) : (s.giveUpLease k l).rstLow = s.rstLow :=
  by unfold State.giveUpLease; dsimp only; (repeat' split) <;> simp
@[simp] theorem State.giveUpLease_inputs (k : LeaseNo) (l : Lease) : (s.giveUpLease k l).inputs = s.inputs :=
  by unfold State.giveUpLease; dsimp only; (repeat' split) <;> simp
@[simp] theorem State.giveUpLease_bindings (k : LeaseNo) (l : Lease) : (s.giveUpLease k l).bindings = s.bindings :=
  by unfold State.giveUpLease; dsimp only; (repeat' split) <;> simp
@[simp] theorem State.giveUpLease_estPtr (k : LeaseNo) (l : Lease) : (s.giveUpLease k l).estPtr = s.estPtr :=
  by unfold State.giveUpLease; dsimp only; (repeat' split) <;> simp
@[simp] theorem State.giveUpLease_deadlines (k : LeaseNo) (l : Lease) : (s.giveUpLease k l).deadlines = s.deadlines :=
  by unfold State.giveUpLease; dsimp only; (repeat' split) <;> simp
@[simp] theorem State.giveUpLease_nextOrder (k : LeaseNo) (l : Lease) : (s.giveUpLease k l).nextOrder = s.nextOrder :=
  by unfold State.giveUpLease; dsimp only; (repeat' split) <;> simp
@[simp] theorem State.giveUpLease_ports (k : LeaseNo) (l : Lease) : (s.giveUpLease k l).ports = s.ports :=
  by unfold State.giveUpLease; dsimp only; (repeat' split) <;> simp
@[simp] theorem State.giveUpLease_qePtr (k : LeaseNo) (l : Lease) : (s.giveUpLease k l).qePtr = s.qePtr :=
  by unfold State.giveUpLease; dsimp only; (repeat' split) <;> simp
@[simp] theorem State.giveUpLease_mgmt (k : LeaseNo) (l : Lease) : (s.giveUpLease k l).mgmt = s.mgmt :=
  by unfold State.giveUpLease; dsimp only; (repeat' split) <;> simp
@[simp] theorem State.giveUpLease_mask (k : LeaseNo) (l : Lease) : (s.giveUpLease k l).mask = s.mask :=
  by unfold State.giveUpLease; dsimp only; (repeat' split) <;> simp
@[simp] theorem State.giveUpLease_pending (k : LeaseNo) (l : Lease) : (s.giveUpLease k l).pending = s.pending :=
  by unfold State.giveUpLease; dsimp only; (repeat' split) <;> simp

/-! ## State.dropSplice -/

@[simp] theorem State.dropSplice_lt (e : DeadlineEntry) (h n : Handle) : (s.dropSplice e h n).lt = s.lt :=
  by simp [State.dropSplice]
@[simp] theorem State.dropSplice_rstLow (e : DeadlineEntry) (h n : Handle) : (s.dropSplice e h n).rstLow = s.rstLow :=
  by simp [State.dropSplice]
@[simp] theorem State.dropSplice_leases (e : DeadlineEntry) (h n : Handle) : (s.dropSplice e h n).leases = s.leases :=
  by simp [State.dropSplice]
@[simp] theorem State.dropSplice_inputs (e : DeadlineEntry) (h n : Handle) : (s.dropSplice e h n).inputs = s.inputs :=
  by simp [State.dropSplice]
@[simp] theorem State.dropSplice_bindings (e : DeadlineEntry) (h n : Handle) : (s.dropSplice e h n).bindings = s.bindings :=
  by simp [State.dropSplice]
@[simp] theorem State.dropSplice_estPtr (e : DeadlineEntry) (h n : Handle) : (s.dropSplice e h n).estPtr = s.estPtr :=
  by simp [State.dropSplice]
@[simp] theorem State.dropSplice_nextOrder (e : DeadlineEntry) (h n : Handle) : (s.dropSplice e h n).nextOrder = s.nextOrder :=
  by simp [State.dropSplice]
@[simp] theorem State.dropSplice_ports (e : DeadlineEntry) (h n : Handle) : (s.dropSplice e h n).ports = s.ports :=
  by simp [State.dropSplice]
@[simp] theorem State.dropSplice_qePtr (e : DeadlineEntry) (h n : Handle) : (s.dropSplice e h n).qePtr = s.qePtr :=
  by simp [State.dropSplice]
@[simp] theorem State.dropSplice_mgmt (e : DeadlineEntry) (h n : Handle) : (s.dropSplice e h n).mgmt = s.mgmt :=
  by simp [State.dropSplice]
@[simp] theorem State.dropSplice_mask (e : DeadlineEntry) (h n : Handle) : (s.dropSplice e h n).mask = s.mask :=
  by simp [State.dropSplice]
@[simp] theorem State.dropSplice_pending (e : DeadlineEntry) (h n : Handle) : (s.dropSplice e h n).pending = s.pending :=
  by simp [State.dropSplice]

/-! ## State.tellSplice -/

@[simp] theorem State.tellSplice_lt (o : Origin) (x : Ending) (b : SpliceBody) : (s.tellSplice o x b).lt = s.lt :=
  by unfold State.tellSplice; split <;> rfl
@[simp] theorem State.tellSplice_rstLow (o : Origin) (x : Ending) (b : SpliceBody) : (s.tellSplice o x b).rstLow = s.rstLow :=
  by unfold State.tellSplice; split <;> rfl
@[simp] theorem State.tellSplice_leases (o : Origin) (x : Ending) (b : SpliceBody) : (s.tellSplice o x b).leases = s.leases :=
  by unfold State.tellSplice; split <;> rfl
@[simp] theorem State.tellSplice_inputs (o : Origin) (x : Ending) (b : SpliceBody) : (s.tellSplice o x b).inputs = s.inputs :=
  by unfold State.tellSplice; split <;> rfl
@[simp] theorem State.tellSplice_bindings (o : Origin) (x : Ending) (b : SpliceBody) : (s.tellSplice o x b).bindings = s.bindings :=
  by unfold State.tellSplice; split <;> rfl
@[simp] theorem State.tellSplice_estPtr (o : Origin) (x : Ending) (b : SpliceBody) : (s.tellSplice o x b).estPtr = s.estPtr :=
  by unfold State.tellSplice; split <;> rfl
@[simp] theorem State.tellSplice_deadlines (o : Origin) (x : Ending) (b : SpliceBody) : (s.tellSplice o x b).deadlines = s.deadlines :=
  by unfold State.tellSplice; split <;> rfl
@[simp] theorem State.tellSplice_nextOrder (o : Origin) (x : Ending) (b : SpliceBody) : (s.tellSplice o x b).nextOrder = s.nextOrder :=
  by unfold State.tellSplice; split <;> rfl
@[simp] theorem State.tellSplice_qePtr (o : Origin) (x : Ending) (b : SpliceBody) : (s.tellSplice o x b).qePtr = s.qePtr :=
  by unfold State.tellSplice; split <;> rfl
@[simp] theorem State.tellSplice_mgmt (o : Origin) (x : Ending) (b : SpliceBody) : (s.tellSplice o x b).mgmt = s.mgmt :=
  by unfold State.tellSplice; split <;> rfl
@[simp] theorem State.tellSplice_mask (o : Origin) (x : Ending) (b : SpliceBody) : (s.tellSplice o x b).mask = s.mask :=
  by unfold State.tellSplice; split <;> rfl
@[simp] theorem State.tellSplice_pending (o : Origin) (x : Ending) (b : SpliceBody) : (s.tellSplice o x b).pending = s.pending :=
  by unfold State.tellSplice; split <;> rfl

/-! ## Numbered parts -/

@[simp] theorem State.slot_putSlot (i j : SlotNo) (x : Slot) :
    (s.putSlot i x).slot j = if i = j then x else s.slot j := by
  simp only [State.slot, State.putSlot, Vector.getElem_set, Fin.ext_iff]

@[simp] theorem State.input_updInput (i j : InputNo) (f : Input → Input) :
    (s.updInput i f).input j = if i = j then f (s.input i) else s.input j := by
  simp only [State.input, State.updInput, Vector.getElem_set, Fin.ext_iff]

@[simp] theorem State.port_updPort (n m : PortNo) (f : Port → Port) :
    (s.updPort n f).port m = if n = m then f (s.port n) else s.port m := by
  simp only [State.port, State.updPort, Vector.getElem_set, Fin.ext_iff]

@[simp] theorem State.lease_putLease (k j : LeaseNo) (l : Option Lease) :
    (s.putLease k l).lease j = if k = j then l else s.lease j := by
  simp only [State.lease, State.putLease, Vector.getElem_set, Fin.ext_iff]

end Sys2Proof.Machine
end

