-- ==== Sys2Proof/Laws/Ops.lean ====
section
/-! SUPPORT. What the shared operations do, one lemma each: the record operations on a current handle, notices, checks,
queues and lists. -/

namespace Sys2Proof.Machine

variable {s : State}

/-! ## Notice kinds as bits (R189) -/

@[simp] theorem flag_badFrame : NoticeKind.flag .badFrame = 0x0001 := rfl
@[simp] theorem flag_unboundTag : NoticeKind.flag .unboundTag = 0x0002 := rfl
@[simp] theorem flag_overrun : NoticeKind.flag .overrun = 0x0004 := rfl
@[simp] theorem flag_lockGained : NoticeKind.flag .lockGained = 0x0008 := rfl
@[simp] theorem flag_lockLost : NoticeKind.flag .lockLost = 0x0010 := rfl
@[simp] theorem flag_holdover : NoticeKind.flag .holdover = 0x0020 := rfl
@[simp] theorem flag_stale : NoticeKind.flag .stale = 0x0040 := rfl
@[simp] theorem flag_jump : NoticeKind.flag .jump = 0x0080 := rfl
@[simp] theorem flag_breakSeen : NoticeKind.flag .breakSeen = 0x0100 := rfl
@[simp] theorem flag_sourceSwitch : NoticeKind.flag .sourceSwitch = 0x0200 := rfl
@[simp] theorem flag_spliceDone : NoticeKind.flag .spliceDone = 0x0400 := rfl
@[simp] theorem flag_spliceCancelled : NoticeKind.flag .spliceCancelled = 0x0800 := rfl
@[simp] theorem flag_revoked : NoticeKind.flag .revoked = 0x1000 := rfl
@[simp] theorem flag_drained : NoticeKind.flag .drained = 0x2000 := rfl

@[simp] theorem flagWhen_true (k : NoticeKind) : flagWhen true k = k.flag := rfl
@[simp] theorem flagWhen_false (k : NoticeKind) : flagWhen false k = 0 := rfl

/-- What entry into RETIRED keeps and sets, as masks (R34). -/
theorem retiredNotices_eq (x : NoticeSet) : retiredNotices x = (x &&& 0x1800) ||| 0x2000 := rfl

/-! ## Spans and timers (R4, R5, R9) -/

/-- Within the span, as bounds. -/
theorem inSpan_iff (d : Int) : inSpan d = true ↔ -(2 : Int) ^ 36 ≤ d ∧ d ≤ 2 ^ 36 := by
  have e : Config.span = 68719476736 := rfl
  unfold inSpan
  rw [e, decide_eq_true_iff]
  omega

theorem reached_iff (d now : LocalTime) : reached d now = true ↔ 0 ≤ timeDiff d now := by
  unfold reached
  exact decide_eq_true_iff

@[simp] theorem startTimer_start (now : LocalTime) (ms : Nat) : (startTimer now ms).start = now := rfl

/-- A timer's deadline is its start and the parameter at 25,000 ticks a millisecond. -/
theorem startTimer_eq (now : LocalTime) (ms : Nat) :
    startTimer now ms = { start := now, deadline := now + BitVec.ofNat 48 (ms * 25000) } := rfl

/-! ## Current handles -/

/-- A handle is current exactly when R14's four conditions hold; it then names its slot's phase and record. -/
theorem State.current_eq_some {h : Handle} {ph : Phase} {r : Record} :
    s.current h = some (ph, r) ↔
      h.slot ≠ 0 ∧ h.gen ≠ 0 ∧ h.gen = (s.slot h.slot).gen ∧ (s.slot h.slot).content = .active ph r := by
  unfold State.current
  constructor
  · intro e
    split at e
    · cases e
    · rename_i hn
      refine ⟨fun q => hn (.inl q), fun q => hn (.inr (.inl q)), Classical.not_not.1 fun q => hn (.inr (.inr q)), ?_⟩
      split at e
      · rename_i hc
        cases e
        exact hc
      · cases e
      · cases e
  · rintro ⟨h0, h1, h2, h3⟩
    simpa [h0, ← h2, h3] using h1

theorem State.current_slot {h : Handle} {ph : Phase} {r : Record} (e : s.current h = some (ph, r)) :
    s.slot h.slot = { gen := h.gen, content := .active ph r, notices := (s.slot h.slot).notices } := by
  obtain ⟨-, -, h2, h3⟩ := State.current_eq_some.1 e
  rw [h2, ← h3]

/-- Two current handles of one slot are one handle. -/
theorem State.current_inj {h k : Handle} {x y : Phase × Record} (eh : s.current h = some x) (ek : s.current k = some y)
    (e : h.slot = k.slot) : h = k := by
  obtain ⟨x1, x2⟩ := x
  obtain ⟨y1, y2⟩ := y
  obtain ⟨-, -, h2, -⟩ := State.current_eq_some.1 eh
  obtain ⟨-, -, k2, -⟩ := State.current_eq_some.1 ek
  cases h
  cases k
  simp_all

/-- Currency reads the slots alone. -/
theorem State.current_congr {t : State} {h : Handle} (e : t.slot h.slot = s.slot h.slot) : t.current h = s.current h := by
  unfold State.current
  rw [e]

theorem State.clock_of_current {h : Handle} {ph : Phase} {c : ClockRecord} (e : s.current h = some (ph, .ofClock c)) :
    s.clock h = some c := by
  simp [State.clock, e]

/-! ## `putSlot` and `withRecord` -/

theorem State.putSlot_putSlot (i : SlotNo) (x y : Slot) : (s.putSlot i x).putSlot i y = s.putSlot i y := by
  simp [State.putSlot]

theorem State.putSlot_comm {i j : SlotNo} (x y : Slot) (n : i ≠ j) :
    (s.putSlot i x).putSlot j y = (s.putSlot j y).putSlot i x := by
  simp only [State.putSlot]
  congr 1
  exact Vector.set_comm _ _ (by simpa [Fin.ext_iff] using n)

theorem State.slot_withRecord (i j : SlotNo) (ph : Phase) (r : Record) (f : NoticeSet) :
    (s.withRecord i ph r f).slot j =
      if i = j then { gen := (s.slot i).gen, content := .active ph r, notices := (s.slot i).notices ||| f }
      else s.slot j := by
  simp [State.withRecord]

@[simp] theorem State.slot_withRecord_self (i : SlotNo) (ph : Phase) (r : Record) (f : NoticeSet) :
    (s.withRecord i ph r f).slot i =
      { gen := (s.slot i).gen, content := .active ph r, notices := (s.slot i).notices ||| f } := by
  simp [State.slot_withRecord]

/-- Writing a record over a record of the same slot keeps the later one and both sets of notices. -/
@[simp] theorem State.withRecord_withRecord (i : SlotNo) (ph ph' : Phase) (r r' : Record) (f f' : NoticeSet) :
    (s.withRecord i ph r f).withRecord i ph' r' f' = s.withRecord i ph' r' (f ||| f') := by
  simp [State.withRecord, State.putSlot_putSlot, BitVec.or_assoc]

@[simp] theorem State.withRecord_notify (i : SlotNo) (ph : Phase) (r : Record) (f f' : NoticeSet) :
    (s.withRecord i ph r f).notify i f' = s.withRecord i ph r (f ||| f') := by
  simp [State.withRecord, State.notify, State.putSlot_putSlot, BitVec.or_assoc]

@[simp] theorem State.putSlot_withRecord (i : SlotNo) (ph : Phase) (r : Record) (f : NoticeSet) (x : Slot) :
    (s.withRecord i ph r f).putSlot i x = s.putSlot i x := by
  simp [State.withRecord, State.putSlot_putSlot]

theorem State.withRecord_comm {i j : SlotNo} (ph ph' : Phase) (r r' : Record) (f f' : NoticeSet) (n : i ≠ j) :
    (s.withRecord i ph r f).withRecord j ph' r' f' = (s.withRecord j ph' r' f').withRecord i ph r f := by
  have n' : ¬j = i := fun e => n e.symm
  simp [State.withRecord, n, n', State.putSlot_comm _ _ n]

/-- The handle of a written record is current when it was. -/
theorem State.current_withRecord_self {h : Handle} {x : Phase × Record} (e : s.current h = some x) (ph : Phase)
    (r : Record) (f : NoticeSet) : (s.withRecord h.slot ph r f).current h = some (ph, r) := by
  obtain ⟨x1, x2⟩ := x
  obtain ⟨h0, h1, h2, -⟩ := State.current_eq_some.1 e
  exact State.current_eq_some.2 ⟨h0, h1, by simpa using h2, by simp⟩

theorem State.current_withRecord_other {h : Handle} {i : SlotNo} (n : i ≠ h.slot) (ph : Phase) (r : Record)
    (f : NoticeSet) : (s.withRecord i ph r f).current h = s.current h :=
  State.current_congr (by simp [State.slot_withRecord, n])

/-- Two current handles naming different kinds name different slots. -/
theorem State.current_slot_ne {h k : Handle} {x y : Phase × Record} (eh : s.current h = some x) (ek : s.current k = some y)
    (n : x ≠ y) : h.slot ≠ k.slot := by
  intro e
  have := State.current_inj eh ek e
  subst this
  exact n (Option.some.inj (eh.symm.trans ek))

/-- Writing back the record a slot holds, with no notice, changes nothing. -/
theorem State.withRecord_self {h : Handle} {ph : Phase} {r : Record} (e : s.current h = some (ph, r)) :
    s.withRecord h.slot ph r 0 = s := by
  have := (State.current_eq_some.1 e).2.2.2
  have e' : s.slots.set h.slot.val (s.slot h.slot) h.slot.isLt = s.slots := by
    unfold State.slot
    exact Vector.set_getElem_self _
  have e0 : (s.slot h.slot).notices ||| (0 : NoticeSet) = (s.slot h.slot).notices := by simp
  simp only [State.withRecord, ← this, State.putSlot, e0]
  exact congrArg (fun x => { s with slots := x }) e'

/-! ## Record operations on a current handle -/

theorem State.updClock_of_current {h : Handle} {ph : Phase} {c : ClockRecord} (f : ClockRecord → ClockRecord)
    (e : s.current h = some (ph, .ofClock c)) : s.updClock h f = s.withRecord h.slot ph (.ofClock (f c)) 0 := by
  simp [State.updClock, e, State.putContent, State.withRecord]

theorem State.updAlias_of_current {h : Handle} {ph : Phase} {a : AliasRecord} (f : AliasRecord → AliasRecord)
    (e : s.current h = some (ph, .ofAlias a)) : s.updAlias h f = s.withRecord h.slot ph (.ofAlias (f a)) 0 := by
  simp [State.updAlias, e, State.putContent, State.withRecord]

theorem State.updRecord_of_current {h : Handle} {ph : Phase} {r : Record} (f : Record → Record)
    (e : s.current h = some (ph, r)) : s.updRecord h f = s.withRecord h.slot ph (f r) 0 := by
  simp [State.updRecord, e, State.putContent, State.withRecord]

theorem State.setPhase_of_current {h : Handle} {ph : Phase} {r : Record} (ph' : Phase)
    (e : s.current h = some (ph, r)) : s.setPhase h ph' = s.withRecord h.slot ph' r 0 := by
  simp [State.setPhase, e, State.putContent, State.withRecord]

theorem State.notify_of_current {h : Handle} {ph : Phase} {r : Record} (f : NoticeSet)
    (e : s.current h = some (ph, r)) : s.notify h.slot f = s.withRecord h.slot ph r f := by
  have := (State.current_eq_some.1 e).2.2.2
  simp [State.notify, State.withRecord, ← this]

theorem State.updClock_of_stale {h : Handle} (f : ClockRecord → ClockRecord) (e : s.current h = none) :
    s.updClock h f = s := by
  simp [State.updClock, e]

theorem State.updAlias_of_stale {h : Handle} (f : AliasRecord → AliasRecord) (e : s.current h = none) :
    s.updAlias h f = s := by
  simp [State.updAlias, e]

theorem State.updRecord_of_stale {h : Handle} (f : Record → Record) (e : s.current h = none) :
    s.updRecord h f = s := by
  simp [State.updRecord, e]

/-- A CLOCK's record and its notices changed together: the form most of the Estimator's events end in. -/
theorem State.updClock_notify {h : Handle} {ph : Phase} {c : ClockRecord} (f : ClockRecord → ClockRecord)
    (x : NoticeSet) (e : s.current h = some (ph, .ofClock c)) :
    (s.updClock h f).notify h.slot x = s.withRecord h.slot ph (.ofClock (f c)) x := by
  simp [State.updClock_of_current f e]

/-- A record operation reaches its own slot alone. -/
theorem State.slot_updClock_other {h : Handle} {i : SlotNo} (f : ClockRecord → ClockRecord) (n : i ≠ h.slot) :
    (s.updClock h f).slot i = s.slot i := by
  have n' : ¬h.slot = i := fun e => n e.symm
  unfold State.updClock State.putContent
  split <;> simp [n']

theorem State.slot_updAlias_other {h : Handle} {i : SlotNo} (f : AliasRecord → AliasRecord) (n : i ≠ h.slot) :
    (s.updAlias h f).slot i = s.slot i := by
  have n' : ¬h.slot = i := fun e => n e.symm
  unfold State.updAlias State.putContent
  split <;> simp [n']

theorem State.slot_updRecord_other {h : Handle} {i : SlotNo} (f : Record → Record) (n : i ≠ h.slot) :
    (s.updRecord h f).slot i = s.slot i := by
  have n' : ¬h.slot = i := fun e => n e.symm
  unfold State.updRecord State.putContent
  split <;> simp [n']

theorem State.slot_notify_other {i j : SlotNo} (f : NoticeSet) (n : i ≠ j) : (s.notify i f).slot j = s.slot j := by
  simp [State.notify, n]

/-! ## Inputs and ports -/

@[simp] theorem State.updInput_updInput (i : InputNo) (f g : Input → Input) :
    (s.updInput i f).updInput i g = s.updInput i (g ∘ f) := by
  simp [State.updInput, State.input]

@[simp] theorem State.updPort_updPort (n : PortNo) (f g : Port → Port) :
    (s.updPort n f).updPort n g = s.updPort n (g ∘ f) := by
  simp [State.updPort, State.port]

/-- Pushing changes one port's response queue alone. -/
theorem State.port_push (n m : PortNo) (e : ResponseEntry) :
    (s.push n e).port m =
      if n = m then { s.port n with responses := (s.port n).responses ++ [e] } else s.port m := by
  simp [State.push]

@[simp] theorem portOfByte_ofNat (n : Fin 4) : portOfByte (BitVec.ofNat 8 n.val) = some n := by
  revert n
  decide

end Sys2Proof.Machine
end

