-- ==== Sys2Proof/Laws/Events.lean ====
section
/-! SUPPORT. How an event's outcome follows from its cause: RST_N high, a sample taken, a request granted or in progress. -/

namespace Sys2Proof.Machine

variable {s : State}

theorem taken_high {t : State} (e : s.rstLow = false) : taken s t = .next t := by
  simp [taken, e]

theorem taken_low {t : State} (e : s.rstLow = true) : taken s t = .next s := by
  simp [taken, e]

theorem inProgress_of_asked {r : MgmtRequest} (e : s.asked r) : s.inProgress = some r := by
  simp [State.inProgress, e.2]

/-! ## The Estimator's take -/

/-- A take hands the sample on, with its holding slot emptied and the pointer moved (R63). -/
theorem exec_sampleTake {n : InputNo} {x : Sample} (e : s.rstLow = false) (h : s.nextSample = some (n, x)) :
    exec .sampleTake s = .next (useSample x (s.afterTake n)) := by
  show taken s (takeSample s) = _
  rw [taken_high e]
  unfold takeSample
  rw [h]
  rfl

/-- A sample of the active role of a LIVE record reaches stages 3 to 9 (R74 to R76). -/
theorem exec_sampleTake_active {n : InputNo} {x : Sample} {c : ClockRecord} (h : s.takesActive n x c) :
    exec .sampleTake s = .next (applySample x (c.hear x.role s.lt) (s.afterTake n)) := by
  obtain ⟨hr, hn, hc, hb, ha⟩ := h
  have hc' : (s.afterTake n).liveClock x.clock = some c := by
    have : (s.afterTake n).current x.clock = some (.live, .ofClock c) := hc
    simp [State.liveClock, this]
  have hb' : (s.afterTake n).roleBound x.clock x.role = true := hb
  rw [exec_sampleTake hr hn, useSample, hc']
  simp only [hb', ha, if_true]
  rfl

/-- What stages 3 to 9 leave of the record, its notices and its wakes. -/
theorem applySample_eq {x : Sample} {c c1 : ClockRecord} (hc : s.current x.clock = some (.live, .ofClock c)) :
    applySample x c1 s =
      let r := handleSample x c1
      let s1 := s.withRecord x.clock.slot .live (.ofClock (restartSilence s.lt r.clock)) r.notices
      if r.broke then s1.endWakes x.clock .discontinuity else s1 := by
  simp only [applySample, State.updClock_notify _ _ hc]

/-! ## Checks -/

theorem checkHandle_of_current {h : Handle} {x : Phase × Record} (e : s.current h = some x) :
    checkHandle s h = .pass x := by
  have : h ≠ Handle.null := by
    rintro rfl
    simp [State.current, Handle.null] at e
  simp [checkHandle, this, e]

theorem checkHandle_null : checkHandle s Handle.null = .fail .nullHandle Handle.null := by
  simp [checkHandle]

theorem checkHandle_stale {h : Handle} (n : h ≠ Handle.null) (e : s.current h = none) :
    checkHandle s h = .fail .staleHandle h := by
  simp [checkHandle, n, e]

theorem checkClock_of_current {h : Handle} {ph : Phase} {c : ClockRecord} (e : s.current h = some (ph, .ofClock c)) :
    checkClock s h = .pass (ph, c) := by
  simp [checkClock, checkHandle_of_current e]

/-- The checks of an alias handle from a port pass exactly an alias that is not RESERVED, at level 0 (R48). -/
theorem checkAliasFromPort_pass {level : Nat} {h : Handle} {ph : Phase} {a : AliasRecord} :
    checkAliasFromPort s level h = .pass (ph, a) ↔
      s.current h = some (ph, .ofAlias a) ∧ ph ≠ .reserved ∧ level = 0 := by
  unfold checkAliasFromPort checkHandle
  by_cases n : h = Handle.null
  · subst n
    simp [State.current, Handle.null]
  · simp only [n, if_false]
    cases e : s.current h with
    | none => simp
    | some x =>
      obtain ⟨p, r⟩ := x
      cases r <;> by_cases hp : p = .reserved <;> by_cases hl : level = 0 <;> simp [hp, hl]
      all_goals (rintro rfl; simp [hp])

/-- The checks RETARGET and SPLICE share pass exactly an alias that is not DRAINING and has no splice pending, toward a CLOCK
that is not DRAINING (R164, R166). -/
theorem checkMove_pass {h n : Handle} {ph : Phase} {a b : AliasRecord} :
    checkMove s h n (ph, a) = .pass b ↔
      b = a ∧ ph.isDraining = false ∧ a.pendingSplice = none ∧
        ∃ p c, s.current n = some (p, .ofClock c) ∧ p.isDraining = false := by
  unfold checkMove checkNewTarget checkHandle
  by_cases hn : n = Handle.null
  · subst hn
    simp [State.current, Handle.null]
  · simp only [hn, if_false]
    cases e : s.current n with
    | none => simp
    | some x =>
      obtain ⟨p, r⟩ := x
      cases r <;> cases p <;> cases hd : ph.isDraining <;> cases hs : a.pendingSplice <;>
        simp [Phase.isDraining, eq_comm (a := a)]

end Sys2Proof.Machine
end

