-- ==== Sys2Proof/Laws/Frames.lean ====
section
/-! SUPPORT. Bits, bytes and fields read back as they were sent. -/

namespace Sys2Proof.Machine

theorem byteOfBits_bitsOfByte (b : Byte) :
    byteOfBits (b.getLsbD 7) (b.getLsbD 6) (b.getLsbD 5) (b.getLsbD 4) (b.getLsbD 3) (b.getLsbD 2) (b.getLsbD 1)
      (b.getLsbD 0) = b := by
  revert b
  decide

/-- Eight bits of one byte at the front of a bit string are that byte. -/
@[simp] theorem bytesOfBits_bitsOfByte_append (b : Byte) (bits : List Bool) :
    bytesOfBits (bitsOfByte b ++ bits) = b :: bytesOfBits bits := by
  show byteOfBits _ _ _ _ _ _ _ _ :: _ = _
  rw [byteOfBits_bitsOfByte]
  rfl

@[simp] theorem bytesOfBits_frameBits (bs : List Byte) : bytesOfBits (frameBits bs) = bs := by
  induction bs with
  | nil => rfl
  | cons b bs ih =>
    show bytesOfBits (bitsOfByte b ++ frameBits bs) = _
    rw [bytesOfBits_bitsOfByte_append, ih]

@[simp] theorem length_frameBits (bs : List Byte) : (frameBits bs).length = 8 * bs.length := by
  induction bs with
  | nil => rfl
  | cons b bs ih =>
    show (bitsOfByte b ++ frameBits bs).length = _
    rw [List.length_append, ih]
    simp [bitsOfByte]
    omega

theorem natOfBytes_append (xs : List Byte) (y : Byte) : natOfBytes (xs ++ [y]) = 256 * natOfBytes xs + y.toNat := by
  simp [natOfBytes]

@[simp] theorem length_bytesBE (k v : Nat) : (bytesBE k v).length = k := by
  induction k with
  | zero => rfl
  | succ k ih => simp [bytesBE, ih]

/-- A fold over a field, from any start. -/
theorem natOfBytes_foldl (bs : List Byte) (n : Nat) :
    bs.foldl (fun n b => 256 * n + b.toNat) n = n * 256 ^ bs.length + natOfBytes bs := by
  induction bs generalizing n with
  | nil => simp [natOfBytes]
  | cons b bs ih =>
    have e : natOfBytes (b :: bs) = b.toNat * 256 ^ bs.length + natOfBytes bs := by
      show bs.foldl (fun n b => 256 * n + b.toNat) (256 * 0 + b.toNat) = _
      rw [ih]
      simp
    show bs.foldl (fun n b => 256 * n + b.toNat) (256 * n + b.toNat) = _
    rw [ih, e, List.length_cons, Nat.pow_succ]
    ring

theorem natOfBytes_cons (b : Byte) (bs : List Byte) :
    natOfBytes (b :: bs) = b.toNat * 256 ^ bs.length + natOfBytes bs := by
  show bs.foldl (fun n b => 256 * n + b.toNat) (256 * 0 + b.toNat) = _
  rw [natOfBytes_foldl]
  simp

/-- A field read back is its value modulo its width. -/
theorem natOfBytes_bytesBE (k v : Nat) : natOfBytes (bytesBE k v) = v % 256 ^ k := by
  induction k with
  | zero => simp [bytesBE, natOfBytes, Nat.mod_one]
  | succ k ih =>
    have e : v % 256 ^ (k + 1) = v % 256 ^ k + 256 ^ k * (v / 256 ^ k % 256) := by
      rw [Nat.pow_succ, Nat.mod_mul]
    rw [bytesBE, natOfBytes_cons, length_bytesBE, ih, BitVec.toNat_ofNat, e]
    show v / 256 ^ k % 256 * 256 ^ k + v % 256 ^ k = _
    ring

/-- Fields side by side, as numbers. -/
theorem toNat_append_add {m n : Nat} (a : BitVec m) (b : BitVec n) : (a ++ b).toNat = a.toNat * 2 ^ n + b.toNat := by
  rw [BitVec.toNat_append, ← Nat.shiftLeft_add_eq_or_of_lt b.isLt, Nat.shiftLeft_eq]

/-- A two-byte field is its bytes side by side. -/
theorem ofNat_natOfBytes_two (a b : Byte) : BitVec.ofNat 16 (natOfBytes [a, b]) = a ++ b := by
  apply BitVec.eq_of_toNat_eq
  have := a.isLt
  have := b.isLt
  simp only [natOfBytes, List.foldl, BitVec.toNat_ofNat, toNat_append_add]
  omega

/-- A five-byte field is its bytes side by side. -/
theorem refValueOfBytes_five (a b c d e : Byte) : refValueOfBytes [a, b, c, d, e] = a ++ b ++ c ++ d ++ e := by
  apply BitVec.eq_of_toNat_eq
  have := a.isLt
  have := b.isLt
  have := c.isLt
  have := d.isLt
  have := e.isLt
  simp only [refValueOfBytes, natOfBytes, List.foldl, BitVec.toNat_ofNat, toNat_append_add]
  omega

end Sys2Proof.Machine
end

