-- ==== Sys2Proof/Laws/Fields.lean ====
section
/-! SUPPORT. What the fields of Machine/Formats.lean spell, in the words the statements are written in. -/

namespace Sys2Proof.Machine

/-- Fields side by side spell their lists side by side. -/
theorem spells_append {fs gs : List (Nat × Int)} {xs ys : List Byte} (hx : Spells fs xs) (hy : Spells gs ys) :
    Spells (fs ++ gs) (xs ++ ys) := by
  induction fs generalizing xs with
  | nil => rw [show xs = [] from hx]; exact hy
  | cons f fs ih =>
    obtain ⟨field, rest, rfl, hl, hv, hr⟩ := hx
    exact ⟨field, rest ++ ys, List.append_assoc .., hl, hv, ih hr⟩

theorem spells_cons {f : Nat × Int} {fs : List (Nat × Int)} {xs ys : List Byte} (hx : Spells [f] xs) (hy : Spells fs ys) :
    Spells (f :: fs) (xs ++ ys) := spells_append hx hy

/-- An unsigned field spells its number. -/
theorem spells_bytesBE (k v : Nat) : Spells [(k, (v : Int))] (bytesBE k v) :=
  ⟨bytesBE k v, [], (List.append_nil _).symm, length_bytesBE k v, by rw [natOfBytes_bytesBE]; push_cast; rfl, rfl⟩

/-- A signed field spells its number in two's complement. -/
theorem spells_signedBE (k : Nat) (x : Int) : Spells [(k, x)] (signedBE k x) := by
  refine ⟨signedBE k x, [], (List.append_nil _).symm, length_bytesBE _ _, ?_, rfl⟩
  have p : (0 : Int) < 256 ^ k := by positivity
  rw [signedBE, natOfBytes_bytesBE]
  push_cast
  rw [Int.toNat_of_nonneg (Int.emod_nonneg _ p.ne'), Int.emod_emod]

theorem spells_byteOf (n : Nat) : Spells [byteField n] (byteOf n) := spells_bytesBE 1 n

theorem spells_timeBytes (t : BitVec 48) : Spells [timeField t] (timeBytes t) := spells_bytesBE 6 _

theorem spells_rvBytes (v : RefValue) : Spells [rvField v] (rvBytes v) := spells_bytesBE 5 _

theorem spells_handle (h : Handle) : Spells [h.field] h.bytes := by
  refine ⟨h.bytes, [], (List.append_nil _).symm, rfl, ?_, rfl⟩
  have := h.gen.isLt
  have := h.slot.isLt
  simp only [Handle.bytes, natOfBytes, List.foldl, BitVec.toNat_ofNat]
  omega

/-- An optional field spells its value, or zero. -/
theorem spells_optBytes {α : Type} {k : Nat} {f : α → List Byte} {g : α → Nat × Int} (h : ∀ x, Spells [g x] (f x))
    (o : Option α) : Spells [optField k g o] (optBytes (bytesBE k 0) f o) := by
  cases o with
  | none => exact spells_bytesBE k 0
  | some x => exact h x

/-- Presence marks as the statements number them. -/
theorem marks_eq_presence (l : List Bool) : marks l = presence l := by
  have aux : ∀ (l : List Bool) (n : Nat),
      ((l.zipIdx n).map fun x => if x.1 then 2 ^ x.2 else 0).sum = 2 ^ n * presence l := by
    intro l
    induction l with
    | nil => intro n; simp [presence]
    | cons b l ih =>
      intro n
      rw [List.zipIdx_cons, List.map_cons, List.sum_cons, ih, presence]
      cases b <;> simp [pow_succ] <;> ring
  simpa [marks] using aux l 0

theorem UseSet.marks_eq_toNat (u : UseSet) : marks [u.convert, u.due, u.wake, u.lease] = u.toNat := by
  rw [marks_eq_presence]
  simp [presence, UseSet.toNat]
  omega

theorem JumpPolicy.code_eq (j : JumpPolicy) : (if j = .reject then 1 else 0) = j.code := by
  cases j <;> rfl

/-- The results of a port response spell the fields of R193. -/
theorem PortResult.spells (r : PortResult) : Spells r.fields r.bytes := by
  cases r <;>
    simp only [PortResult.bytes, PortResult.fields, marks_eq_presence, List.append_assoc] <;>
    repeat' first
      | exact spells_byteOf _ | exact spells_timeBytes _ | exact spells_rvBytes _ | exact spells_handle _
      | exact spells_bytesBE _ _ | exact spells_signedBE _ _ | exact spells_optBytes (spells_signedBE _) _
      | refine spells_cons ?_ ?_

theorem WakeBody.spells (b : WakeBody) : Spells b.fields b.bytes := by
  simp only [WakeBody.bytes, WakeBody.fields, marks_eq_presence, List.append_assoc]
  exact spells_cons (spells_handle _) <| spells_cons (spells_timeBytes _) <| spells_cons (spells_byteOf _) <|
    spells_cons (spells_optBytes (fun _ => spells_byteOf _) _) <| spells_cons (spells_optBytes spells_rvBytes _) <|
    spells_cons (spells_optBytes (spells_signedBE 5) _) <| spells_cons (spells_optBytes spells_timeBytes _) <|
    spells_optBytes spells_timeBytes _

theorem SpliceBody.spells (b : SpliceBody) : Spells b.fields b.bytes := by
  simp only [SpliceBody.bytes, SpliceBody.fields, marks_eq_presence, List.append_assoc]
  exact spells_cons (spells_handle _) <| spells_cons (spells_optBytes spells_handle _) <|
    spells_cons (spells_handle _) <| spells_cons (spells_timeBytes _) <|
    spells_cons (spells_optBytes spells_timeBytes _) <| spells_byteOf _

/-- The CLOCK part of a snapshot spells its fields (R197). -/
theorem ClockRecord.spells (ph : Phase) (c : ClockRecord) : Spells (c.fields ph.drainDeadline) (clockBytes ph c) := by
  unfold ClockRecord.fields clockBytes
  rw [c.cfg.jumpPolicy.code_eq, c.cfg.useSet.marks_eq_toNat, marks_eq_presence]
  simp only [List.append_assoc]
  exact spells_cons (spells_byteOf _) <| spells_cons (spells_byteOf _) <| spells_cons (spells_bytesBE 2 _) <|
    spells_cons (spells_bytesBE 4 _) <| spells_cons (spells_byteOf _) <| spells_cons (spells_byteOf _) <|
    spells_cons (spells_byteOf _) <| spells_cons (spells_byteOf _) <| spells_cons (spells_byteOf _) <|
    spells_cons (spells_bytesBE 2 _) <| spells_cons (spells_bytesBE 2 _) <| spells_cons (spells_bytesBE 4 _) <|
    spells_cons (spells_bytesBE 4 _) <| spells_cons (spells_bytesBE 2 _) <| spells_cons (spells_byteOf _) <|
    spells_cons (spells_bytesBE 2 _) <| spells_cons (spells_optBytes (fun _ => spells_timeBytes _) _) <|
    spells_cons (spells_optBytes (fun _ => spells_rvBytes _) _) <| spells_cons (spells_signedBE 4 _) <|
    spells_cons (spells_optBytes (spells_signedBE 4) _) <| spells_cons (spells_byteOf _) <|
    spells_cons (spells_byteOf _) <| spells_cons (spells_byteOf _) <| spells_cons (spells_byteOf _) <|
    spells_cons (spells_optBytes spells_timeBytes _) <| spells_cons (spells_optBytes spells_timeBytes _) <|
    spells_cons (spells_optBytes (fun _ => spells_timeBytes _) _) <|
    spells_cons (spells_optBytes (fun _ => spells_timeBytes _) _) <|
    spells_cons (spells_optBytes (fun _ => spells_timeBytes _) _) <|
    spells_cons (spells_optBytes (fun _ => spells_timeBytes _) _) <| spells_cons (spells_byteOf _) <|
    spells_cons (spells_bytesBE 2 _) <| spells_cons (spells_byteOf _) <| spells_optBytes spells_timeBytes _

/-- The ALIAS part of a snapshot spells its fields (R197). -/
theorem AliasRecord.spells (ph : Phase) (a : AliasRecord) (splice : Option (Handle × LocalTime)) :
    Spells (a.fields ph.drainDeadline splice) (aliasBytes ph a splice) := by
  unfold AliasRecord.fields aliasBytes
  rw [a.useSet.marks_eq_toNat, marks_eq_presence]
  simp only [List.append_assoc]
  exact spells_cons (spells_byteOf _) <| spells_cons (spells_byteOf _) <| spells_cons (spells_handle _) <|
    spells_cons (spells_byteOf _) <| spells_cons (spells_byteOf _) <|
    spells_cons (spells_optBytes spells_timeBytes _) <| spells_cons (spells_optBytes (fun _ => spells_handle _) _) <|
    spells_cons (spells_optBytes (fun _ => spells_timeBytes _) _) <| spells_bytesBE 2 _

/-- A byte spells itself. -/
theorem spells_byte (b : Byte) : Spells [byteField b.toNat] [b] :=
  ⟨[b], [], rfl, rfl, by have := b.isLt; simp only [natOfBytes, List.foldl]; omega, rfl⟩

/-- A snapshot spells its fields (R197). -/
theorem Snapshot.spells (r : Snapshot) : Spells r.fields r.bytes := by
  unfold Snapshot.fields Snapshot.bytes
  refine spells_append ?_ ?_
  · simp only [List.append_assoc]
    exact spells_cons (spells_timeBytes _) <| spells_cons (spells_byteOf _) <| spells_cons (spells_byteOf _) <|
      spells_cons (spells_byte _) <| spells_cons (spells_byteOf _) <| spells_bytesBE 2 _
  · rcases r with ⟨now, n, ⟨g, c, f⟩, splice⟩
    rcases c with _ | ⟨ph, c | a⟩ | k
    · rfl
    · exact ClockRecord.spells ph c
    · exact AliasRecord.spells ph a splice
    · rfl

end Sys2Proof.Machine
end

