-- ==== Sys2Proof/Tests/Slice0.lean ====
section
/-! SUPPORT. Small tests, with expected values from the manual's examples, and a witness that the hypotheses of each statement
can be met. -/

set_option maxRecDepth 20000

open Sys2Proof Sys2Proof.Machine

/-- The answer held on the management port. -/
def Sys2Proof.Machine.State.answer (s : State) : Option MgmtAnswer :=
  match s.mgmt.req with
  | .held r => some r.answer
  | .none | .inProgress _ => none

/-- The clock in a slot. -/
def Sys2Proof.Machine.State.clockAt (s : State) (i : SlotNo) : Option ClockRecord :=
  match (s.slot i).content with
  | .active _ (.ofClock c) => some c
  | .active _ (.ofAlias _) | .free | .retired _ => none

namespace Sys2Proof.Tests

/-! ## States -/

def h1 : Handle := { slot := 1, gen := 1 }
def h2 : Handle := { slot := 2, gen := 1 }
def h3 : Handle := { slot := 3, gen := 1 }

/-- The clock of the worked computations of section 1.8, in a lock state. -/
def worked (l : LockState) : ClockRecord :=
  { ClockRecord.created with
    lock := l, anchor := if l = .unset then none else some { lt := 1000000000, rv := 500000000000 }, trim := 42950
    active := some .primary
    silence := if l = .acquiring ∨ l = .locked then some (startTimer 1024000000 200) else none
    holdover := if l = .holdover then some (startTimer 1020000000 10000) else none }

def place (i : SlotNo) (ph : Phase) (r : Record) (s : State) : State :=
  s.putSlot i { gen := 1, content := .active ph r, notices := 0 }

/-- One LIVE clock in slot 1, at the worked computations' time. -/
def oneClock (l : LockState) : State := place 1 .live (.ofClock (worked l)) { State.reset with lt := 1025000000 }

/-- Clocks in slots 1 and 2, and alias 3 of clock 1. -/
def withAlias (ph : Phase) (a : AliasRecord) : State :=
  place 3 ph (.ofAlias a)
    (place 2 .live (.ofClock (worked .locked))
      (place 1 .live (.ofClock { worked .locked with aliasCount := 1 }) { State.reset with lt := 1025000000 }))

def ask (r : MgmtRequest) (s : State) : State := { s with mgmt := { s.mgmt with req := .inProgress r } }

/-- A port at level 0 with one accepted request, tag 7. -/
def grant (n : PortNo) (q : PortRequest) (s : State) : State :=
  s.updPort n fun p => { p with level := 0, credits := 7, requests := [{ tag := 7, request := q }] }

/-- A held sample of PRIMARY for clock 1 on input 0, its tag bound. -/
def heldSample (stamp : LocalTime) (rv : RefValue) (brk : Bool) (s : State) : State :=
  { s.updInput 0 fun i => { i with holding := some { clock := h1, role := .primary, stamp, rv, brk } } with
    bindings := [{ input := 0, tag := 5, clock := h1, role := .primary }] }

def withEntries (es : List DeadlineEntry) (s : State) : State := { s with deadlines := es, nextOrder := es.length }

def after (c : Instr) (s : State) : State :=
  match exec c s with
  | .next t => t
  | .fault _ | .refused _ => s

def portAnswers (s : State) (n : PortNo) : List PortAnswer :=
  (s.port n).responses.filterMap fun e =>
    match e with
    | .response _ _ a => some a
    | .wakeDone .. | .spliceDone .. | .revoked .. => none

/-! ## Well-formedness, words -/

theorem test_silence_expiry_of_slot_zero_is_ill_formed : (Instr.silenceExpiry 0).wellFormed = false := by decide
theorem test_holdover_expiry_of_slot_zero_is_ill_formed : (Instr.holdoverExpiry 0).wellFormed = false := by decide
theorem test_update_notice_of_slot_zero_is_ill_formed : (Instr.updateNotice 0).wellFormed = false := by decide
theorem test_drain_expiry_of_slot_zero_is_ill_formed : (Instr.drainExpiry 0).wellFormed = false := by decide
theorem test_drain_expiry_of_slot_one_is_well_formed : (Instr.drainExpiry 1).wellFormed = true := by decide
theorem test_no_word_spells_a_command : decodeTableWord 8 0xa1 = none := by decide
theorem test_fetch_word_leaves_the_state : (State.reset.withFetchWord 8 0xa1).pending = [] := by decide

/-! ## Local time and the line (section 1.8) -/

theorem test_lt_wraps : (after .lclkTick { State.reset with lt := 0xffffffffffff }).lt = 0 := by decide
theorem test_reset_release_blocks_asserted_pins :
    ((after (.resetRelease 2 4 true) (after .hardReset State.reset)).input 1).receiver = .blocked ∧
    ((after (.resetRelease 2 4 true) (after .hardReset State.reset)).input 0).receiver = .idle ∧
    ((after (.resetRelease 2 4 true) (after .hardReset State.reset)).port 2).tx = .blocked ∧
    (after (.resetRelease 2 4 true) (after .hardReset State.reset)).mgmt.tx = .blocked := by decide
theorem test_projection_one_second_on : (worked .locked).projection 1025000000 = some 500025000250 := by decide
theorem test_projection_one_second_back : (worked .locked).projection 975000000 = some 499974999749 := by decide
theorem test_projection_ends_of_span : ((worked .locked).projection 69719476736).isSome = true ∧
    (worked .locked).projection 69719476737 = none := by decide
theorem test_inverse_of_first_result : (worked .locked).inverse 500025000250 = some 1025000000 := by decide
theorem test_reference_value_wrap : projection { lt := 0, rv := 1099511617776 } 0 20000 = some 10000 ∧
    inverse { lt := 0, rv := 1099511617776 } 0 10000 = some 20000 := by decide
theorem test_residual_at_the_limits :
    (inverse { lt := 0, rv := 0 } 1048576 68719476736).bind (projection { lt := 0, rv := 0 } 1048576) =
      some (68719476736 - 4096) := by decide
theorem test_deadline_across_the_wrap : reached 1000 999 = false ∧ reached 1000 1000 = true ∧
    reached 0xfffffffffff0 0xffffffffffef = false := by decide

/-! ## Reference inputs -/

/-- Tag 0x0005, RV 1, flags 0x81: BREAK, and an ignored bit set. -/
def frame5 : List Byte := [0, 5, 0, 0, 0, 0, 1, 0x81]
def bound5 : State :=
  { oneClock .locked with bindings := [{ input := 0, tag := 5, clock := h1, role := .primary }] }

theorem test_check_values_of_the_note : crc8 [0, 0, 0, 0, 0, 0, 0, 0] = 0 ∧ crc8 [0, 0, 0, 0, 0, 0, 0, 1] = 7 := by decide
theorem test_frame_start : ((after (.frameStart 2) State.reset).input 2).receiver = .assembling 0 [] := by decide
theorem test_input_bits_past_72_are_counted_only :
    ((after (.inputBitSampled 1 true) (State.reset.updInput 1 fun i => { i with receiver := .assembling 72 [] })).input
      1).receiver = .assembling 73 [] := by decide
theorem test_receiver_unblock_sets_no_notice :
    (after (.receiverUnblock 0) (State.reset.updInput 0 fun i => { i with receiver := .blocked })).input 0 =
      Input.initial := by decide
theorem test_frame_end_stamps_with_the_offset :
    ((after (.frameEnd 0) (bound5.updInput 0 fun i =>
      { i with receiver := .assembling 72 (frameBits (frame5 ++ [crc8 frame5])), offset := -3 })).input 0).holding =
      some { clock := h1, role := .primary, stamp := 1024999997, rv := 1, brk := true } := by decide
theorem test_short_frame_is_bad :
    ((after (.frameEnd 0) (bound5.updInput 0 fun i => { i with receiver := .assembling 71 [] })).input 0).notices = 1 := by
  decide

/-! ## The Estimator (sections 12.3, 12.4; chapters 5 and 7) -/

/-- Clock 0x0101 of section 12.3 after its first four samples. -/
def locking : State :=
  place 1 .live (.ofClock { ClockRecord.created with
      lock := .acquiring, anchor := some { lt := 103000000, rv := 7003000030 }, trim := 7424, lastError := some 9
      inCount := 3, active := some .primary, silence := some (startTimer 103000500 200) })
    { State.reset with lt := 104000500 }

theorem test_fifth_sample_locks :
    ((after .sampleTake (heldSample 104000000 7004000040 false locking)).clockAt 1).map (fun c =>
      (c.lock, c.trim, c.lastError, c.inCount, c.anchor)) =
      some (.locked, 9728, some 9, 0, some { lt := 104000000, rv := 7004000040 }) ∧
    ((after .sampleTake (heldSample 104000000 7004000040 false locking)).clockAt 1).bind (fun c => c.silence) =
      some { start := 104000500, deadline := 109000500 } := by decide
theorem test_out_sample_of_chapter_seven :
    ((after .sampleTake (heldSample 1030000000 500029999900 false { oneClock .locked with lt := 1030000200 })).clockAt
      1).map (fun c => (c.lock, c.outCount, c.trim, c.lastError)) = some (.locked, 1, -59450, some (-400)) := by decide
theorem test_silence_without_standby_is_holdover :
    ((after (.silenceExpiry 1) { oneClock .locked with lt := 1029000000 }).clockAt 1).map (fun c =>
      (c.lock, c.holdover)) = some (.holdover, some { start := 1029000000, deadline := 1279000000 }) := by decide
theorem test_holdover_ends_stale :
    ((after (.holdoverExpiry 1) { oneClock .holdover with lt := 1270000000 }).clockAt 1).map (fun c => c.lock) =
      some .stale ∧ ((after (.holdoverExpiry 1) { oneClock .holdover with lt := 1270000000 }).slot 1).notices = 0x40 := by
  decide
theorem test_set_anchor_answers_the_lock_state_before :
    State.answer (after .setAnchor (ask (.setAnchor h1 7 1048576) (oneClock .holdover))) =
      some (.ok (.lockState .holdover)) ∧
    State.answer (after .setAnchor (ask (.setAnchor h1 7 1048577) (oneClock .holdover))) =
      some (.refused .badValue { slot := 0, gen := 0 }) := by decide
theorem test_select_unbound_source_is_not_found :
    State.answer (after .selectSource (ask (.selectSource h1 .standby) bound5)) =
      some (.refused .notFound { slot := 0, gen := 0 }) := by decide

/-! ## The Deadline Unit (sections 12.4, 12.5; chapter 8) -/

/-- The clock of chapter 8's example at its update notice. -/
def moved8 : State :=
  withEntries [{ due := 1002000000, order := 1, work := .wake 2 7 h1 h1 500002000000 },
      { due := 1003000000, order := 2, work := .splice .management h3 h2 },
      { due := 1005000000, order := 0, work := .wake 0 0x31 h1 h1 500005000000 },
      { due := 1005000000, order := 3, work := .wake 0 0x32 h1 h1 500005000000 }]
    (place 1 .live (.ofClock { worked .locked with
        anchor := some { lt := 1001500000, rv := 500001500100 }, trim := 25600, wakeCount := 3, updatePending := true })
      { State.reset with lt := 1001500050 })

theorem test_update_notice_moves_the_wakes_of_chapter_eight :
    (after (.updateNotice 1) moved8).deadlines.map (fun e => (e.due, e.order)) =
      [(1001999898, 1), (1003000000, 2), (1004999880, 0), (1004999880, 3)] ∧
    ((after (.updateNotice 1) moved8).clockAt 1).map (fun c => (c.wakeCount, c.updatePending)) = some (3, false) := by
  decide
theorem test_wake_is_armed_at_the_inverse :
    (after .wake (grant 0 (.wake h1 500030000300) (oneClock .locked))).deadlines =
      [{ due := 1030000000, order := 0, work := .wake 0 7 h1 h1 500030000300 }] := by decide
theorem test_wake_in_the_past_is_answered_at_once :
    ((after .wake (grant 0 (.wake h1 500024999000) (oneClock .locked))).port 0).responses =
      [.wakeDone 7 .due { clock := h1, now := 1025000000, quality := some { lock := .locked, draining := false }
                          p := some 500024999000, lead := some (-1250), due := none, lateness := none }] := by decide
theorem test_wake_fires_once_reached :
    (after .wakeExpiry (withEntries [{ due := 1025000000, order := 0, work := .wake 0 7 h1 h1 500025000250 }]
      (oneClock .locked))).deadlines = [] ∧
    ((after .wakeExpiry (withEntries [{ due := 1025000001, order := 0, work := .wake 0 7 h1 h1 500025000250 }]
      (oneClock .locked))).port 0).responses = [] := by decide
theorem test_cancel_answers_after_the_completion :
    ((after .cancel (grant 0 (.cancel 9) (withEntries [{ due := 1030000000, order := 0, work := .wake 0 9 h1 h1 5 }]
      (oneClock .locked)))).port 0).responses.map ResponseEntry.classCode = [2, 1] := by decide

/-- Section 12.5: alias 3 with a splice to clock 2 pending, origin Q3, tag 0x60. -/
def splicing : State :=
  withEntries [{ due := 1025000000, order := 0, work := .splice (.port 3 0x60) h3 h2 }]
    (withAlias .live { AliasRecord.created h1 with pendingSplice := some 0 })

theorem test_splice_executes_at_its_due_time :
    ((after .spliceExpiry splicing).port 3).responses = [.spliceDone 0x60 .done
      { aliasHandle := h3, oldTarget := some h1, newTarget := h2, now := 1025000000, due := some 1025000000 }] ∧
    ((after .spliceExpiry splicing).clockAt 1).map (fun c => c.aliasCount) = some 0 := by decide
theorem test_retarget_of_a_splicing_alias_is_busy :
    portAnswers (after .retarget (grant 3 (.retarget h3 h2) splicing)) 3 = [.refused .busy h3] := by decide
theorem test_splice_later_is_armed_without_answer :
    ((after .splice (grant 3 (.splice h3 h2 1025000001) (withAlias .live (AliasRecord.created h1)))).port 3).responses =
      [] ∧
    (after .splice (grant 3 (.splice h3 h2 1025000001) (withAlias .live (AliasRecord.created h1)))).deadlines =
      [{ due := 1025000001, order := 0, work := .splice (.port 3 7) h3 h2 }] := by decide
theorem test_unsplice_answers_with_the_origin :
    portAnswers (after .unsplice (grant 1 (.unsplice h3) splicing)) 1 =
      [.ok (.unsplice h3 h2 1025000000 (.port 3 0x60))] := by decide
theorem test_mgmt_retarget_moves_the_counts :
    ((after .mgmtRetarget (ask (.retarget h3 h2) (withAlias .live (AliasRecord.created h1)))).clockAt 1).map
      (fun c => c.aliasCount) = some 0 ∧
    ((after .mgmtRetarget (ask (.retarget h3 h2) (withAlias .live (AliasRecord.created h1)))).clockAt 2).map
      (fun c => c.aliasCount) = some 1 := by decide
theorem test_mgmt_splice_at_now_is_executed :
    State.answer (after .mgmtSplice (ask (.splice h3 h2 1025000000) (withAlias .live (AliasRecord.created h1)))) =
      some (.ok (.spliceExecuted h3 h1 h2 1025000000)) := by decide
theorem test_mgmt_unsplice_without_splice_is_not_found :
    State.answer (after .mgmtUnsplice (ask (.unsplice h3) (withAlias .live (AliasRecord.created h1)))) =
      some (.refused .notFound { slot := 0, gen := 0 }) := by decide

/-! ## Timing queries (chapter 7's example) -/

def asked (q : PortRequest) (c : Instr) : List PortAnswer := portAnswers (after c (grant 0 q (oneClock .locked))) 0

theorem test_convert_now : asked (.convert h1 .now) .convert =
    [.ok (.convert h1 1025000000 { lock := .locked, draining := false } 1025000000 500025000250)] := by decide
theorem test_convert_beyond_the_span : asked (.convert h1 (.at 69719476737)) .convert = [.refused .outOfRange h1] := by decide
theorem test_invert : asked (.invert h1 500025000250) .invert =
    [.ok (.invert h1 1025000000 { lock := .locked, draining := false } 500025000250 1025000000)] := by decide
theorem test_due_at_the_late_tolerance : asked (.due h1 500024750250) .due =
    [.ok (.due h1 1025000000 { lock := .locked, draining := false } 500024750250 .due 250000)] := by decide
theorem test_due_too_early : asked (.due h1 500060000000) .due =
    [.ok (.due h1 1025000000 { lock := .locked, draining := false } 500060000000 .tooEarly 34999750)] := by decide
theorem test_status : asked (.status h1) .status =
    [.ok (.status h1 1025000000 .live .locked (some .primary) 42950 none (some 25000000))] := by decide
theorem test_null_handle_is_refused : asked (.status { slot := 0, gen := 0 }) .status =
    [.refused .nullHandle { slot := 0, gen := 0 }] := by decide

/-! ## Leases and retirement (sections 9 and 12.7) -/

def leased : State :=
  (place 1 (.draining 1025000000) (.ofClock { worked .locked with
      leaseCount := 1, active := none, silence := none }) { State.reset with lt := 1025000000 }).putLease 0
    (some { port := 0, named := h1, grant := 250000000 })

theorem test_lease_takes_the_lowest_entry :
    portAnswers (after .lease (grant 2 (.lease h1) (oneClock .locked))) 2 = [.ok (.lease 0 h1 1025000000 h1)] := by decide
theorem test_last_release_retires :
    portAnswers (after .release (grant 0 (.release 0) leased)) 0 = [.ok (.release 0 h1 250000000 .retired)] ∧
    ((after .release (grant 0 (.release 0) leased)).slot 1).gen = 2 := by decide
theorem test_release_of_another_port_is_not_found :
    portAnswers (after .release (grant 1 (.release 0) leased)) 1 = [.refused .notFound { slot := 0, gen := 0 }] := by decide
theorem test_drain_expiry_revokes_and_retires :
    (after (.drainExpiry 1) leased).slot 1 = { gen := 2, content := .retired .clockKind, notices := 0x3000 } ∧
    ((after (.drainExpiry 1) leased).port 0).responses = [.revoked 0 h1] := by decide
theorem test_collected_slot_is_free :
    (after .nextNotice (ask .nextNotice (after (.drainExpiry 1) leased))).slot 1 =
      { gen := 2, content := .free, notices := 0 } ∧
    State.answer (after .nextNotice (ask .nextNotice (after (.drainExpiry 1) leased))) =
      some (.ok (.notice (.slot h1 0x3000 .retired (some .clockKind)))) := by decide
theorem test_retire_under_lease_drains :
    (after .retire (ask (.retire h3 .normal) (withAlias .live
      { AliasRecord.created h1 with leaseCount := 1 }))).slot 3 =
      { gen := 1, content := .active (.draining 1050000000) (.ofAlias { AliasRecord.created h1 with leaseCount := 1 })
        notices := 0 } := by decide
theorem test_retire_of_a_target_is_in_use :
    State.answer (after .retire (ask (.retire h1 .immediate) (withAlias .live (AliasRecord.created h1)))) =
      some (.refused .inUse h1) := by decide

/-! ## Query port transactions (chapter 6) -/

theorem test_status_byte_of_an_idle_port : (State.reset.port 0).statusByte = 0x40 := by decide
theorem test_query_select_captures_the_status :
    ((after (.querySelect 0) State.reset).port 0).tx = .kind 0x40 [] := by decide
theorem test_eighth_bit_makes_a_fetch :
    ((after (.queryBitSampled 0 false) (State.reset.updPort 0 fun p =>
      { p with tx := .kind 0x40 [true, false, true, false, false, false, true] })).port 0).tx =
      .fetch 0x40 0 none := by decide
theorem test_query_fetch_select_is_that_bit :
    ((after (.queryFetchSelect 0) (State.reset.updPort 0 fun p =>
      { p with tx := .kind 0x40 [true, false, true, false, false, false, true] })).port 0).tx =
      .fetch 0x40 0 none := by decide
theorem test_request_is_accepted_on_a_credit :
    ((after (.queryRequestEnd 0) (State.reset.updPort 0 fun p =>
      { p with tx := .request 0x40 (frameBits [0xa1, 0x17, 0x22, 0x21]) 32 false })).port 0).requests =
      [{ tag := 0x22, request := .cancel 0x21 }] ∧
    ((after (.queryRequestEnd 0) (State.reset.updPort 0 fun p =>
      { p with tx := .request 0x40 (frameBits [0xa1, 0x17, 0x22, 0x21]) 32 false })).port 0).credits = 7 := by decide
theorem test_convert_code_in_five_bytes_is_malformed :
    ((after (.queryRequestEnd 0) (State.reset.updPort 0 fun p =>
      { p with tx := .request 0x40 (frameBits [0xa1, 0x10, 0x12, 6, 1]) 40 false })).port 0).framing = true := by decide
theorem test_aborted_fetch_clears_what_it_reported :
    ((after (.queryFetchEnd 0) (State.reset.updPort 0 fun p =>
      { p with framing := true, refused := true, tx := .fetch 0x42 24 none })).port 0).framing = false ∧
    ((after (.queryFetchEnd 0) (State.reset.updPort 0 fun p =>
      { p with framing := true, refused := true, tx := .fetch 0x42 24 none })).port 0).refused = true := by decide
theorem test_query_unblock : ((after (.queryPortUnblock 3) (State.reset.updPort 3 fun p =>
    { p with tx := .blocked })).port 3).tx = .idle := by decide
theorem test_cancel_response_bytes :
    (ResponseEntry.response .cancel 0x22 (.refused .notFound { slot := 0, gen := 0 })).bytes =
      [0x01, 5, 0x17, 0x22, 0x0d, 0, 0] := by decide

/-! ## Management transactions (chapter 10) -/

theorem test_mgmt_select : (after .mgmtSelect (ask .purge State.reset)).mgmt.tx = .kind 0x80 [] := by decide
theorem test_mgmt_bit_completes_a_fetch_kind :
    (after (.mgmtBitSampled false) { State.reset with
      mgmt := { State.reset.mgmt with tx := .kind 0 [true, false, true, false, false, false, true] } }).mgmt.tx =
      .fetch 0 0 none := by decide
theorem test_mgmt_fetch_select :
    (after .mgmtFetchSelect { State.reset with
      mgmt := { State.reset.mgmt with tx := .kind 0 [true, false, true, false, false, false, true] } }).mgmt.tx =
      .fetch 0 0 none := by decide
theorem test_mgmt_request_is_taken :
    (after .mgmtRequestEnd { State.reset with mgmt := { State.reset.mgmt with
      tx := .request 0 (frameBits [0xa1, 0x50, 3, 0]) 32 false } }).mgmt.req = .inProgress (.setPortLevel 3 0) := by decide
theorem test_second_mgmt_request_collides :
    (after .mgmtRequestEnd { State.reset with mgmt := { State.reset.mgmt with
      req := .inProgress .purge, tx := .request 0 (frameBits [0xa1, 0x50, 3, 0]) 32 false } }).mgmt =
      { tx := .idle, req := .inProgress .purge, collide := true } := by decide
theorem test_mgmt_fetch_end_frees_the_holder :
    (after .mgmtFetchEnd { State.reset with mgmt := { State.reset.mgmt with
      req := .held { code := .enable, answer := .ok .none }
      tx := .fetch 0x40 40 (some { code := .enable, answer := .ok .none }) } }).mgmt.req = .none := by decide
theorem test_mgmt_unblock : (after .mgmtPortUnblock { State.reset with
    mgmt := { State.reset.mgmt with tx := .blocked } }).mgmt.tx = .idle := by decide
theorem test_identity_bytes :
    (HeldResponse.mk .readIdentity (.ok .identity)).bytes =
      [12, 0x58, 0, 0, 0, 0x71, 0x02, 255, 64, 48, 16, 4, 4] := by decide

/-! ## Management requests (sections 12.1, 2.8, 4) -/

theorem test_first_clock_is_0101 :
    State.answer (after .createClock (ask .createClock State.reset)) = some (.ok (.newHandle h1)) := by decide
theorem test_create_alias_raises_the_count :
    ((after .createAlias (ask (.createAlias h1) (oneClock .locked))).clockAt 1).map (fun c => c.aliasCount) = some 1 := by
  decide
theorem test_configure_clears_of_a_lowered_count :
    ((after .configure (ask (.configure h1 [{ id := 7, value := 2 }]) (place 1 .live (.ofClock { worked .acquiring with
      inCount := 3 }) State.reset))).clockAt 1).map (fun c => (c.cfg.enterCount, c.inCount)) = some (2, 1) := by decide
theorem test_configure_of_a_clock_field_on_an_alias :
    State.answer (after .configure (ask (.configure h3 [{ id := 3, value := 1 }])
      (withAlias .live (AliasRecord.created h1)))) = some (.refused .wrongKind h3) := by decide
theorem test_enable_starts_the_silence_timer :
    ((after .enable (ask (.enable h1) (place 1 .reserved (.ofClock { worked .acquiring with silence := none })
      { State.reset with lt := 7 }))).clockAt 1).bind (fun c => c.silence) =
      some { start := 7, deadline := 5000007 } := by decide
theorem test_read_record_of_a_free_slot :
    State.answer (after .readRecord (ask (.readRecord 255) State.reset)) =
      some (.ok (.snapshot { now := 0, number := 255, slot := Slot.initial, splice := none })) := by decide
theorem test_bind_makes_the_role_active :
    State.answer (after .bind (ask (.bind 3 9 h1 .standby) (place 1 .reserved (.ofClock ClockRecord.created)
      State.reset))) = some (.ok (.activeSource (some .standby))) := by decide
theorem test_bind_of_a_bound_key_is_duplicate :
    State.answer (after .bind (ask (.bind 0 5 h1 .standby) bound5)) =
      some (.refused .duplicateKey { slot := 0, gen := 0 }) := by decide
theorem test_unbind_of_the_only_source :
    State.answer (after .unbind (ask (.unbind 0 5) bound5)) = some (.ok (.unbound h1 .primary none)) := by decide
theorem test_offset_is_answered_with_the_one_before :
    State.answer (after .setInputOffset (ask (.setInputOffset 1 (-1048576)) State.reset)) = some (.ok (.offset 0)) ∧
    ((after .setInputOffset (ask (.setInputOffset 1 (-1048576)) State.reset)).input 1).offset = -1048576 := by decide
theorem test_offset_out_of_range :
    State.answer (after .setInputOffset (ask (.setInputOffset 1 1048576) State.reset)) =
      some (.refused .badValue { slot := 0, gen := 0 }) := by decide
theorem test_set_port_level : State.answer (after .setPortLevel (ask (.setPortLevel 3 0) State.reset)) =
    some (.ok (.level 3)) := by decide
theorem test_port_reset_counts_what_went :
    State.answer (after .portReset (ask (.portReset 3) splicing)) = some (.ok (.portReset 0 0 1 0)) ∧
    ((after .portReset (ask (.portReset 3) splicing)).slot 3).content =
      .active .live (.ofAlias (AliasRecord.created h1)) := by decide
theorem test_read_port : State.answer (after .readPort (ask (.readPort 4) State.reset)) =
    some (.refused .badValue { slot := 0, gen := 0 }) := by decide
theorem test_read_port_holds_its_instant :
    State.answer (after .readPort (ask (.readPort 2) (oneClock .locked))) = some (.ok (.port
      { now := 1025000000, level := 3, credits := 8, requests := 0, responses := 0, revoked := 0, leaseUse := 0
        refused := false, framing := false, purged := false, tx := .idle })) := by decide
theorem test_read_identity : State.answer (after .readIdentity (ask .readIdentity State.reset)) = some (.ok .identity) := by
  decide
theorem test_read_time : State.answer (after .readTime (ask .readTime (oneClock .locked))) =
    some (.ok (.time 1025000000)) := by decide
theorem test_drained_is_never_masked :
    State.answer (after .setMask (ask (.setMask 0x3fff) State.reset)) = some (.ok (.mask 0 0x1fff)) := by decide
theorem test_next_notice_of_a_clean_part :
    State.answer (after .nextNotice (ask .nextNotice State.reset)) = some (.ok (.notice .empty)) := by decide
theorem test_purge_moves_the_generation_on :
    (after .purge (ask .purge (oneClock .locked))).slot 1 = { gen := 2, content := .free, notices := 0 } ∧
    ((after .purge (ask .purge (oneClock .locked))).port 2).purged = true := by decide

/-! ## Witnesses: the hypotheses of each statement can be met, clause by clause -/

theorem witness_StepTakesFrontCommand : { State.reset with pending := [.lclkTick, .wake] }.pending = [.lclkTick, .wake] ∧
    State.reset.pending = [] := by decide
theorem witness_LocalTimeCounts :
    { State.reset with lt := 0xffffffffffff }.lt = BitVec.ofNat 48 (2 ^ 48 - 1) ∧ State.reset.rstLow = false ∧
    (after .hardReset State.reset).rstLow = true ∧ Instr.wake ≠ .lclkTick ∧ Instr.wake ≠ .hardReset ∧
    exec .wake State.reset = .next State.reset := ⟨by decide, by decide, by decide, by decide, by decide, rfl⟩
theorem witness_ResetSequence : (after .hardReset State.reset).rstLow = true ∧
    exec .hardReset State.reset = .next (after .hardReset State.reset) := ⟨by decide, rfl⟩

def wakeAhead : State :=
  withEntries [{ due := 1025000001, order := 0, work := .wake 0 7 h1 h1 5 }] (oneClock .locked)
def spliceHead : State := withEntries [{ due := 0, order := 0, work := .splice .management h3 h2 }] State.reset

theorem witness_NoCauseNoChange_reset : (after .hardReset State.reset).rstLow = true ∧ Instr.wake ≠ .hardReset ∧
    (∀ a b m, Instr.wake ≠ .resetRelease a b m) ∧ State.reset.rstLow = false := by
  refine ⟨by decide, by decide, fun _ _ _ h => (by cases h), by decide⟩
theorem witness_NoCauseNoChange_inputs :
    ((State.reset.updInput 0 fun i => { i with receiver := .blocked }).input 0).receiver ≠ .idle ∧
    (State.reset.input 0).receiver ≠ .blocked ∧ (∀ k bits, (State.reset.input 0).receiver ≠ .assembling k bits) ∧
    ∀ n, (State.reset.input n).holding = none := by
  refine ⟨by decide, by decide, fun k bits => ?_, by decide⟩
  rw [show (State.reset.input 0).receiver = .idle from by decide]; simp
theorem witness_NoCauseNoChange_silence_one_tick_early :
    ∀ c d, ({ oneClock .locked with lt := 1028999999 } : State).current h1 = some (.live, .ofClock c) → c.silence = some d →
      timeDiff d.deadline 1028999999 < 0 := by
  intro c d hc hd
  rw [show ({ oneClock .locked with lt := 1028999999 } : State).current h1 = some (.live, .ofClock (worked .locked)) from rfl] at hc
  cases hc
  rw [show (worked .locked).silence = some (startTimer 1024000000 200) from rfl] at hd
  cases hd
  decide
theorem witness_NoCauseNoChange_holdover_one_tick_early :
    ∀ c d, ({ oneClock .holdover with lt := 1269999999 } : State).current h1 = some (.live, .ofClock c) → c.holdover = some d →
      timeDiff d.deadline 1269999999 < 0 := by
  intro c d hc hd
  rw [show ({ oneClock .holdover with lt := 1269999999 } : State).current h1 = some (.live, .ofClock (worked .holdover)) from rfl] at hc
  cases hc
  rw [show (worked .holdover).holdover = some (startTimer 1020000000 10000) from rfl] at hd
  cases hd
  decide
theorem witness_NoCauseNoChange_mark_clear :
    ∀ ph c, (oneClock .locked).current h1 = some (ph, .ofClock c) → c.updatePending = false := by
  intro ph c hc
  rw [show (oneClock .locked).current h1 = some (.live, .ofClock (worked .locked)) from rfl] at hc
  cases hc
  decide
theorem witness_NoCauseNoChange_drain_one_tick_early :
    ∀ d r, (({ leased with lt := 1024999999 } : State).slot 1).content = .active (.draining d) r →
      timeDiff d 1024999999 < 0 := by
  intro d r hd
  have e : (({ leased with lt := 1024999999 } : State).slot 1).content = .active (.draining 1025000000) (.ofClock
    { worked .locked with leaseCount := 1, active := none, silence := none }) := rfl
  rw [e] at hd
  cases hd
  decide
theorem witness_NoCauseNoChange_head_one_tick_early :
    (∀ e rest, wakeAhead.deadlines = e :: rest → timeDiff e.due wakeAhead.lt < 0) ∧
    (∀ e rest, wakeAhead.deadlines = e :: rest → ∃ n tag h b p, e.work = .wake n tag h b p) ∧
    ∀ e rest, spliceHead.deadlines = e :: rest → ∃ o h n, e.work = .splice o h n := by
  refine ⟨fun e rest h => ?_, fun e rest h => ?_, fun e rest h => ?_⟩
  · cases h; decide
  · cases h; exact ⟨_, _, _, _, _, rfl⟩
  · cases h; exact ⟨_, _, _, rfl⟩
theorem witness_NoCauseNoChange_ports :
    (State.reset.updPort 0 fun p => { p with tx := .blocked }).port 0 = { Port.initial with tx := .blocked } ∧
    (State.reset.port 0).tx.state = .idle ∧ State.reset.mgmt.tx.state = .idle ∧
    ({ State.reset with mgmt := { MgmtPort.initial with tx := .blocked } }).mgmt.tx.state ≠ .idle := by decide
theorem witness_NoCauseNoChange_evaluations : (Instr.convert, PortCode.convert) ∈ evaluations ∧
    (∀ n q, (grant 0 (.status h1) State.reset).granted = some (n, q) → q.request.code ≠ .convert) ∧
    (Instr.purge, MgmtCode.purge) ∈ ownerEvents ∧
    ∀ r, (ask .readTime State.reset).mgmt.req = .inProgress r → r.code ≠ .purge := by
  refine ⟨by decide, fun n q h => ?_, by decide, fun r h => ?_⟩
  · rw [show (grant 0 (.status h1) State.reset).granted = some (0, { tag := 7, request := .status h1 }) from by decide] at h
    cases h
    decide
  · cases h
    decide

theorem witness_ProjectionAndInverseFollowTheLine :
    (timeDiff (0 : LocalTime) 68719476736).natAbs ≤ 2 ^ 36 ∧ 2 ^ 36 < (timeDiff (0 : LocalTime) 68719476737).natAbs ∧
    (rvDiff (0 : RefValue) (0 - 68719476736)).natAbs ≤ 2 ^ 36 ∧
    2 ^ 36 < (rvDiff (0 : RefValue) (0 - 68719476737)).natAbs ∧
    projection { lt := 0, rv := 9 } 1048576 0 = some 9 ∧ projection { lt := 0, rv := 9 } 0 68719476737 = none := by decide
theorem witness_ResidualRule : inverse { lt := 0, rv := 0 } 1048576 68719476736 = some 68702699520 ∧
    projection { lt := 0, rv := 0 } 1048576 68702699520 = some 68719472640 ∧
    rvDiff (0 : RefValue) 68719476736 = 68719476736 := by decide
/-- R8 and R10 against R11's bound, as numbers alone (log entry 7): the inverse is d - (-262129), the projection of it d + 2, and
the bound is 1. -/
theorem test_residual_passes_the_bound_of_R11 :
    (-68711088640 * 16385 / 2 ^ 32 : Int) = -262129 ∧ ((-68711088640 + 262129) * 16385 / 2 ^ 32 : Int) = -262127 ∧
    -68711088640 + 262129 - 262127 = (-68711088640 + 2 : Int) ∧ 1 + 68711088640 * 16385 ^ 2 / 2 ^ 64 = (1 : Nat) := by decide
theorem witness_ResidualWithinTwo :
    inverse { lt := 0, rv := 0 } 16385 (BitVec.ofInt 40 (-68711088640)) =
      some (BitVec.ofInt 48 (-68710826511)) ∧
    projection { lt := 0, rv := 0 } 16385 (BitVec.ofInt 48 (-68710826511)) =
      some (BitVec.ofInt 40 (-68711088638)) ∧
    inverse { lt := 0, rv := 0 } (-1048576) 25000000 = some 25006104 ∧
    projection { lt := 0, rv := 0 } (-1048576) 25006104 = some 24999998 ∧
    (worked .locked).inverse 500025000250 = some 1025000000 ∧
    (worked .locked).projection 1025000000 = some 500025000250 := by decide
theorem witness_ProjectionAdvancesOnOneLine :
    projection { lt := 0, rv := 0 } (-1048576) 0 = some 0 ∧ projection { lt := 0, rv := 0 } (-1048576) 1 = some 0 ∧
    timeDiff (0 : LocalTime) 1 = 1 := by decide
theorem witness_ProjectionAdvancesOnOneLine_change :
    exec .setAnchor (ask (.setAnchor h1 7 0) (oneClock .locked)) =
      .next (after .setAnchor (ask (.setAnchor h1 7 0) (oneClock .locked))) ∧
    (ask (.setAnchor h1 7 0) (oneClock .locked)).current h1 = some (.live, .ofClock (worked .locked)) ∧
    ((after .setAnchor (ask (.setAnchor h1 7 0) (oneClock .locked))).clock h1).map (fun c => c.trim) = some 0 := by
  refine ⟨rfl, by decide, by decide⟩

theorem witness_FrameReceiver : (State.reset.input 0).receiver = .idle ∧
    ((State.reset.updInput 0 fun i => { i with receiver := .assembling 72 [] }).input 0).receiver = .assembling 72 [] ∧
    ((State.reset.updInput 0 fun i => { i with receiver := .blocked }).input 0).receiver = .blocked := by decide
def frameFive (check : Byte) (s : State) : State :=
  s.updInput 0 fun i => { i with receiver := .assembling 72 (frameBits [0, 5, 0, 0, 0, 0, 1, 0x81, check]) }
theorem witness_FrameEnd_wrong_length :
    (bound5.updInput 0 fun i => { i with receiver := .assembling 73 (List.replicate 72 true) }).rstLow = false ∧
    ((bound5.updInput 0 fun i => { i with receiver := .assembling 73 (List.replicate 72 true) }).input 0).receiver =
      .assembling 73 (List.replicate 72 true) ∧ 73 ≠ 72 := by decide
theorem witness_FrameEnd_wrong_check : (frameFive (crc8 frame5 ^^^ 1) bound5).rstLow = false ∧
    ((frameFive (crc8 frame5 ^^^ 1) bound5).input 0).receiver =
      .assembling 72 (frameBits [0, 5, 0, 0, 0, 0, 1, 0x81, crc8 frame5 ^^^ 1]) ∧
    crc8 [0, 5, 0, 0, 0, 0, 1, 0x81] ≠ crc8 frame5 ^^^ 1 := by decide
theorem witness_FrameEnd_unbound : (frameFive (crc8 frame5) (oneClock .locked)).rstLow = false ∧
    ((frameFive (crc8 frame5) (oneClock .locked)).input 0).receiver =
      .assembling 72 (frameBits [0, 5, 0, 0, 0, 0, 1, 0x81, crc8 frame5]) ∧
    crc8 [0, 5, 0, 0, 0, 0, 1, 0x81] = crc8 frame5 ∧
    ∀ b ∈ (frameFive (crc8 frame5) (oneClock .locked)).bindings,
      ¬(b.input = 0 ∧ b.tag = (0x00 : Byte) ++ (0x05 : Byte)) := by decide
theorem witness_FrameEnd_bound : (frameFive (crc8 frame5) bound5).rstLow = false ∧
    ((frameFive (crc8 frame5) bound5).input 0).receiver =
      .assembling 72 (frameBits [0, 5, 0, 0, 0, 0, 1, 0x81, crc8 frame5]) ∧
    crc8 [0, 5, 0, 0, 0, 0, 1, 0x81] = crc8 frame5 ∧
    (frameFive (crc8 frame5) bound5).bindings =
      [{ input := 0, tag := (0x00 : Byte) ++ (0x05 : Byte), clock := h1, role := .primary }] ∧
    (frameFive (crc8 frame5) bound5).bindings.Pairwise (fun x y => ¬(x.input = y.input ∧ x.tag = y.tag)) := by decide
theorem witness_CheckByte : [1, 2].length = [3, 4].length ∧ crc8 ([1] ++ 2 :: [3]) = crc8 ([1] ++ 2 :: [3]) := by decide

def sampleOf (stamp : LocalTime) (rv : RefValue) (brk : Bool) : Sample :=
  { clock := h1, role := .primary, stamp, rv, brk }

theorem witness_SampleTakeOrder_wrapping_pointer :
    ({ heldSample 1 2 false (oneClock .locked) with estPtr := 1 } : State).rstLow = false ∧
    (({ heldSample 1 2 false (oneClock .locked) with estPtr := 1 } : State).input 0).holding = some (sampleOf 1 2 false) ∧
    ∀ m : InputNo, (m - 1).val < (0 - 1 : InputNo).val →
      (({ heldSample 1 2 false (oneClock .locked) with estPtr := 1 } : State).input m).holding = none := by decide
theorem witness_SampleTakeOrder_no_record : ((heldSample 1 2 false State.reset).input 0).holding = some (sampleOf 1 2 false) ∧
    ∀ c, (heldSample 1 2 false State.reset).current h1 ≠ some (.live, .ofClock c) := by
  refine ⟨by decide, fun c e => ?_⟩
  rw [show (heldSample 1 2 false State.reset).current h1 = none from by decide] at e
  cases e
theorem witness_SampleTakeOrder_role_not_bound :
    (({ heldSample 1 2 false (oneClock .locked) with bindings := [] } : State).input 0).holding = some (sampleOf 1 2 false) ∧
    ({ heldSample 1 2 false (oneClock .locked) with bindings := [] } : State).roleBound h1 .primary = false := by decide
/-- A PRIMARY sample held for a clock whose active source is `active`. -/
def otherRole (l : LockState) (active : Option Role) : State :=
  place 1 .live (.ofClock { worked l with active }) (heldSample 1 2 false (oneClock l))
theorem witness_SampleTakeOrder_other_role (l : LockState) (active : Option Role) :
    ((otherRole l active).input 0).holding = some (sampleOf 1 2 false) ∧
    (∀ m : InputNo, (m - (otherRole l active).estPtr).val < (0 - (otherRole l active).estPtr).val →
      ((otherRole l active).input m).holding = none) ∧
    (otherRole l active).current h1 = some (.live, .ofClock { worked l with active }) ∧
    (otherRole l active).roleBound h1 .primary = true :=
  ⟨rfl, fun m h => absurd h (by cases l <;> cases active <;> simp [otherRole, heldSample, oneClock, place, State.reset]), rfl, rfl⟩
theorem witness_SampleTakeOrder_not_active : some Role.standby ≠ some .primary ∧ none ≠ some Role.primary := by decide

theorem takesPrimary (stamp : LocalTime) (rv : RefValue) (brk : Bool) (l : LockState) :
    (heldSample stamp rv brk (oneClock l)).takesActive 0 (sampleOf stamp rv brk) (worked l) := by
  refine ⟨rfl, ?_, ?_, ?_, rfl⟩
  · rfl
  · rfl
  · rfl

theorem witness_AnchoringSampleAndBreak :
    (heldSample 1 2 true (oneClock .unset)).takesActive 0 (sampleOf 1 2 true) (worked .unset) ∧
    (worked .stale).holdover = none ∧
    (heldSample 1 2 true (oneClock .holdover)).takesActive 0 (sampleOf 1 2 true) (worked .holdover) :=
  ⟨takesPrimary .., rfl, takesPrimary ..⟩

/-- A sample 25 000 000 ticks after the anchor, `e` counts off the line. -/
def compared (e : Int) (l : LockState) : State :=
  heldSample 1025000000 (500025000250 + BitVec.ofInt 40 e) false (oneClock l)

theorem witness_AppliedSample_taken (e : Int) (l : LockState) :
    (compared e l).takesActive 0 (sampleOf 1025000000 (500025000250 + BitVec.ofInt 40 e) false) (worked l) :=
  takesPrimary ..
theorem witness_AppliedSample_edges :
    timeDiff 1000000000 (1025000000 : LocalTime) = 25000000 ∧
    projection { lt := 1000000000, rv := 500000000000 } 42950 1025000000 = some 500025000250 ∧
    (rvDiff 500025000250 (500025000250 + BitVec.ofInt 40 250)).natAbs ≤ (worked .locked).cfg.lockWindow ∧
    (worked .locked).cfg.lockWindow < (rvDiff 500025000250 (500025000250 + BitVec.ofInt 40 (-251))).natAbs ∧
    (rvDiff 500025000250 (500025000250 + BitVec.ofInt 40 2500000)).natAbs ≤ (worked .locked).cfg.jumpLimit ∧
    (worked .acquiring).inCount + 1 < (worked .acquiring).cfg.enterCount ∧
    (worked .acquiring).cfg.enterCount ≤ ({ worked .acquiring with inCount := 3 }).inCount + 1 ∧
    (worked .locked).outCount + 1 < (worked .locked).cfg.leaveCount ∧
    (worked .locked).cfg.leaveCount ≤ ({ worked .locked with outCount := 2 }).outCount + 1 := by decide
theorem witness_SetAsideAndJumpingSample :
    (heldSample 1000000000 5 false (oneClock .holdover)).takesActive 0 (sampleOf 1000000000 5 false) (worked .holdover) ∧
    timeDiff 1000000000 (1000000000 : LocalTime) ≤ 0 ∧ 2 ^ 36 < (timeDiff 1000000000 (69719476737 : LocalTime)).natAbs ∧
    (worked .locked).cfg.jumpLimit < (rvDiff 500025000250 (500025000250 + BitVec.ofInt 40 (-2500001))).natAbs ∧
    (worked .locked).cfg.lockWindow ≤ (worked .locked).cfg.jumpLimit ∧ (worked .locked).cfg.jumpPolicy = .reject ∧
    (worked .locked).rejectRun + 1 < (worked .locked).cfg.rejectLimit ∧
    (worked .locked).cfg.rejectLimit ≤ ({ worked .locked with rejectRun := 2 }).rejectRun + 1 :=
  ⟨takesPrimary .., by decide⟩

/-- Clock 1 LOCKED, silent for its whole timeout, with both roles bound and STANDBY heard `ago` ticks before. -/
def silent (ago : Nat) : State :=
  { place 1 .live (.ofClock { worked .locked with heardStandby := some (1029000000 - BitVec.ofNat 48 ago) })
      { State.reset with lt := 1029000000 } with
    bindings := [{ input := 1, tag := 6, clock := h1, role := .standby }, { input := 0, tag := 5, clock := h1, role := .primary }] }

theorem witness_SampleFrameIsReceived : (silent 0).rstLow = false ∧ ((silent 0).input 0).receiver = .idle ∧
    { input := 0, tag := (0x00 : Byte) ++ (0x05 : Byte), clock := h1, role := .primary } ∈ (silent 0).bindings ∧
    (silent 0).bindings.length = 2 ∧ (silent 0).bindings.Pairwise (fun x y => ¬(x.input = y.input ∧ x.tag = y.tag)) ∧
    crc8 [0, 5, 0, 0, 0, 0, 1, 0x81] = crc8 frame5 ∧ crc8 [0, 5, 0, 0, 0, 0, 1, 0x81] ≠ crc8 frame5 ^^^ 1 := by decide

theorem witness_SilenceAndHoldover_switch_at_one_timeout : (silent 5000000).rstLow = false ∧
    (silent 5000000).current ((silent 5000000).handleOf 1) = some (.live, .ofClock { worked .locked with
      heardStandby := some (1029000000 - BitVec.ofNat 48 5000000) }) ∧
    (worked .locked).silence = some { start := 1024000000, deadline := 1029000000 } ∧
    0 ≤ timeDiff 1029000000 (silent 5000000).lt ∧ (worked .locked).active = some .primary ∧
    (silent 5000000).roleBound ((silent 5000000).handleOf 1) Role.primary.other = true ∧
    timeDiff (1029000000 - BitVec.ofNat 48 5000000) (silent 5000000).lt ≤ ((worked .locked).cfg.silenceMs : Int) * 25000 := by
  decide
theorem witness_SilenceAndHoldover_heard_too_long_ago :
    (silent 5000001).current ((silent 5000001).handleOf 1) = some (.live, .ofClock { worked .locked with
      heardStandby := some (1029000000 - BitVec.ofNat 48 5000001) }) ∧ (worked .locked).lock = .locked ∧
    (worked .locked).cfg.holdoverMs ≠ 0 ∧
    ∀ r u, (worked .locked).active = some r → ({ worked .locked with
        heardStandby := some (1029000000 - BitVec.ofNat 48 5000001) }).heard r.other = some u →
      (200 : Int) * 25000 < timeDiff u (silent 5000001).lt := by
  refine ⟨by decide, rfl, by decide, fun r u hr hu => ?_⟩
  cases hr
  cases hu
  decide
theorem witness_SilenceAndHoldover_no_standby :
    ({ oneClock .acquiring with lt := 1029000000 } : State).current h1 = some (.live, .ofClock (worked .acquiring)) ∧
    (worked .acquiring).silence = some { start := 1024000000, deadline := 1029000000 } ∧
    0 ≤ timeDiff 1029000000 ({ oneClock .acquiring with lt := 1029000000 } : State).lt ∧
    ({ oneClock .acquiring with lt := 1029000000 } : State).roleBound h1 .standby = false := by decide
theorem witness_SilenceAndHoldover_holdover_end :
    ({ oneClock .holdover with lt := 1270000000 } : State).current h1 = some (.live, .ofClock (worked .holdover)) ∧
    (worked .holdover).holdover = some { start := 1020000000, deadline := 1270000000 } ∧
    0 ≤ timeDiff 1270000000 ({ oneClock .holdover with lt := 1270000000 } : State).lt := by decide
theorem witness_SetAnchorAndSelectSource :
    (ask (.setAnchor h1 7 (-1048576)) (oneClock .holdover)).asked (.setAnchor h1 7 (-1048576)) ∧
    (ask (.setAnchor h1 7 (-1048576)) (oneClock .holdover)).current h1 = some (.live, .ofClock (worked .holdover)) ∧
    (ask (.selectSource h1 .primary) bound5).asked (.selectSource h1 .primary) ∧
    (ask (.selectSource h1 .primary) bound5).roleBound h1 .primary = true ∧ (worked .locked).active = some .primary ∧
    (ask (.selectSource h1 .standby) (silent 0)).roleBound h1 .standby = true :=
  ⟨⟨rfl, rfl⟩, by decide, ⟨rfl, rfl⟩, by decide⟩

def wakeReached : State :=
  withEntries [{ due := 1025000000, order := 0, work := .wake 0 7 h1 h1 500025000250 }] (oneClock .locked)

theorem witness_WakesEndedByTheirClock : wakeReached.current h1 = some (.live, .ofClock (worked .locked)) ∧
    (2 : SlotNo) ≠ h1.slot := by decide
theorem witness_WakeFires : wakeReached.rstLow = false ∧
    wakeReached.deadlines = [{ due := 1025000000, order := 0, work := .wake 0 7 h1 h1 500025000250 }] ∧
    0 ≤ timeDiff 1025000000 wakeReached.lt ∧ wakeReached.current h1 = some (.live, .ofClock (worked .locked)) ∧
    (worked .locked).lead 500025000250 wakeReached.lt = some 0 := by decide
theorem witness_WakeFires_out_of_range :
    ({ wakeReached with lt := 69719476737 } : State).current h1 = some (.live, .ofClock (worked .locked)) ∧
    0 ≤ timeDiff 1025000000 ({ wakeReached with lt := 69719476737 } : State).lt ∧
    (worked .locked).lead 500025000250 69719476737 = none := by decide
theorem witness_SpliceExecutes : splicing.rstLow = false ∧
    splicing.deadlines = [{ due := 1025000000, order := 0, work := .splice (.port 3 0x60) h3 h2 }] ∧
    0 ≤ timeDiff 1025000000 splicing.lt ∧
    splicing.current h3 = some (.live, .ofAlias { AliasRecord.created h1 with pendingSplice := some 0 }) ∧
    splicing.current h1 = some (.live, .ofClock { worked .locked with aliasCount := 1 }) := by decide
def managedSplice : State := { splicing with deadlines := [{ due := 1025000000, order := 0, work := .splice .management h3 h2 }] }
theorem witness_SpliceExecutes_management : managedSplice.rstLow = false ∧ 0 ≤ timeDiff 1025000000 managedSplice.lt ∧
    managedSplice.current h3 = some (.live, .ofAlias { AliasRecord.created h1 with pendingSplice := some 0 }) ∧
    managedSplice.current h1 = some (.live, .ofClock { worked .locked with aliasCount := 1 }) := by decide
theorem witness_UpdateNotice : moved8.rstLow = false ∧ moved8.current (moved8.handleOf 1) = some (.live, .ofClock
    { worked .locked with
      anchor := some { lt := 1001500000, rv := 500001500100 }, trim := 25600, wakeCount := 3, updatePending := true }) := by
  decide
theorem moved8_order : moved8.deadlines.Pairwise (fun a b => a.precedes moved8.lt b = true) := by decide
theorem witness_WakeRequest : (grant 0 (.wake h1 500030000300) (oneClock .locked)).grants 0 7 (.wake h1 500030000300) ∧
    resolve (grant 0 (.wake h1 500030000300) (oneClock .locked)) 0 .wake true h1 =
      .pass { named := h1, phase := .live, eff := h1, clock := worked .locked } ∧
    resolve State.reset 0 .wake true h1 = .fail .staleHandle h1 ∧
    (worked .locked).lead 500030000300 1025000000 = some 5000050 ∧ (worked .locked).inverse 500030000300 = some 1030000000 ∧
    (worked .locked).lead 500050000250 1025000000 = some 25000000 ∧
    (worked .locked).lead 500050000251 1025000000 = some 25000001 ∧
    (worked .locked).lead 500025000250 1025000000 = some 0 :=
  ⟨⟨rfl, by decide⟩, by decide⟩
theorem witness_WakeRequest_inverse_out_of_range :
    ({ worked .locked with trim := 1048576 }).inverse 568719476737 = none ∧
    ({ worked .locked with trim := 1048576 }).lead 568719476737 69702700000 = some 3617 := by decide
theorem witness_CancelRequest : (grant 0 (.cancel 7) wakeReached).grants 0 7 (.cancel 7) ∧
    (∀ x ∈ wakeReached.deadlines, x.hasTag 0 7 = true → x ≠ x → x.order < x.order) ∧
    (∀ e ∈ wakeReached.deadlines, e.hasTag 0 8 = false) ∧
    (splicing.deadlines.map fun e => e.hasTag 3 0x60) = [true] :=
  ⟨⟨rfl, by decide⟩, fun _ _ _ h => absurd rfl h, by decide⟩

theorem witness_PortTransactionBits : (State.reset.port 0).tx = .idle ∧ (State.reset.port 0).credits ≤ 8 ∧
    [true, false, true, false, false, false, true].length = 7 ∧
    [true, false, true, false, false, false, true] ++ [false] = bitsOfByte 0xa2 ∧
    [true, false, true, false, false, false, false] ++ [true] = bitsOfByte 0xa1 ∧
    [true, false, true, false, false, false, true] ++ [true] ≠ bitsOfByte 0xa2 ∧
    [true, false, true, false, false, false, true] ++ [true] ≠ bitsOfByte 0xa1 := by decide
theorem witness_ReadyLine :
    queryReady (State.reset.updPort 0 fun p => { p with
      responses := [.revoked 0 h1], tx := .fetch 0x80 48 (some { entry := .revoked 0 h1, inQueue := true }) }) 0 = true ∧
    queryReady (after (.queryFetchEnd 0) (State.reset.updPort 0 fun p => { p with
      responses := [.revoked 0 h1], tx := .fetch 0x80 48 (some { entry := .revoked 0 h1, inQueue := true }) })) 0 =
      false := by decide
def requested (bs : List Byte) (credits : Nat) : State :=
  State.reset.updPort 0 fun p => { p with tx := .request 0x40 (frameBits bs) (8 * bs.length) false, credits }
theorem witness_QueryRequestEnd_taken : (requested [0xa1, 0x17, 0x22, 0x21] 1).rstLow = false ∧
    ((requested [0xa1, 0x17, 0x22, 0x21] 1).port 0).tx = .request 0x40 (frameBits [0xa1, 0x17, 0x22, 0x21]) 32 false ∧
    ((requested [0xa1, 0x17, 0x22, 0x21] 1).port 0).credits ≠ 0 ∧ ((0x17 : Byte).toNat, 4) ∈ [(0x16, 4), (0x17, 4)] ∧
    ((requested [0xa1, 0x17, 0x22, 0x21] 0).port 0).credits = 0 := by decide
theorem witness_QueryRequestEnd_malformed : ((requested [0xa1, 0x1b] 1).port 0).tx = .request 0x40 (frameBits [0xa1, 0x1b]) 16 false ∧
    ((requested [0xa1, 0x1b, 0x22, 0x21] 1).port 0).tx = .request 0x40 (frameBits [0xa1, 0x1b, 0x22, 0x21]) 32 false ∧
    ((0x1b : Byte).toNat, 4) ∉ [(0x10, 12), (0x11, 10), (0x12, 5), (0x13, 10), (0x14, 10), (0x15, 5), (0x16, 4), (0x17, 4),
      (0x18, 7), (0x19, 13), (0x1a, 5)] ∧
    ((State.reset.updPort 0 fun p => { p with tx := .request 0 (List.replicate 104 true) 112 false }).port 0).tx =
      .request 0 (List.replicate 104 true) 112 false ∧ (List.replicate 104 true).length ≤ 104 ∧
    ((State.reset.updPort 0 fun p => { p with tx := .kind 0 [] }).port 0).tx = .kind 0 [] ∧
    ((State.reset.updPort 0 fun p => { p with tx := .kind 0 [true] }).port 0).tx = .kind 0 [true] := by decide
def fetching (e : ResponseEntry) (k : Nat) (inQueue : Bool) : State :=
  State.reset.updPort 0 fun p => { p with responses := [e], tx := .fetch 0x80 k (some { entry := e, inQueue }) }
theorem witness_QueryFetchEnd : (fetching (.revoked 0 h1) 48 true).rstLow = false ∧
    ((fetching (.revoked 0 h1) 48 true).port 0).tx = .fetch 0x80 48 (some { entry := .revoked 0 h1, inQueue := true }) ∧
    ((fetching (.revoked 0 h1) 48 true).port 0).responses = [.revoked 0 h1] ∧
    8 * (ResponseEntry.revoked 0 h1).bytes.length ≤ 48 ∧ 47 < 8 * (ResponseEntry.revoked 0 h1).bytes.length ∧
    8 * (ResponseEntry.response .cancel 1 (.refused .notFound h1)).bytes.length ≤ 56 ∧
    (∀ i h, ResponseEntry.response .cancel 1 (.refused .notFound h1) ≠ .revoked i h) ∧
    ((State.reset.updPort 0 fun p => { p with tx := .fetch 0x40 8 none }).port 0).tx = .fetch 0x40 8 none := by
  refine ⟨by decide, by decide, by decide, by decide, by decide, by decide, fun _ _ e => (by cases e), by decide⟩
theorem witness_FetchTakesTheHead : ((State.reset.updPort 0 fun p => { p with responses := [.revoked 0 h1] }).port 0).tx =
    .idle ∧ (List.replicate 48 true).length = 8 * (ResponseEntry.revoked 0 h1).bytes.length := by decide
theorem witness_DataOutPins : (fetching (.revoked 0 h1) 47 true).rstLow = false ∧ (State.reset.port 0).tx = .idle ∧
    State.reset.mgmt.tx = .idle ∧
    ((fetching (.revoked 0 h1) 47 true).port 0).tx = .fetch 0x80 47 (some { entry := .revoked 0 h1, inQueue := true }) ∧
    47 = 8 * 5 + 7 ∧ (ResponseEntry.revoked 0 h1).bytes[5]? = some 1 ∧ 8 * (ResponseEntry.revoked 0 h1).bytes.length ≤ 48 ∧
    (HeldResponse.mk .enable (.ok .none)).bytes[1]? = some 0x43 ∧ [true, false].length < 8 ∧
    ({ State.reset with mgmt := { MgmtPort.initial with tx := .blocked } } : State).mgmt.tx = .blocked ∧
    ((State.reset.updPort 3 fun p => { p with tx := .blocked }).port 3).tx = .blocked ∧
    ({ State.reset with mgmt := { MgmtPort.initial with tx := .request 0 [true] 8 true } } : State).mgmt.tx =
      .request 0 [true] 8 true := by decide
theorem test_data_out_of_a_blocked_port : queryDataOut (State.reset.updPort 3 fun p => { p with tx := .blocked }) 3 true =
    some false := by decide
theorem test_data_out_deselected_in_reset : queryDataOut (hardReset (fetching (.revoked 0 h1) 47 true)) 0 false = none := by
  decide
theorem witness_ResponseLayout : ∃ e, e = ResponseEntry.response .cancel 0x22 (.ok (.cancel .wake 5)) := ⟨_, rfl⟩
theorem witness_RequestFramesReadBack : (MgmtRequest.configure h1 (List.replicate 14 { id := 1, value := 2 })).encodable =
    true ∧ (MgmtRequest.setInputOffset 0 (-8388608)).encodable = true ∧
    (MgmtRequest.setAnchor h1 0 2147483647).encodable = true := by decide
theorem witness_RequestsAreReceived : State.reset.rstLow = false ∧ (State.reset.port 0).tx = .idle ∧
    (State.reset.port 0).credits ≠ 0 ∧ State.reset.mgmt.tx = .idle ∧ State.reset.mgmt.req = .none ∧
    readPortFrame [0xa1, 0x10, 7, 1, 1, 0xfe, 1, 2, 3, 4, 5, 6] = some { tag := 7, request := .convert h1 .now } ∧
    readMgmtFrame [0xa1, 0x5a, 0xff, 0xff] = some (.setMask 0x3fff) ∧ [0xa1, 0x5a, 0xff, 0xff].length ≤ 74 := by decide
def granting : State := { grant 0 (.status h1) State.reset with qePtr := 1 }
theorem witness_GrantOrder : granting.rstLow = false ∧
    (granting.port 0).requests = { tag := 7, request := .status h1 } :: [] ∧
    (∀ m : PortNo, (m - granting.qePtr).val < (0 - granting.qePtr).val → (granting.port m).requests = []) ∧
    (Instr.status, PortCode.status) ∈ evaluations ∧ PortCode.status = (PortRequest.status h1).code := by decide

/-- Section 3's example: clock 0x0405, alias 0x0903 of it, clock 0x0C01 RESERVED behind alias 0x0B01, 0x0E02 DRAINING. -/
def resolving : State :=
  ((((State.reset.putSlot 4 { gen := 5, notices := 0, content := .active .live (.ofClock { worked .locked with
      aliasCount := 1
      cfg := { ClockConfig.default with level := 0, useSet := { convert := true, due := true, wake := false, lease := false } } }) }).putSlot
    9 { gen := 3, notices := 0, content := .active .live (.ofAlias { AliasRecord.created { slot := 4, gen := 5 } with
      level := 2, useSet := { convert := true, due := true, wake := true, lease := false } }) }).putSlot
    11 { gen := 1, notices := 0, content := .active .live (.ofAlias (AliasRecord.created { slot := 12, gen := 1 })) }).putSlot
    12 { gen := 1, notices := 0, content := .active .reserved (.ofClock { ClockRecord.created with aliasCount := 1 }) }).putSlot
    14 { gen := 2, notices := 0, content := .active (.draining 5) (.ofClock { worked .locked with leaseCount := 1 }) }

def resolved (u : UseKind) (fresh : Bool) (i : SlotNo) (g : BitVec 8) : Option (Status × Handle) :=
  match resolve resolving 2 u fresh { slot := i, gen := g } with
  | .fail st f => some (st, f)
  | .pass _ => none

theorem witness_Resolution :
    resolved .convert false 0 0 = some (.nullHandle, { slot := 0, gen := 0 }) ∧
    resolved .convert false 9 2 = some (.staleHandle, { slot := 9, gen := 2 }) ∧
    resolved .convert false 12 1 = some (.notLive, { slot := 12, gen := 1 }) ∧
    resolved .convert false 4 5 = some (.level, { slot := 4, gen := 5 }) ∧
    resolved .convert false 9 3 = none ∧
    resolved .due false 11 1 = some (.notLive, { slot := 12, gen := 1 }) ∧
    resolved .lease true 9 3 = some (.use, { slot := 9, gen := 3 }) ∧
    resolved .wake true 9 3 = some (.use, { slot := 4, gen := 5 }) ∧
    resolved .wake true 14 2 = some (.draining, { slot := 14, gen := 2 }) ∧
    resolved .convert false 14 2 = none := by decide
theorem witness_TimingQueries : (grant 0 (.due h1 500024750250) (oneClock .locked)).grants 0 7 (.due h1 500024750250) ∧
    (grant 0 (.convert h1 .now) (oneClock .locked)).grants 0 7 (.convert h1 .now) ∧
    (grant 0 (.convert h1 (.at 5)) (oneClock .locked)).grants 0 7 (.convert h1 (.at 5)) ∧
    (grant 0 (.invert h1 5) (oneClock .locked)).grants 0 7 (.invert h1 5) ∧
    (grant 0 (.status h1) (oneClock .unset)).grants 0 7 (.status h1) ∧
    resolve (grant 0 (.due h1 500024750250) (oneClock .locked)) 0 .due false h1 =
      .pass { named := h1, phase := .live, eff := h1, clock := worked .locked } ∧
    resolve (grant 0 (.due h1 500024750250) (oneClock .stale)) 0 .due false h1 =
      .pass { named := h1, phase := .live, eff := h1, clock := worked .stale } ∧
    resolve (grant 0 (.due h1 500024750250) State.reset) 0 .due false h1 = .fail .staleHandle h1 ∧
    (worked .locked).lead 500024750250 1025000000 = some (-250000) ∧
    (worked .locked).lead 500024750249 1025000000 = some (-250001) ∧
    (worked .locked).lead 500050000250 1025000000 = some 25000000 ∧
    (worked .locked).projection 69719476737 = none :=
  ⟨⟨rfl, by decide⟩, ⟨rfl, by decide⟩, ⟨rfl, by decide⟩, ⟨rfl, by decide⟩, ⟨rfl, by decide⟩, by decide⟩
theorem witness_LeaseAndRelease_lease : (grant 0 (.lease h1) (oneClock .locked)).grants 0 7 (.lease h1) ∧
    resolve (grant 0 (.lease h1) (oneClock .locked)) 0 .lease true h1 =
      .pass { named := h1, phase := .live, eff := h1, clock := worked .locked } ∧
    (grant 0 (.lease h1) (oneClock .locked)).current h1 = some (.live, .ofClock (worked .locked)) ∧
    ((grant 0 (.lease h1) (oneClock .locked)).port 0).leaseUse < 4 ∧
    (grant 0 (.lease h1) (oneClock .locked)).lease 0 = none ∧
    4 ≤ (((grant 0 (.lease h1) (oneClock .locked)).updPort 0 fun p => { p with leaseUse := 4 }).port 0).leaseUse :=
  ⟨⟨rfl, by decide⟩, by decide⟩
theorem witness_LeaseAndRelease_release : (grant 0 (.release 0) leased).grants 0 7 (.release 0) ∧
    (grant 0 (.release 0) leased).lease 0 = some { port := 0, named := h1, grant := 250000000 } ∧
    (grant 0 (.release 0) leased).current h1 = some (.draining 1025000000, .ofClock { worked .locked with
      leaseCount := 1, active := none, silence := none }) ∧
    (grant 0 (.release 15) leased).grants 0 7 (.release 15) ∧ (grant 0 (.release 15) leased).lease 15 = none ∧
    Phase.live.isDraining = false := ⟨⟨rfl, by decide⟩, by decide, by decide, ⟨rfl, by decide⟩, by decide⟩
def drainingAlias : State :=
  grant 0 (.release 2) ((withAlias (.draining 1025000000) { AliasRecord.created h1 with leaseCount := 1 }).putLease 2
    (some { port := 0, named := h3, grant := 5 }))
theorem witness_LeaseAndRelease_alias : drainingAlias.grants 0 7 (.release 2) ∧
    drainingAlias.lease 2 = some { port := 0, named := h3, grant := 5 } ∧
    drainingAlias.current h3 = some (.draining 1025000000, .ofAlias { AliasRecord.created h1 with leaseCount := 1 }) ∧
    drainingAlias.current h1 = some (.live, .ofClock { worked .locked with aliasCount := 1 }) :=
  ⟨⟨rfl, by decide⟩, by decide⟩
def fromPort (s : State) : State := grant 1 (.retarget h3 h2) s
theorem witness_AliasRequestChecks : (fromPort State.reset).rstLow = false ∧
    (fromPort (withAlias .live (AliasRecord.created h1))).granted = some (1, { tag := 7, request := .retarget h3 h2 }) ∧
    (ask (.retarget h3 h2) State.reset).mgmt.req = .inProgress (.retarget h3 h2) ∧
    (fromPort State.reset).current h3 = none ∧
    (fromPort (withAlias .reserved (AliasRecord.created h1))).current h3 = some (.reserved, .ofAlias (AliasRecord.created h1)) ∧
    (fromPort (place 3 .live (.ofClock ClockRecord.created) State.reset)).current h3 =
      some (.live, .ofClock ClockRecord.created) ∧
    ((fromPort State.reset).updPort 1 fun p => { p with level := 1 }).port 1 ≠ (fromPort State.reset).port 1 := by decide
theorem witness_AliasRequestChecks_target :
    (fromPort (place 3 .live (.ofAlias (AliasRecord.created h1)) State.reset)).current h2 = none ∧
    (fromPort (place 2 .live (.ofAlias (AliasRecord.created h1)) (withAlias .live (AliasRecord.created h1)))).current h2 =
      some (.live, .ofAlias (AliasRecord.created h1)) ∧
    (fromPort (place 2 (.draining 9) (.ofClock (worked .locked)) (withAlias .live (AliasRecord.created h1)))).current h2 =
      some (.draining 9, .ofClock (worked .locked)) ∧
    (fromPort (withAlias (.draining 9) (AliasRecord.created h1))).current h3 =
      some (.draining 9, .ofAlias (AliasRecord.created h1)) ∧
    (fromPort (withAlias (.draining 9) (AliasRecord.created h1))).current h2 = some (.live, .ofClock (worked .locked)) ∧
    (fromPort splicing).current h3 = some (.live, .ofAlias { AliasRecord.created h1 with pendingSplice := some 0 }) := by
  decide
def idleAlias : State := withAlias .live (AliasRecord.created h1)
theorem idleAlias_records : idleAlias.rstLow = false ∧ idleAlias.current h3 = some (.live, .ofAlias (AliasRecord.created h1)) ∧
    idleAlias.current h2 = some (.live, .ofClock (worked .locked)) ∧
    idleAlias.current h1 = some (.live, .ofClock { worked .locked with aliasCount := 1 }) ∧
    Phase.live.isDraining = false ∧ (AliasRecord.created h1).pendingSplice = none := by decide
theorem witness_AliasMovesAtOnce_port : (grant 1 (.splice h3 h2 1025000000) idleAlias).rstLow = false ∧
    (grant 1 (.splice h3 h2 1025000000) idleAlias).current h3 = some (.live, .ofAlias (AliasRecord.created h1)) ∧
    (grant 1 (.splice h3 h2 1025000000) idleAlias).current h2 = some (.live, .ofClock (worked .locked)) ∧
    (grant 1 (.splice h3 h2 1025000000) idleAlias).current h1 =
      some (.live, .ofClock { worked .locked with aliasCount := 1 }) ∧
    ((grant 1 (.splice h3 h2 1025000000) idleAlias).port 1).level = 0 ∧
    timeDiff (grant 1 (.splice h3 h2 1025000000) idleAlias).lt 1025000000 ≤ 0 ∧
    (grant 1 (.splice h3 h2 1025000000) idleAlias).granted =
      some (1, { tag := 7, request := .splice h3 h2 1025000000 }) ∧
    (grant 1 (.retarget h3 h1) idleAlias).granted = some (1, { tag := 7, request := .retarget h3 h1 }) := by decide
theorem witness_AliasMovesAtOnce_management : (ask (.splice h3 h1 1025000000) idleAlias).rstLow = false ∧
    (ask (.splice h3 h1 1025000000) idleAlias).current h3 = some (.live, .ofAlias (AliasRecord.created h1)) ∧
    (ask (.splice h3 h1 1025000000) idleAlias).current h1 =
      some (.live, .ofClock { worked .locked with aliasCount := 1 }) ∧
    (ask (.splice h3 h1 1025000000) idleAlias).mgmt.req = .inProgress (.splice h3 h1 1025000000) ∧
    (ask (.retarget h3 h1) idleAlias).mgmt.req = .inProgress (.retarget h3 h1) := by decide
theorem witness_SpliceIsArmed : 0 < timeDiff (grant 1 (.splice h3 h2 1025000001) idleAlias).lt 1025000001 ∧
    (grant 1 (.splice h3 h2 1025000001) idleAlias).granted =
      some (1, { tag := 7, request := .splice h3 h2 1025000001 }) ∧
    (grant 1 (.splice h3 h2 1025000001) idleAlias).current h3 = some (.live, .ofAlias (AliasRecord.created h1)) ∧
    (grant 1 (.splice h3 h2 1025000001) idleAlias).current h2 = some (.live, .ofClock (worked .locked)) ∧
    (grant 1 (.splice h3 h2 1025000001) idleAlias).deadlines.length < 48 ∧
    (ask (.splice h3 h2 1025000001) idleAlias).mgmt.req = .inProgress (.splice h3 h2 1025000001) ∧
    48 ≤ (withEntries (List.replicate 48 { due := 9, order := 0, work := .wake 0 0 h1 h1 0 })
      (ask (.splice h3 h2 1025000001) idleAlias)).deadlines.length := by decide
theorem witness_Unsplice_port : (grant 1 (.unsplice h3) splicing).rstLow = false ∧
    (grant 1 (.unsplice h3) splicing).current h3 =
      some (.live, .ofAlias { AliasRecord.created h1 with pendingSplice := some 0 }) ∧
    ((grant 1 (.unsplice h3) splicing).port 1).level = 0 ∧
    (grant 1 (.unsplice h3) splicing).granted = some (1, { tag := 7, request := .unsplice h3 }) ∧
    (grant 1 (.unsplice h3) splicing).entryAt 0 =
      some { due := 1025000000, order := 0, work := .splice (.port 3 0x60) h3 h2 } ∧
    (grant 1 (.unsplice h3) splicing).current h2 = some (.live, .ofClock (worked .locked)) ∧
    (grant 1 (.unsplice h3) idleAlias).granted = some (1, { tag := 7, request := .unsplice h3 }) := by decide
theorem witness_Unsplice_management : (ask (.unsplice h3) managedSplice).rstLow = false ∧
    (ask (.unsplice h3) managedSplice).mgmt.req = .inProgress (.unsplice h3) ∧
    (ask (.unsplice h3) managedSplice).entryAt 0 =
      some { due := 1025000000, order := 0, work := .splice .management h3 h2 } ∧
    (ask (.unsplice h3) managedSplice).current h2 = some (.live, .ofClock (worked .locked)) := by decide

def mgmtRequested (bs : List Byte) (req : RequestState) : State :=
  { State.reset with mgmt := { tx := .request 0 (frameBits bs) (8 * bs.length) false, req, collide := false } }
theorem witness_ManagementTransactions : State.reset.rstLow = false ∧ State.reset.mgmt.tx = .idle ∧
    (mgmtRequested [0xa1, 0x50, 3, 0] .none).mgmt.tx = .request 0 (frameBits [0xa1, 0x50, 3, 0]) 32 false ∧
    ((0x50 : Byte).toNat, 4) ∈ [(0x50, 4)] ∧ (mgmtRequested [0xa1, 0x50, 3, 0] .none).mgmt.req = .none ∧
    (mgmtRequested [0xa1, 0x50, 3, 0] (.inProgress .purge)).mgmt.req ≠ .none ∧
    (mgmtRequested [0xa1] .none).mgmt.tx = .request 0 (frameBits [0xa1]) 8 false ∧
    ((0x42 : Byte).toNat, 74) ∈ (List.range 15).map (fun k => (0x42, 4 + 5 * k)) ∧ 8 * 74 ≤ 592 ∧
    8 * (HeldResponse.mk .enable (.ok .none)).bytes.length ≤ 40 ∧
    39 < 8 * (HeldResponse.mk .enable (.ok .none)).bytes.length := by decide
theorem witness_ManagementRefusals : (ask (.enable h1) (oneClock .locked)).rstLow = false ∧
    (ask (.enable h1) (oneClock .locked)).mgmt.req = .inProgress (.enable h1) ∧
    (ask (.enable h1) (oneClock .locked)).current h1 = some (.live, .ofClock (worked .locked)) ∧
    (ask (.enable h1) State.reset).current h1 = none ∧
    (ask (.createAlias h1) leased).mgmt.req = .inProgress (.createAlias h1) ∧
    (ask (.createAlias h1) leased).current h1 = some (.draining 1025000000, .ofClock { worked .locked with
      leaseCount := 1, active := none, silence := none }) ∧
    (ask (.setAnchor h3 0 1048577) idleAlias).current h3 = some (.live, .ofAlias (AliasRecord.created h1)) ∧
    (1048576 : Int) < 1048577 ∧ (3 : Byte).toNat < 4 ∧ (ask (.selectSource h1 .primary) leased).roleBound h1 .primary = false ∧
    (after .enable (ask (.enable h1) (oneClock .locked))).mgmt.req =
      .held { code := .enable, answer := .refused .notLive h1 } ∧ (Instr.enable, MgmtCode.enable) ∈ ownerEvents := by decide
theorem witness_ManagementRefusals_full_table :
    ∀ i, i ≠ 0 → (({ State.reset with slots := Vector.replicate 256 ⟨1, .retired .clockKind, 0⟩ } : State).slot i).content ≠
      .free := by
  intro i _
  simp [State.slot]
theorem witness_CreationAndEnabling : (ask .createClock (oneClock .locked)).asked .createClock ∧
    ((oneClock .locked).slot 2).content = .free ∧ (∀ j : SlotNo, j ≠ 0 → j < 2 → ((oneClock .locked).slot j).content ≠ .free) ∧
    (place 1 .reserved (.ofClock (worked .acquiring)) State.reset).current h1 = some (.reserved, .ofClock (worked .acquiring)) :=
  ⟨⟨rfl, rfl⟩, by decide, by decide, by decide⟩
def configuring (cs : List Change) : State := ask (.configure h1 cs) (oneClock .locked)
theorem witness_Configure_clock : (configuring [{ id := 3, value := 65535 }, { id := 4, value := 65536 }]).asked
      (.configure h1 [{ id := 3, value := 65535 }, { id := 4, value := 65536 }]) ∧
    (configuring [{ id := 3, value := 65535 }, { id := 4, value := 65536 }]).current h1 =
      some (.live, .ofClock (worked .locked)) ∧ (worked .locked).legal .live = true ∧
    [({ id := 3, value := 65535 } : Change), { id := 4, value := 65536 }].Pairwise (fun x y => x.id ≠ y.id) ∧
    1 ≤ (65535 : BitVec 32).toNat ∧ (65535 : BitVec 32).toNat ≤ 65535 ∧ (65535 : Nat) < 65536 ∧
    ¬[({ id := 3, value := 1 } : Change), { id := 3, value := 2 }].Pairwise (fun x y => x.id ≠ y.id) :=
  ⟨⟨rfl, rfl⟩, by decide⟩
theorem witness_Configure_alias : (ask (.configure h3 [{ id := 13, value := 1 }]) idleAlias).asked
      (.configure h3 [{ id := 13, value := 1 }]) ∧
    (ask (.configure h3 [{ id := 13, value := 1 }]) idleAlias).current h3 =
      some (.live, .ofAlias (AliasRecord.created h1)) ∧
    (∃ x ∈ [({ id := 14, value := 1 } : Change)], 3 ≤ x.id.toNat ∧ x.id.toNat ≤ 14 ∧ x.id.toNat ≠ 13) :=
  ⟨⟨rfl, rfl⟩, by decide⟩
theorem witness_RetirementAndDrain_refusals : (ask (.retire h1 .normal) leased).rstLow = false ∧
    (ask (.retire h1 .normal) leased).mgmt.req = .inProgress (.retire h1 .normal) ∧
    (ask (.retire h1 .normal) leased).current h1 = some (.draining 1025000000, .ofClock { worked .locked with
      leaseCount := 1, active := none, silence := none }) ∧
    (ask (.retire h1 .immediate) idleAlias).current h1 = some (.live, .ofClock { worked .locked with aliasCount := 1 }) := by
  decide
theorem witness_RetirementAndDrain_clock : (ask (.retire h1 .immediate) leased).rstLow = false ∧
    (ask (.retire h1 .immediate) leased).mgmt.req = .inProgress (.retire h1 .immediate) ∧
    (ask (.retire h1 .immediate) leased).current h1 = some (.draining 1025000000, .ofClock { worked .locked with
      leaseCount := 1, active := none, silence := none }) ∧ (worked .locked).aliasCount = 0 := by decide
theorem witness_RetirementAndDrain_splicing_alias : (ask (.retire h3 .normal) splicing).rstLow = false ∧
    (ask (.retire h3 .normal) splicing).mgmt.req = .inProgress (.retire h3 .normal) ∧
    (ask (.retire h3 .normal) splicing).current h3 =
      some (.live, .ofAlias { AliasRecord.created h1 with pendingSplice := some 0 }) ∧
    (ask (.retire h3 .normal) splicing).entryAt 0 =
      some { due := 1025000000, order := 0, work := .splice (.port 3 0x60) h3 h2 } ∧
    (ask (.retire h3 .normal) splicing).current h2 = some (.live, .ofClock (worked .locked)) := by decide
theorem witness_RetirementAndDrain_alias : (ask (.retire h3 .normal) idleAlias).rstLow = false ∧
    (ask (.retire h3 .normal) idleAlias).mgmt.req = .inProgress (.retire h3 .normal) ∧
    (ask (.retire h3 .normal) idleAlias).current h3 = some (.live, .ofAlias (AliasRecord.created h1)) ∧
    (ask (.retire h3 .normal) idleAlias).current h1 = some (.live, .ofClock { worked .locked with aliasCount := 1 }) ∧
    drainingAlias.current h3 = some (.draining 1025000000, .ofAlias { AliasRecord.created h1 with leaseCount := 1 }) ∧
    h3 = drainingAlias.handleOf h3.slot ∧ 0 ≤ timeDiff 1025000000 drainingAlias.lt ∧
    0 ≤ timeDiff 1025000000 leased.lt := by decide
theorem witness_BindAndUnbind_bind : (ask (.bind 0 9 h1 .standby) bound5).asked (.bind 0 9 h1 .standby) ∧
    (ask (.bind 0 9 h1 .standby) bound5).current h1 = some (.live, .ofClock (worked .locked)) ∧
    (0 : InputNo).val = (0 : Byte).toNat ∧ Phase.live.isDraining = false ∧
    (∀ b ∈ (ask (.bind 0 9 h1 .standby) bound5).bindings, ¬(b.input.val = (0 : Byte).toNat ∧ b.tag = 9)) ∧
    (ask (.bind 0 9 h1 .standby) bound5).roleBound h1 .standby = false ∧
    (ask (.bind 0 9 h1 .primary) bound5).roleBound h1 .primary = true ∧
    (ask (.bind 0 9 h1 .standby) bound5).bindings.length < 64 ∧
    (∃ b ∈ bound5.bindings, b.input.val = (0 : Byte).toNat ∧ b.tag = 5) ∧ 4 ≤ (4 : Byte).toNat ∧
    64 ≤ ({ oneClock .locked with
      bindings := List.replicate 64 { input := 1, tag := 1, clock := h2, role := .primary } } : State).bindings.length ∧
    ({ oneClock .locked with
      bindings := List.replicate 64 { input := 1, tag := 1, clock := h2, role := .primary } } : State).roleBound h1 .primary =
      false := ⟨⟨rfl, rfl⟩, by decide⟩
theorem witness_BindAndUnbind_unbind : (ask (.unbind 0 5) bound5).asked (.unbind 0 5) ∧
    (ask (.unbind 0 5) bound5).binding 0 5 = some { input := 0, tag := 5, clock := h1, role := .primary } ∧
    (ask (.unbind 0 5) bound5).current h1 = some (.live, .ofClock (worked .locked)) ∧
    (worked .locked).active = some .primary ∧ (ask (.unbind 0 5) bound5).roleBound h1 Role.primary.other = false ∧
    (ask (.unbind 0 5) (silent 0)).binding 0 5 = some { input := 0, tag := 5, clock := h1, role := .primary } ∧
    (ask (.unbind 0 5) (silent 0)).roleBound h1 Role.primary.other = true ∧
    (ask (.unbind 1 6) (silent 0)).binding 1 6 = some { input := 1, tag := 6, clock := h1, role := .standby } ∧
    (worked .locked).active ≠ some .standby ∧
    (∀ b ∈ (ask (.unbind 3 5) bound5).bindings, ¬(b.input.val = (3 : Byte).toNat ∧ b.tag = 5)) := ⟨⟨rfl, rfl⟩, by decide⟩
theorem witness_SettingsAndReads : (ask (.setInputOffset 3 1048575) State.reset).asked (.setInputOffset 3 1048575) ∧
    (ask (.setPortLevel 3 3) State.reset).asked (.setPortLevel 3 3) ∧ (ask (.setMask 7) State.reset).asked (.setMask 7) ∧
    (ask (.readRecord 3) splicing).asked (.readRecord 3) ∧ (ask (.readPort 3) State.reset).asked (.readPort 3) ∧
    (ask .readIdentity State.reset).asked .readIdentity ∧ (ask .readTime State.reset).asked .readTime :=
  ⟨⟨rfl, rfl⟩, ⟨rfl, rfl⟩, ⟨rfl, rfl⟩, ⟨rfl, rfl⟩, ⟨rfl, rfl⟩, ⟨rfl, rfl⟩, rfl, rfl⟩

/-! ### States that meet the sound-state properties: one LIVE clock holding a lease of port 0 -/

def leasing : State :=
  ((place 1 .live (.ofClock { worked .locked with leaseCount := 1, active := none }) { State.reset with lt := 1025000000 }).putLease
    0 (some { port := 0, named := h1, grant := 250000000 })).updPort 0 fun p => { p with leaseUse := 1 }

theorem leasing_current {h : Handle} {ph : Phase} {r : Record} (e : leasing.current h = some (ph, r)) :
    h = h1 ∧ ph = .live ∧ r = .ofClock { worked .locked with leaseCount := 1, active := none } := by
  obtain ⟨-, -, hg, hc⟩ := State.current_eq_some.1 e
  by_cases hs : h.slot = 1
  · rw [hs] at hg hc
    have eg : (leasing.slot 1).gen = 1 := by decide
    have ec : (leasing.slot 1).content =
        .active .live (.ofClock { worked .locked with leaseCount := 1, active := none }) := by decide
    rw [eg] at hg
    rw [ec] at hc
    cases hc
    refine ⟨?_, rfl, rfl⟩
    cases h
    simp_all [h1]
  · exfalso
    have : (leasing.slot h.slot).content = .free := by
      have n : ¬(1 : Nat) = h.slot.val := fun q => hs (Fin.ext q.symm)
      simp [leasing, place, State.slot, State.putSlot, State.putLease, State.updPort, State.reset, n,
        Slot.initial]
    rw [this] at hc
    cases hc

theorem leasing_slots_legal : SlotsLegal leasing := by
  refine ⟨fun i => ?_, by decide⟩
  by_cases hi : i = 1
  · subst hi; decide
  · have n : ¬(1 : Nat) = i.val := fun q => hi (Fin.ext q.symm)
    have : leasing.slot i = Slot.initial := by
      simp [leasing, place, State.slot, State.putSlot, State.putLease, State.updPort, State.reset, n]
    rw [this]
    decide

theorem leasing_leases_tied : LeasesTied leasing := by
  refine ⟨fun h ph r e => ?_, fun k l e => ?_⟩
  · obtain ⟨rfl, rfl, rfl⟩ := leasing_current e
    decide
  · have : ∀ k : LeaseNo, leasing.lease k = if k = 0 then some { port := 0, named := h1, grant := 250000000 } else none := by
      decide
    rw [this] at e
    split at e
    · cases e
      exact ⟨.live, _, (by decide : leasing.current h1 = some (.live, .ofClock { worked .locked with
        leaseCount := 1, active := none })), by decide⟩
    · cases e

theorem leasing_bindings_tied : BindingsTied leasing := by
  refine ⟨by decide, by decide, by decide, fun b m => ?_, fun h ph c e => ?_⟩
  · cases (show b ∈ ([] : List Binding) from m)
  obtain ⟨rfl, rfl, hc⟩ := leasing_current e
  cases hc
  refine ⟨?_, ?_, by decide⟩
  · intro r hr
    cases hr
  · intro _ r
    cases r <;> decide

theorem leasing_deadlines_tied : DeadlinesTied leasing := by
  refine ⟨by decide, by decide, fun x m => ?_, fun h ph c e => ?_, fun h ph a e => ?_⟩
  · cases (show x ∈ ([] : List DeadlineEntry) from m)
  · obtain ⟨rfl, rfl, hc⟩ := leasing_current e
    cases hc
    exact ⟨⟨by decide, by decide⟩, by decide⟩
  · obtain ⟨_, _, hc⟩ := leasing_current e
    cases hc

theorem leasing_parts_legal : PartsLegal leasing :=
  ⟨⟨by decide, by decide, by decide, by decide⟩, fun h => absurd h (by decide)⟩

theorem witness_PortReset : (ask (.portReset 0) leasing).asked (.portReset 0) ∧ SlotsLegal (ask (.portReset 0) leasing) ∧
    LeasesTied (ask (.portReset 0) leasing) ∧ DeadlinesTied (ask (.portReset 0) leasing) :=
  ⟨⟨rfl, rfl⟩, leasing_slots_legal, leasing_leases_tied, leasing_deadlines_tied⟩
theorem witness_NextNotice : (ask .nextNotice leasing).asked .nextNotice ∧ SlotsLegal (ask .nextNotice leasing) ∧
    PartsLegal (ask .nextNotice leasing) ∧
    (∀ i, ((ask .nextNotice leasing).input i).notices &&& ~~~(ask .nextNotice leasing).mask = 0) :=
  ⟨⟨rfl, rfl⟩, leasing_slots_legal, ⟨leasing_parts_legal.1, fun h => absurd h (by decide)⟩, by decide⟩
theorem witness_Purge : (ask .purge leasing).asked .purge := ⟨rfl, rfl⟩
theorem witness_ManagementTransactions_ready : PartsLegal (ask .readTime leasing) ∧
    exec .readTime (ask .readTime leasing) = .next (after .readTime (ask .readTime leasing)) ∧
    mgmtReady (ask .readTime leasing) = false ∧ mgmtReady (after .readTime (ask .readTime leasing)) = true ∧
    PartsLegal (after .readTime (ask .readTime leasing)) ∧
    mgmtReady (after .hardReset (after .readTime (ask .readTime leasing))) = false :=
  ⟨⟨leasing_parts_legal.1, fun h => absurd h (by decide)⟩, rfl, by decide, by decide,
    ⟨leasing_parts_legal.1, fun h => absurd h (by decide)⟩, by decide⟩
theorem witness_LifecycleMoves : SlotsLegal leasing ∧ LeasesTied leasing ∧
    exec .lclkTick leasing = .next (after .lclkTick leasing) := ⟨leasing_slots_legal, leasing_leases_tied, rfl⟩
theorem witness_DeadlineListStaysInOrder : DeadlinesTied leasing ∧
    leasing.deadlines.Pairwise (fun a b => a.precedes leasing.lt b = true) ∧
    (∀ e ∈ leasing.deadlines, -(2 : Int) ^ 47 < timeDiff leasing.lt e.due) ∧
    exec .lclkTick leasing = .next (after .lclkTick leasing) := ⟨leasing_deadlines_tied, by decide, by decide, rfl⟩
theorem witness_SlotsAndPortsStayLegal : SlotsLegal leasing ∧ PartsLegal leasing ∧
    step { leasing with pending := [.lclkTick] } = .next (after .lclkTick leasing) :=
  ⟨leasing_slots_legal, leasing_parts_legal, rfl⟩
theorem witness_CreditsAndLeaseUseStayBalanced : CreditsBalance leasing ∧ LeaseUseBalance leasing :=
  ⟨(by decide : ∀ n, leasing.unfetched n + (leasing.port n).credits = Config.portCredits),
    (by decide : ∀ n, (leasing.port n).leaseUse =
      leasing.leasesOf n + (leasing.port n).responses.countP ResponseEntry.isRevoked ∧
      (leasing.port n).leaseUse ≤ Config.leaseUseLimit)⟩
theorem witness_LeasesAndBindingsStayTied : SlotsLegal leasing ∧ LeasesTied leasing ∧ BindingsTied leasing :=
  ⟨leasing_slots_legal, leasing_leases_tied, leasing_bindings_tied⟩
theorem witness_DeadlinesStayTied : SlotsLegal leasing ∧ DeadlinesTied leasing :=
  ⟨leasing_slots_legal, leasing_deadlines_tied⟩

end Sys2Proof.Tests
end

section
/-! SUPPORT. The reset pin and the count clock: what HARD_RESET and RESET_RELEASE leave, and that no other command than
LCLK_TICK and HARD_RESET moves LT (R1, R38, R56, R101, R174). -/

namespace Sys2Proof.Machine

/-! ## The reset pin -/

section
variable (s : State) (sfs qcs : BitVec 4) (mcs : Bool)

theorem exec_hardReset : exec .hardReset s = .next (hardReset s) := rfl

theorem exec_resetRelease_low {s : State} (h : s.rstLow = true) :
    exec (.resetRelease sfs qcs mcs) s = .next (releaseReset sfs qcs mcs s) := by
  show Host.Outcome.next (if s.rstLow then releaseReset sfs qcs mcs s else s) = _
  rw [if_pos h]

@[simp] theorem hardReset_lt : (hardReset s).lt = 0 := rfl
@[simp] theorem hardReset_rstLow : (hardReset s).rstLow = true := rfl

@[simp] theorem releaseReset_lt : (releaseReset sfs qcs mcs s).lt = s.lt := rfl
@[simp] theorem releaseReset_rstLow : (releaseReset sfs qcs mcs s).rstLow = false := rfl

/-- The return of RST_N blocks the receivers whose strobe is asserted and changes nothing else of an input (R56). -/
@[simp] theorem input_releaseReset (i : InputNo) : (releaseReset sfs qcs mcs s).input i =
    { s.input i with receiver := if sfs.getLsbD i.val then .blocked else .idle } := by
  simp [releaseReset, State.input]

/-- The return of RST_N blocks the ports whose chip select is asserted and changes nothing else of a port (R101). -/
@[simp] theorem port_releaseReset (n : PortNo) : (releaseReset sfs qcs mcs s).port n =
    { s.port n with tx := if qcs.getLsbD n.val then .blocked else .idle } := by
  simp [releaseReset, State.port, Transaction.released]

/-- With every pin deasserted the release of a hard reset is the model's reset state (log entry 1). -/
theorem releaseReset_hardReset : releaseReset 0 0 false (hardReset s) = { State.reset with pending := s.pending } := by
  have hi : (releaseReset 0 0 false (hardReset s)).inputs = State.reset.inputs := by
    ext i hlt
    simpa [State.input, hardReset, State.reset, Input.initial] using
      input_releaseReset (hardReset s) 0 0 false ⟨i, hlt⟩
  have hp : (releaseReset 0 0 false (hardReset s)).ports = State.reset.ports := by
    ext i hlt
    simpa [State.port, hardReset, State.reset, Port.initial] using
      port_releaseReset (hardReset s) 0 0 false ⟨i, hlt⟩
  calc releaseReset 0 0 false (hardReset s)
      = { State.reset with
          inputs := (releaseReset 0 0 false (hardReset s)).inputs
          ports := (releaseReset 0 0 false (hardReset s)).ports, pending := s.pending } := rfl
    _ = { State.reset with pending := s.pending } := by rw [hi, hp]

end

/-- Settles O4: the three clauses are what `hardReset` and `releaseReset` write. -/
theorem resetSequence : Obligations.ResetSequence := by
  refine ⟨exec_hardReset, fun s sfs qcs mcs h => ?_, fun s t e => ?_⟩
  · exact ⟨_, exec_resetRelease_low sfs qcs mcs h, rfl,
      input_releaseReset s sfs qcs mcs, port_releaseReset s sfs qcs mcs⟩
  · cases e
    rw [exec_resetRelease_low 0 0 false (hardReset_rstLow s), releaseReset_hardReset]

/-! ## Which operations move LT: none (R1) -/

section
variable (s : State)

/-- A fold of operations that keep LT keeps it. -/
theorem foldl_lt {α : Type} (f : State → α → State) (hf : ∀ s x, (f s x).lt = s.lt) (l : List α) :
    (l.foldl f s).lt = s.lt := by
  induction l generalizing s with
  | nil => rfl
  | cons x l ih => rw [List.foldl_cons, ih, hf]

/-! ### The shared operations -/

@[simp] theorem State.endWake_lt (x : Ending) (e : DeadlineEntry) : (s.endWake x e).lt = s.lt := by
  unfold State.endWake; split <;> simp
@[simp] theorem State.endWakes_lt (h : Handle) (x : Ending) : (s.endWakes h x).lt = s.lt := by
  simp [State.endWakes, foldl_lt]
@[simp] theorem State.revokeLease_lt (h : Handle) (k : LeaseNo) : (State.revokeLease h s k).lt = s.lt := by
  unfold State.revokeLease; (repeat' split) <;> simp
@[simp] theorem State.revokeAll_lt (h : Handle) : (s.revokeAll h).lt = s.lt := by simp [State.revokeAll, foldl_lt]

/-! ### The Reference Intake and its requests -/

@[simp] theorem bindTag_lt (i : Byte) (g : StreamTag) (h : Handle) (r : Role) : (bindTag i g h r s).lt = s.lt := by
  unfold bindTag; split <;> simp
@[simp] theorem removeBinding_lt (b : Binding) : (removeBinding b s).lt = s.lt := by
  unfold removeBinding; dsimp only; split <;> simp
@[simp] theorem unbindTag_lt (i : Byte) (g : StreamTag) : (unbindTag i g s).lt = s.lt := by
  unfold unbindTag; (repeat' split) <;> simp
@[simp] theorem setInputOffset_lt (i : Byte) (o : Int) : (setInputOffset i o s).lt = s.lt := by
  unfold setInputOffset; (repeat' split) <;> simp
@[simp] theorem startFrame_lt (n : InputNo) : (startFrame n s).lt = s.lt := by
  unfold startFrame; split <;> simp
@[simp] theorem sampleInputBit_lt (n : InputNo) (b : Bool) : (sampleInputBit n b s).lt = s.lt := by
  unfold sampleInputBit; split <;> simp
@[simp] theorem holdSample_lt (n : InputNo) (x : Sample) : (holdSample n x s).lt = s.lt := by simp [holdSample]
@[simp] theorem takeFrame_lt (n : InputNo) (k : Nat) (bits : List Bool) : (takeFrame n k bits s).lt = s.lt := by
  unfold takeFrame; (repeat' split) <;> simp
@[simp] theorem endFrame_lt (n : InputNo) : (endFrame n s).lt = s.lt := by unfold endFrame; split <;> simp
@[simp] theorem unblockReceiver_lt (n : InputNo) : (unblockReceiver n s).lt = s.lt := by
  unfold unblockReceiver; split <;> simp

/-! ### The Deadline Unit -/

@[simp] theorem recomputeWake_lt (c : ClockRecord) (e : DeadlineEntry) : (recomputeWake c s e).lt = s.lt := by
  unfold recomputeWake; (repeat' split) <;> simp
@[simp] theorem recomputeAll_lt (h : Handle) (c : ClockRecord) : (recomputeAll h c s).lt = s.lt := by
  simp [recomputeAll, foldl_lt]
@[simp] theorem takeUpdateNotice_lt (i : SlotNo) : (takeUpdateNotice i s).lt = s.lt := by
  unfold takeUpdateNotice; (repeat' split) <;> simp
@[simp] theorem fireWake_lt (e : DeadlineEntry) (n : PortNo) (g : Byte) (b : Handle) (p : RefValue) :
    (fireWake e n g b p s).lt = s.lt := by
  simp [fireWake]
@[simp] theorem takeWakeExpiry_lt : (takeWakeExpiry s).lt = s.lt := by unfold takeWakeExpiry; (repeat' split) <;> simp
@[simp] theorem executeSplice_lt (e : DeadlineEntry) (o : Origin) (h n : Handle) :
    (executeSplice e o h n s).lt = s.lt := by
  unfold executeSplice; dsimp only; (repeat' split) <;> simp
@[simp] theorem takeSpliceExpiry_lt : (takeSpliceExpiry s).lt = s.lt := by
  unfold takeSpliceExpiry; (repeat' split) <;> simp
@[simp] theorem answerWake_lt (n : PortNo) (g : Byte) (h : Handle) (p : RefValue) (d : WakeDecision) :
    (answerWake n g h p d s).lt = s.lt := by
  unfold answerWake; split <;> simp
@[simp] theorem cancelEntry_lt (e : DeadlineEntry) (n : PortNo) : (cancelEntry e n s).lt = s.lt := by
  unfold cancelEntry; split <;> simp
@[simp] theorem cancelTag_lt (n : PortNo) (g x : Byte) : (cancelTag n g x s).lt = s.lt := by
  unfold cancelTag; split <;> simp

/-! ### The Estimator -/

@[simp] theorem applySample_lt (x : Sample) (c : ClockRecord) : (applySample x c s).lt = s.lt := by
  unfold applySample; dsimp only; split <;> simp
@[simp] theorem useSample_lt (x : Sample) : (useSample x s).lt = s.lt := by
  unfold useSample; dsimp only; (repeat' split) <;> simp
@[simp] theorem takeSample_lt : (takeSample s).lt = s.lt := by unfold takeSample; split <;> simp
@[simp] theorem enterStale_lt (h : Handle) : (enterStale h s).lt = s.lt := by simp [enterStale]
@[simp] theorem silenceExpired_lt (h : Handle) (c : ClockRecord) : (silenceExpired h c s).lt = s.lt := by
  unfold silenceExpired; (repeat' split) <;> simp
@[simp] theorem takeSilenceExpiry_lt (i : SlotNo) : (takeSilenceExpiry i s).lt = s.lt := by
  unfold takeSilenceExpiry; (repeat' split) <;> simp
@[simp] theorem takeHoldoverExpiry_lt (i : SlotNo) : (takeHoldoverExpiry i s).lt = s.lt := by
  unfold takeHoldoverExpiry; (repeat' split) <;> simp
@[simp] theorem setAnchor_lt (h : Handle) (v : RefValue) (r : Int) : (setAnchor h v r s).lt = s.lt := by
  unfold setAnchor; (repeat' split) <;> simp
@[simp] theorem selectSource_lt (h : Handle) (r : Role) : (selectSource h r s).lt = s.lt := by
  unfold selectSource; (repeat' split) <;> simp

/-! ### Leases, retargeting and splicing -/

@[simp] theorem grantLease_lt (k : LeaseNo) (n : PortNo) (g : Byte) (r : Resolved) :
    (grantLease k n g r s).lt = s.lt := by
  simp [grantLease]
@[simp] theorem takeLease_lt (n : PortNo) (g : Byte) (h : Handle) : (takeLease n g h s).lt = s.lt := by
  unfold takeLease; (repeat' split) <;> simp
@[simp] theorem takeRelease_lt (n : PortNo) (g x : Byte) : (takeRelease n g x s).lt = s.lt := by
  unfold takeRelease; split <;> simp
@[simp] theorem moveAlias_lt (h : Handle) (a : AliasRecord) (n : Handle) : (moveAlias h a n s).lt = s.lt := by
  simp [moveAlias]
@[simp] theorem takeRetarget_lt (n : PortNo) (g : Byte) (h x : Handle) : (takeRetarget n g h x s).lt = s.lt := by
  unfold takeRetarget; (repeat' split) <;> simp
@[simp] theorem mgmtRetarget_lt (h x : Handle) : (mgmtRetarget h x s).lt = s.lt := by
  unfold mgmtRetarget; (repeat' split) <;> simp
@[simp] theorem armSplice_lt (o : Origin) (h x : Handle) (d : LocalTime) : (armSplice o h x d s).lt = s.lt := by
  simp [armSplice]
@[simp] theorem takeSplice_lt (n : PortNo) (g : Byte) (h x : Handle) (d : LocalTime) :
    (takeSplice n g h x d s).lt = s.lt := by
  unfold takeSplice; (repeat' split) <;> simp
@[simp] theorem mgmtSplice_lt (h x : Handle) (d : LocalTime) : (mgmtSplice h x d s).lt = s.lt := by
  unfold mgmtSplice; (repeat' split) <;> simp
@[simp] theorem withdrawSplice_lt (h : Handle) (e : DeadlineEntry) (o : Origin) (x : Handle) :
    (withdrawSplice h e o x s).lt = s.lt := by
  simp [withdrawSplice]
@[simp] theorem takeUnsplice_lt (n : PortNo) (g : Byte) (h : Handle) : (takeUnsplice n g h s).lt = s.lt := by
  unfold takeUnsplice; (repeat' split) <;> simp
@[simp] theorem mgmtUnsplice_lt (h : Handle) : (mgmtUnsplice h s).lt = s.lt := by
  unfold mgmtUnsplice; (repeat' split) <;> simp

/-! ### The management port -/

@[simp] theorem selectMgmt_lt : (selectMgmt s).lt = s.lt := by unfold selectMgmt; split <;> simp
@[simp] theorem setPortLevel_lt (p l : Byte) : (setPortLevel p l s).lt = s.lt := by
  unfold setPortLevel; (repeat' split) <;> simp
@[simp] theorem readPort_lt (p : Byte) : (readPort p s).lt = s.lt := by unfold readPort; split <;> simp
@[simp] theorem forgetEntry_lt (e : DeadlineEntry) : (forgetEntry s e).lt = s.lt := by
  unfold forgetEntry; split <;> simp
@[simp] theorem forgetEntries_lt (n : PortNo) : (forgetEntries n s).lt = s.lt := by simp [forgetEntries, foldl_lt]
@[simp] theorem giveUpIfHeldBy_lt (n : PortNo) (k : LeaseNo) : (giveUpIfHeldBy n s k).lt = s.lt := by
  unfold giveUpIfHeldBy; (repeat' split) <;> simp
@[simp] theorem giveUpLeases_lt (n : PortNo) : (giveUpLeases n s).lt = s.lt := by simp [giveUpLeases, foldl_lt]
@[simp] theorem portReset_lt (p : Byte) : (portReset p s).lt = s.lt := by unfold portReset; split <;> simp
@[simp] theorem setMask_lt (k : BitVec 14) : (setMask k s).lt = s.lt := by simp [setMask]
@[simp] theorem nextNotice_lt : (nextNotice s).lt = s.lt := by unfold nextNotice; (repeat' split) <;> simp
@[simp] theorem purgeAll_lt : (purgeAll s).lt = s.lt := by unfold purgeAll; rfl

/-! ### The Table Controller -/

@[simp] theorem createClock_lt : (createClock s).lt = s.lt := by unfold createClock; split <;> simp
@[simp] theorem createAlias_lt (h : Handle) : (createAlias h s).lt = s.lt := by
  unfold createAlias; (repeat' split) <;> simp
@[simp] theorem configure_lt (h : Handle) (cs : List Change) : (configure h cs s).lt = s.lt := by
  unfold configure; (repeat' split) <;> simp
@[simp] theorem enable_lt (h : Handle) : (enable h s).lt = s.lt := by unfold enable; (repeat' split) <;> simp
@[simp] theorem detach_lt (h : Handle) (r : Record) : (detach h r s).lt = s.lt := by
  unfold detach; (repeat' split) <;> simp
@[simp] theorem retireRecord_lt (h : Handle) (ph : Phase) (r : Record) (m : RetireMode) :
    (retireRecord h ph r m s).1.lt = s.lt := by
  unfold retireRecord; dsimp only; (repeat' split) <;> simp
@[simp] theorem retire_lt (h : Handle) (m : RetireMode) : (retire h m s).lt = s.lt := by
  unfold retire; (repeat' split) <;> simp
@[simp] theorem takeDrainExpiry_lt (i : SlotNo) : (takeDrainExpiry i s).lt = s.lt := by
  unfold takeDrainExpiry; (repeat' split) <;> simp
@[simp] theorem readRecord_lt (n : Byte) : (readRecord n s).lt = s.lt := by
  unfold readRecord; split <;> simp

end

/-! ## LT over every command (R1) -/

theorem lt_of_taken {s s' t : State} (h : s'.lt = s.lt) (e : taken s s' = .next t) : t.lt = s.lt := by
  unfold taken at e
  split at e <;> cases e
  · rfl
  · exact h

/-- No command but LCLK_TICK and HARD_RESET changes LT: an edge, an expiry and a take by the operation they are, an
evaluation by the operation its request's code selects. -/
theorem exec_lt {c : Instr} {s t : State} (hc : c ≠ .lclkTick) (hr : c ≠ .hardReset) (e : exec c s = .next t) :
    t.lt = s.lt := by
  cases c with
  | lclkTick => exact absurd rfl hc
  | hardReset => exact absurd rfl hr
  | resetRelease sfs qcs mcs =>
    cases e
    split
    · exact releaseReset_lt s sfs qcs mcs
    · rfl
  | frameStart n => exact lt_of_taken (startFrame_lt s n) e
  | receiverUnblock n => exact lt_of_taken (unblockReceiver_lt s n) e
  | frameEnd n => exact lt_of_taken (endFrame_lt s n) e
  | inputBitSampled n bit => exact lt_of_taken (sampleInputBit_lt s n bit) e
  | sampleTake => exact lt_of_taken (takeSample_lt s) e
  | silenceExpiry i => exact lt_of_taken (takeSilenceExpiry_lt s i) e
  | holdoverExpiry i => exact lt_of_taken (takeHoldoverExpiry_lt s i) e
  | updateNotice i => exact lt_of_taken (takeUpdateNotice_lt s i) e
  | wakeExpiry => exact lt_of_taken (takeWakeExpiry_lt s) e
  | spliceExpiry => exact lt_of_taken (takeSpliceExpiry_lt s) e
  | drainExpiry i => exact lt_of_taken (takeDrainExpiry_lt s i) e
  | querySelect n | queryFetchSelect n | queryRequestEnd n | queryFetchEnd n | queryPortUnblock n =>
    exact lt_of_taken (State.updPort_lt s n _) e
  | queryBitSampled n bit => exact lt_of_taken (State.updPort_lt s n _) e
  | mgmtSelect => exact lt_of_taken (selectMgmt_lt s) e
  | mgmtBitSampled bit => exact lt_of_taken (State.putMgmt_lt s _) e
  | mgmtFetchSelect | mgmtRequestEnd | mgmtFetchEnd | mgmtPortUnblock => exact lt_of_taken (State.putMgmt_lt s _) e
  | convert | invert | status | due | wake | lease | release | cancel | retarget | splice | unsplice =>
    refine lt_of_taken ?_ e
    split <;> simp
  | createClock | createAlias | configure | enable | retire | readRecord | bind | unbind | setInputOffset | setAnchor
  | selectSource | setPortLevel | portReset | readPort | mgmtRetarget | mgmtSplice | mgmtUnsplice | readIdentity
  | readTime | setMask | nextNotice | purge =>
    refine lt_of_taken ?_ e
    split <;> simp

theorem exec_lclkTick_high {s : State} (h : s.rstLow = false) : exec .lclkTick s = .next { s with lt := s.lt + 1 } :=
  taken_high h

theorem exec_lclkTick_low {s : State} (h : s.rstLow = true) : exec .lclkTick s = .next s :=
  taken_low h

/-- Settles O3: the tick with RST_N high and low, the run from a hard reset to the first tick, and `exec_lt` for the
other commands. -/
theorem localTimeCounts : Obligations.LocalTimeCounts := by
  refine ⟨fun s => exec_lclkTick_high, fun s hw h => ?_, fun s => exec_lclkTick_low, fun s sfs qcs mcs => ?_,
    fun c s t => exec_lt⟩
  · have wrap : s.lt + 1 = 0 := by rw [hw]; decide
    rw [exec_lclkTick_high h, wrap]
  · exact ⟨_, _, _, exec_hardReset s, hardReset_lt s, exec_lclkTick_low (hardReset_rstLow s),
      exec_resetRelease_low sfs qcs mcs (hardReset_rstLow s), hardReset_lt s,
      exec_lclkTick_high (releaseReset_rstLow (hardReset s) sfs qcs mcs), rfl⟩

end Sys2Proof.Machine
end

section
/-! SUPPORT. Chapter 1 as whole-number arithmetic: words against integers, the two computing rules of a line, and the
residual of a projected inverse (R3, R6, R8 to R12). -/

namespace Sys2Proof.Machine

/-! ## Words as integers modulo 2^w -/

/-- Moving a word by an integer moves its number by it, modulo 2^w. -/
theorem toNat_add_ofInt {w : Nat} (a : BitVec w) (x : Int) :
    ((a + BitVec.ofInt w x).toNat : Int) = (a.toNat + x) % 2 ^ w := by
  have hx : ((BitVec.ofInt w x).toNat : Int) = x % 2 ^ w := by
    rw [BitVec.toNat_ofInt, Nat.cast_pow, Nat.cast_ofNat]
    exact Int.toNat_of_nonneg (Int.emod_nonneg x (by positivity))
  rw [BitVec.toNat_add, Int.natCast_emod, Nat.cast_add, hx, Nat.cast_pow, Nat.cast_ofNat, Int.add_emod_emod]

/-- The signed difference of two words is their numbers' difference, modulo 2^w. -/
theorem toInt_sub_emod {w : Nat} (u v : BitVec w) : ((v.toNat : Int) - u.toNat - (v - u).toInt) % 2 ^ w = 0 := by
  rw [BitVec.toInt_sub, BitVec.toInt_eq_toNat_bmod, BitVec.toInt_eq_toNat_bmod, ← Int.sub_bmod,
    ← Int.emod_eq_emod_iff_emod_sub_eq_zero]
  exact_mod_cast Int.bmod_emod.symm

/-- A word's difference from another word moved further: the further move, when it fits. -/
theorem toInt_add_ofInt_sub {w : Nat} (hw : 0 < w) (u v : BitVec w) {x : Int} (lo : -2 ^ (w - 1) ≤ x)
    (hi : x < 2 ^ (w - 1)) : (u + BitVec.ofInt w ((v - u).toInt + x) - v).toInt = x := by
  have e : u + BitVec.ofInt w ((v - u).toInt + x) - v = BitVec.ofInt w x := by
    rw [BitVec.ofInt_add, BitVec.ofInt_toInt]
    ring
  rw [e, BitVec.toInt_ofInt_eq_self hw lo hi]

/-! ## Time differences (R3, R6) -/

theorem timeDiff_bounds (a t : LocalTime) : -(2 : Int) ^ 47 ≤ timeDiff a t ∧ timeDiff a t < 2 ^ 47 :=
  ⟨BitVec.le_toInt _, BitVec.toInt_lt⟩

theorem rvDiff_bounds (u v : RefValue) : -(2 : Int) ^ 39 ≤ rvDiff u v ∧ rvDiff u v < 2 ^ 39 :=
  ⟨BitVec.le_toInt _, BitVec.toInt_lt⟩

@[simp] theorem timeDiff_self (a : LocalTime) : timeDiff a a = 0 := by
  simp [timeDiff]

@[simp] theorem rvDiff_self (u : RefValue) : rvDiff u u = 0 := by
  simp [rvDiff]

theorem timeDiff_add_ofInt (a : LocalTime) {x : Int} (lo : -(2 : Int) ^ 47 ≤ x) (hi : x < 2 ^ 47) :
    timeDiff a (a + BitVec.ofInt 48 x) = x := by
  simpa [timeDiff] using toInt_add_ofInt_sub (by decide) a a lo hi

theorem rvDiff_add_ofInt (u v : RefValue) {x : Int} (lo : -(2 : Int) ^ 39 ≤ x) (hi : x < 2 ^ 39) :
    rvDiff v (u + BitVec.ofInt 40 (rvDiff u v + x)) = x :=
  toInt_add_ofInt_sub (by decide) u v lo hi

/-! ## Projection, inverse and lead (R8 to R10, R12) -/

theorem inSpan_iff_natAbs (d : Int) : inSpan d = true ↔ d.natAbs ≤ 2 ^ 36 := by
  rw [inSpan_iff]
  omega

/-- R8 with R9's span: the value of a projection. -/
theorem projection_eq_some_iff {a : Anchor} {r : Int} {t : LocalTime} {p : RefValue} :
    projection a r t = some p ↔ (timeDiff a.lt t).natAbs ≤ 2 ^ 36 ∧
      a.rv + BitVec.ofInt 40 (timeDiff a.lt t + timeDiff a.lt t * r / 2 ^ 32) = p := by
  simp [projection, inSpan_iff_natAbs]

theorem projection_eq_none_iff {a : Anchor} {r : Int} {t : LocalTime} :
    projection a r t = none ↔ 2 ^ 36 < (timeDiff a.lt t).natAbs := by
  simp [projection, inSpan_iff_natAbs]

/-- R10 with R9's span: the value of an inverse. -/
theorem inverse_eq_some_iff {a : Anchor} {r : Int} {v : RefValue} {t : LocalTime} :
    inverse a r v = some t ↔ (rvDiff a.rv v).natAbs ≤ 2 ^ 36 ∧
      a.lt + BitVec.ofInt 48 (rvDiff a.rv v - rvDiff a.rv v * r / 2 ^ 32) = t := by
  simp [inverse, inSpan_iff_natAbs]

theorem inverse_eq_none_iff {a : Anchor} {r : Int} {v : RefValue} :
    inverse a r v = none ↔ 2 ^ 36 < (rvDiff a.rv v).natAbs := by
  simp [inverse, inSpan_iff_natAbs]

theorem projection_anchor (a : Anchor) (r : Int) : projection a r a.lt = some a.rv := by
  simp [projection_eq_some_iff]

theorem inverse_anchor (a : Anchor) (r : Int) : inverse a r a.rv = some a.lt := by
  simp [inverse_eq_some_iff]

/-- The trim's correction over the span is at most 2^24. -/
theorem correction_natAbs_le {d r : Int} (hd : d.natAbs ≤ 2 ^ 36) (lo : -1048576 ≤ r) (hi : r ≤ 1048576) :
    (d * r / 2 ^ 32).natAbs ≤ 2 ^ 24 := by
  have hr : r.natAbs ≤ 2 ^ 20 := by omega
  have hm : (d * r).natAbs ≤ 2 ^ 36 * 2 ^ 20 := by
    rw [Int.natAbs_mul]
    exact Nat.mul_le_mul hd hr
  omega

/-- The inverse lies its formula's distance from the anchor. -/
theorem timeDiff_of_inverse {a : Anchor} {r : Int} {v : RefValue} {t : LocalTime} (h : inverse a r v = some t)
    (lo : -1048576 ≤ r) (hi : r ≤ 1048576) :
    timeDiff a.lt t = rvDiff a.rv v - rvDiff a.rv v * r / 2 ^ 32 := by
  obtain ⟨hd, rfl⟩ := inverse_eq_some_iff.1 h
  have hc := correction_natAbs_le hd lo hi
  exact timeDiff_add_ofInt a.lt (by omega) (by omega)

/-- An inverse lies at most 2^24 ticks beyond the span (R10). -/
theorem timeDiff_of_inverse_natAbs_le {a : Anchor} {r : Int} {v : RefValue} {t : LocalTime}
    (h : inverse a r v = some t) (lo : -1048576 ≤ r) (hi : r ≤ 1048576) :
    (timeDiff a.lt t).natAbs ≤ 2 ^ 36 + 2 ^ 24 := by
  have hd := (inverse_eq_some_iff.1 h).1
  have hc := correction_natAbs_le hd lo hi
  rw [timeDiff_of_inverse h lo hi]
  omega

theorem lead_of_projection {a : Anchor} {r : Int} {p q : RefValue} {t : LocalTime} (h : projection a r t = some q) :
    lead a r p t = some (rvDiff q p) := by
  simp [lead, h]

theorem lead_of_outOfRange {a : Anchor} {r : Int} {p : RefValue} {t : LocalTime} (h : projection a r t = none) :
    lead a r p t = none := by
  simp [lead, h]

/-- Settles O8: each clause is one of the rules above. -/
theorem projectionAndInverseFollowTheLine : Obligations.ProjectionAndInverseFollowTheLine := by
  refine ⟨fun a t => ?_, fun u v => ?_, fun a r t => ⟨?_, ?_, projection_anchor a r⟩,
    fun a r v => ⟨?_, ?_, inverse_anchor a r⟩, fun a r p t => ⟨?_, ?_⟩⟩
  · exact ⟨(timeDiff_bounds a t).1, (timeDiff_bounds a t).2, toInt_sub_emod a t⟩
  · exact ⟨(rvDiff_bounds u v).1, (rvDiff_bounds u v).2, toInt_sub_emod u v⟩
  · exact projection_eq_none_iff.2
  · intro hd
    refine ⟨_, projection_eq_some_iff.2 ⟨hd, rfl⟩, ?_⟩
    rw [toNat_add_ofInt, add_assoc]
  · exact inverse_eq_none_iff.2
  · intro hd
    have h := (inverse_eq_some_iff (r := r)).2 ⟨hd, rfl⟩
    refine ⟨_, h, ?_, timeDiff_of_inverse_natAbs_le h⟩
    rw [toNat_add_ofInt, add_sub_assoc]
  · exact fun q => lead_of_projection
  · exact lead_of_outOfRange

/-! ## The residual of a projected inverse (R11, log entry 7) -/

/-- Refutes O9: at d = -68,711,088,640 with R = 16,385 the residual is 2 and R11's bound is 1. -/
theorem not_residualRule : ¬ Obligations.ResidualRule := by
  rintro ⟨f, h⟩
  obtain ⟨-, -, -, -, bound⟩ := h { lt := 0, rv := 0 } 16385 (BitVec.ofInt 40 (-68711088640))
    (BitVec.ofInt 40 (-68711088638)) (BitVec.ofInt 48 (-68710826511)) (by decide) (by decide) (by decide) (by decide)
  exact absurd bound (by decide)

/-- What projecting an inverse adds to a reference value at distance `d` on a line of trim `r` (R8, R10). -/
def residual (d r : Int) : Int := (d - d * r / 2 ^ 32) * r / 2 ^ 32 - d * r / 2 ^ 32

/-- The two roundings of a residual gathered into one. -/
theorem residual_eq (d r : Int) : residual d r = (d * r % 2 ^ 32 * (2 ^ 32 + r) - d * r ^ 2) / 2 ^ 64 := by
  have he : d * r % 2 ^ 32 = d * r - 2 ^ 32 * (d * r / 2 ^ 32) := Int.emod_def _ _
  unfold residual
  generalize d * r / 2 ^ 32 = q at he ⊢
  have hn : d * r % 2 ^ 32 * (2 ^ 32 + r) - d * r ^ 2 = ((d - q) * r - q * 2 ^ 32) * 2 ^ 32 := by
    rw [he]
    ring
  have hm : (2 : Int) ^ 64 = 2 ^ 32 * 2 ^ 32 := by norm_num
  rw [hn, hm, Int.mul_ediv_mul_of_pos_left _ _ (by norm_num), Int.sub_mul_ediv_right _ _ (by norm_num)]

/-- What the inverse's rounding puts into a residual's numerator: less than 2^64 for a trim of zero or less, where R11's
bound holds, and up to 2^52 more for a positive one, where it can be missed. -/
theorem rounding_bounds (d : Int) {r : Int} (lo : -1048576 ≤ r) (hi : r ≤ 1048576) :
    0 ≤ d * r % 2 ^ 32 * (2 ^ 32 + r) ∧ d * r % 2 ^ 32 * (2 ^ 32 + r) < 2 ^ 64 + 2 ^ 52 ∧
      (r ≤ 0 → d * r % 2 ^ 32 * (2 ^ 32 + r) < 2 ^ 64) := by
  have h0 : 0 ≤ d * r % 2 ^ 32 := Int.emod_nonneg _ (by norm_num)
  have h1 : d * r % 2 ^ 32 < 2 ^ 32 := Int.emod_lt_of_pos _ (by norm_num)
  generalize d * r % 2 ^ 32 = e at h0 h1
  refine ⟨mul_nonneg h0 (by omega), ?_, fun hr => ?_⟩
  · linarith [mul_le_mul_of_nonneg_left hi h0]
  · linarith [mul_nonpos_of_nonneg_of_nonpos h0 hr]

/-- A residual is zero without trim. -/
theorem residual_zero (d : Int) : residual d 0 = 0 := by
  simp [residual]

/-- Ahead of the anchor the residual is not positive. -/
theorem residual_nonpos {d r : Int} (hd : 0 ≤ d) (lo : -1048576 ≤ r) (hi : r ≤ 1048576) : residual d r ≤ 0 := by
  have h1 : d * r % 2 ^ 32 < 2 ^ 32 := Int.emod_lt_of_pos _ (by norm_num)
  have hM : 0 ≤ d * r ^ 2 := by positivity
  have hN : d * r % 2 ^ 32 * (2 ^ 32 + r) - d * r ^ 2 < 2 ^ 64 := by
    rcases le_total r 0 with hr | hr
    · obtain ⟨-, -, h⟩ := rounding_bounds d lo hi
      have := h hr
      omega
    · have hdr : 0 ≤ d * r := mul_nonneg hd hr
      have he : d * r % 2 ^ 32 * r ≤ d * r * r := mul_le_mul_of_nonneg_right (by omega) hr
      linarith
  rw [residual_eq]
  omega

/-- Behind the anchor the residual is not negative. -/
theorem residual_nonneg {d r : Int} (hd : d ≤ 0) (lo : -1048576 ≤ r) (hi : r ≤ 1048576) : 0 ≤ residual d r := by
  have hM : d * r ^ 2 ≤ 0 := mul_nonpos_of_nonpos_of_nonneg hd (sq_nonneg r)
  obtain ⟨h0, -, -⟩ := rounding_bounds d lo hi
  rw [residual_eq]
  omega

/-- The size of |d|·R², over the integers. -/
theorem natCast_natAbs_mul_sq (d r : Int) : ((d.natAbs * r.natAbs ^ 2 : Nat) : Int) = |d * r ^ 2| := by
  push_cast
  rw [abs_mul, abs_pow]

/-- R11's bound, for every distance at or ahead of the anchor and every trim of zero or less. -/
theorem residual_natAbs_le {d r : Int} (lo : -1048576 ≤ r) (hi : r ≤ 1048576) (h : 0 ≤ d ∨ r ≤ 0) :
    (residual d r).natAbs ≤ 1 + d.natAbs * r.natAbs ^ 2 / 2 ^ 64 := by
  have hB := natCast_natAbs_mul_sq d r
  obtain ⟨h0, -, h2⟩ := rounding_bounds d lo hi
  rcases le_total 0 d with hd | hd
  · have hM : 0 ≤ d * r ^ 2 := by positivity
    have hs := residual_nonpos hd lo hi
    rw [abs_of_nonneg hM] at hB
    rw [residual_eq] at hs ⊢
    omega
  · have hM : d * r ^ 2 ≤ 0 := mul_nonpos_of_nonpos_of_nonneg hd (sq_nonneg r)
    have hs := residual_nonneg hd lo hi
    rw [abs_of_nonpos hM] at hB
    rw [residual_eq] at hs ⊢
    rcases h with hd' | hr
    · obtain rfl := le_antisymm hd hd'
      simp
    · have := h2 hr
      omega

/-- R11's bound and one more, for every distance and trim. -/
theorem residual_natAbs_le_two {d r : Int} (lo : -1048576 ≤ r) (hi : r ≤ 1048576) :
    (residual d r).natAbs ≤ 2 + d.natAbs * r.natAbs ^ 2 / 2 ^ 64 := by
  rcases le_total 0 d with hd | hd
  · have := residual_natAbs_le lo hi (.inl hd)
    omega
  · have hB := natCast_natAbs_mul_sq d r
    have hs := residual_nonneg hd lo hi
    obtain ⟨-, h1, -⟩ := rounding_bounds d lo hi
    rw [abs_of_nonpos (mul_nonpos_of_nonpos_of_nonneg hd (sq_nonneg r))] at hB
    rw [residual_eq] at hs ⊢
    omega

/-- Within the span a residual is a few thousand counts. -/
theorem residual_natAbs_le_of_span {d r : Int} (hd : d.natAbs ≤ 2 ^ 36) (lo : -1048576 ≤ r) (hi : r ≤ 1048576) :
    (residual d r).natAbs ≤ 2 + 2 ^ 12 := by
  have hr : r.natAbs ≤ 2 ^ 20 := by omega
  have hM : d.natAbs * r.natAbs ^ 2 ≤ 2 ^ 36 * (2 ^ 20) ^ 2 := Nat.mul_le_mul hd (Nat.pow_le_pow_left hr 2)
  have := residual_natAbs_le_two (d := d) lo hi
  omega

/-- Projecting an inverse gives the reference value plus the residual (R11, R128). -/
theorem rvDiff_projection_of_inverse {a : Anchor} {r : Int} {v w : RefValue} {t : LocalTime} (lo : -1048576 ≤ r)
    (hi : r ≤ 1048576) (ht : inverse a r v = some t) (hw : projection a r t = some w) :
    rvDiff v w = residual (rvDiff a.rv v) r := by
  obtain ⟨-, rfl⟩ := projection_eq_some_iff.1 hw
  have hb := residual_natAbs_le_of_span (inverse_eq_some_iff.1 ht).1 lo hi
  have hx : rvDiff a.rv v - rvDiff a.rv v * r / 2 ^ 32 + (rvDiff a.rv v - rvDiff a.rv v * r / 2 ^ 32) * r / 2 ^ 32 =
      rvDiff a.rv v + residual (rvDiff a.rv v) r := by
    unfold residual
    ring
  rw [timeDiff_of_inverse ht lo hi, hx]
  exact rvDiff_add_ofInt a.rv v (by omega) (by omega)

/-- Settles O10: the residual rules above, at the distance of the value from the anchor. -/
theorem residualWithinTwo : Obligations.ResidualWithinTwo := by
  refine ⟨fun a r v w t lo hi ht hw => ?_, fun c v w t lo hi ht hw => ?_⟩
  · rw [rvDiff_projection_of_inverse lo hi ht hw]
    refine ⟨rfl, ?_, fun hd => residual_nonpos hd.le lo hi, fun hd => residual_nonneg hd.le lo hi,
      residual_natAbs_le lo hi, residual_natAbs_le_two lo hi⟩
    rintro rfl
    exact residual_zero _
  · obtain ⟨a, ha, ht'⟩ := Option.bind_eq_some_iff.1 ht
    have hw' : projection a c.trim t = some w := by
      simpa [ClockRecord.projection, ha] using hw
    exact ⟨a, ha, rvDiff_projection_of_inverse lo hi ht' hw'⟩

end Sys2Proof.Machine
end

section
/-! SUPPORT. The tables under the shared record operations: which handles are current afterwards, which slots change and
how, and how the counts over the slots and over the Lease Table move. -/

namespace Sys2Proof.Machine

variable {s : State}

/-! ## Current handles after a record operation -/

/-- Writing a record over a current one makes its own handle name it, and no other handle name anything else. -/
theorem current_withRecord {h : Handle} {x : Phase × Record} (e : s.current h = some x) (ph : Phase) (r : Record)
    (f : NoticeSet) (k : Handle) :
    (s.withRecord h.slot ph r f).current k = if k = h then some (ph, r) else s.current k := by
  have self := State.current_withRecord_self e ph r f
  split
  case isTrue q => rw [q, self]
  case isFalse q =>
    by_cases hs : h.slot = k.slot
    · rw [Option.eq_none_iff_forall_ne_some.2 fun y hy => q (State.current_inj hy self hs.symm),
        Option.eq_none_iff_forall_ne_some.2 fun y hy => q (State.current_inj hy e hs.symm)]
    · exact State.current_withRecord_other hs ph r f

/-- A slot made FREE or RETIRED is named by no handle. -/
theorem current_putSlot_inactive {i : SlotNo} {x : Slot} (hx : ∀ ph r, x.content ≠ .active ph r) (k : Handle) :
    (s.putSlot i x).current k = if k.slot = i then none else s.current k := by
  split
  case isTrue q =>
    refine Option.eq_none_iff_forall_ne_some.2 fun ⟨ph, r⟩ hy => hx ph r ?_
    simpa [q] using (State.current_eq_some.1 hy).2.2.2
  case isFalse q => exact State.current_congr (by simp [Ne.symm q])

/-- Creation makes one handle current that was not, and no other. -/
theorem current_create {i : SlotNo} (h0 : i ≠ 0) (hf : (s.slot i).content = .free) (hg : (s.slot i).gen ≠ 0)
    (r : Record) (k : Handle) :
    (s.create i r).current k = if k = s.handleOf i then some (.reserved, r) else s.current k := by
  have self : (s.create i r).current (s.handleOf i) = some (.reserved, r) :=
    State.current_eq_some.2 ⟨h0, hg, by simp [State.create, State.handleOf], by simp [State.create, State.handleOf]⟩
  split
  case isTrue q => rw [q, self]
  case isFalse q =>
    by_cases hs : k.slot = i
    · have none : s.current k = none := Option.eq_none_iff_forall_ne_some.2 fun ⟨ph, r'⟩ hy => by
        simpa [hs, hf] using (State.current_eq_some.1 hy).2.2.2
      rw [none, Option.eq_none_iff_forall_ne_some.2 fun y hy => q (State.current_inj hy self hs)]
    · exact State.current_congr (by simp [State.create, Ne.symm hs])

/-- The handle of a FREE slot is not current. -/
theorem current_handleOf_free {i : SlotNo} (hf : (s.slot i).content = .free) : s.current (s.handleOf i) = none := by
  refine Option.eq_none_iff_forall_ne_some.2 fun ⟨ph, r⟩ hy => ?_
  simpa [State.handleOf, hf] using (State.current_eq_some.1 hy).2.2.2

/-- The handle of a slot that holds a record is current, its generation not being 0 and the slot not the null slot. -/
theorem current_handleOf {i : SlotNo} {ph : Phase} {r : Record} (h0 : i ≠ 0) (hg : (s.slot i).gen ≠ 0)
    (hc : (s.slot i).content = .active ph r) : s.current (s.handleOf i) = some (ph, r) :=
  State.current_eq_some.2 ⟨h0, hg, rfl, hc⟩

/-- A current handle is the handle of its slot. -/
theorem handleOf_of_current {h : Handle} {x : Phase × Record} (e : s.current h = some x) : s.handleOf h.slot = h := by
  obtain ⟨ph, r⟩ := x
  obtain ⟨-, -, hg, -⟩ := State.current_eq_some.1 e
  simp [State.handleOf, ← hg]

/-! ## Record operations, by what the handle names -/

theorem updRecord_cases (h : Handle) (f : Record → Record) :
    (∃ ph r, s.current h = some (ph, r) ∧ s.updRecord h f = s.withRecord h.slot ph (f r) 0) ∨
      s.current h = none ∧ s.updRecord h f = s := by
  cases e : s.current h with
  | none => exact .inr ⟨rfl, State.updRecord_of_stale f e⟩
  | some x => exact .inl ⟨x.1, x.2, rfl, State.updRecord_of_current f e⟩

theorem updClock_cases (h : Handle) (f : ClockRecord → ClockRecord) :
    (∃ ph c, s.current h = some (ph, .ofClock c) ∧ s.updClock h f = s.withRecord h.slot ph (.ofClock (f c)) 0) ∨
      (∀ ph c, s.current h ≠ some (ph, .ofClock c)) ∧ s.updClock h f = s := by
  match e : s.current h with
  | some (ph, .ofClock c) => exact .inl ⟨ph, c, rfl, State.updClock_of_current f e⟩
  | some (ph, .ofAlias a) => exact .inr ⟨fun ph c q => by simp at q, by simp [State.updClock, e]⟩
  | none => exact .inr ⟨fun ph c q => by simp at q, State.updClock_of_stale f e⟩

theorem updAlias_cases (h : Handle) (f : AliasRecord → AliasRecord) :
    (∃ ph a, s.current h = some (ph, .ofAlias a) ∧ s.updAlias h f = s.withRecord h.slot ph (.ofAlias (f a)) 0) ∨
      (∀ ph a, s.current h ≠ some (ph, .ofAlias a)) ∧ s.updAlias h f = s := by
  match e : s.current h with
  | some (ph, .ofAlias a) => exact .inl ⟨ph, a, rfl, State.updAlias_of_current f e⟩
  | some (ph, .ofClock c) => exact .inr ⟨fun ph c q => by simp at q, by simp [State.updAlias, e]⟩
  | none => exact .inr ⟨fun ph c q => by simp at q, State.updAlias_of_stale f e⟩

/-- The ALIAS count of an ALIAS's target is lowered before the record enters RETIRED; a CLOCK has no target (R20, R34). -/
def State.lowerTarget (s : State) : Record → State
  | .ofClock _ => s
  | .ofAlias a => s.lowerAliasCount a.target

/-- Entry into RETIRED, of a current record (R34). -/
theorem enterRetired_of_current {h : Handle} {ph : Phase} {r : Record} (e : s.current h = some (ph, r)) :
    s.enterRetired h.slot = (s.lowerTarget r).putSlot h.slot ((s.slot h.slot).retiredAs r.kind) := by
  obtain ⟨-, -, -, hc⟩ := State.current_eq_some.1 e
  unfold State.enterRetired
  cases r <;> simp only [hc] <;> rfl

/-- Notices given to a current record keep it (R182). -/
theorem current_notify (i : SlotNo) (f : NoticeSet) (k : Handle) : (s.notify i f).current k = s.current k := by
  unfold State.current State.notify
  by_cases q : i = k.slot
  · subst q; simp
  · simp [q]

/-! ## Relations that hold slot by slot -/

/-- Every slot of the second state stands to the same slot of the first as `R` says. -/
def SlotsRel (R : Slot → Slot → Prop) (s t : State) : Prop := ∀ i, R (s.slot i) (t.slot i)

namespace SlotsRel

variable {R : Slot → Slot → Prop} {t u : State}

theorem of_slots (hr : ∀ x, R x x) (e : t.slots = s.slots) : SlotsRel R s t := by
  intro i
  have : t.slot i = s.slot i := by simp only [State.slot, e]
  rw [this]
  exact hr _

theorem refl (hr : ∀ x, R x x) : SlotsRel R s s := of_slots hr rfl

theorem trans (ht : ∀ x y z, R x y → R y z → R x z) (h : SlotsRel R s t) (h' : SlotsRel R t u) : SlotsRel R s u :=
  fun i => ht _ _ _ (h i) (h' i)

theorem putSlot (hr : ∀ x, R x x) {i : SlotNo} {x : Slot} (h : R (s.slot i) x) : SlotsRel R s (s.putSlot i x) := by
  intro j
  by_cases q : i = j
  · subst q; simpa using h
  · simpa [q] using hr _

theorem notify (hr : ∀ x, R x x) {i : SlotNo} {f : NoticeSet}
    (h : R (s.slot i) { s.slot i with notices := (s.slot i).notices ||| f }) : SlotsRel R s (s.notify i f) :=
  putSlot hr h

theorem withRecord (hr : ∀ x, R x x) {h : Handle} {ph ph' : Phase} {r r' : Record} {f : NoticeSet}
    (e : s.current h = some (ph, r))
    (hR : ∀ x : Slot, x.content = .active ph r → R x { x with content := .active ph' r', notices := x.notices ||| f }) :
    SlotsRel R s (s.withRecord h.slot ph' r' f) :=
  putSlot hr (hR _ (State.current_eq_some.1 e).2.2.2)

theorem updRecord (hr : ∀ x, R x x) {h : Handle} {f : Record → Record}
    (hR : ∀ (x : Slot) ph r, x.content = .active ph r → R x { x with content := .active ph (f r) }) :
    SlotsRel R s (s.updRecord h f) := by
  obtain ⟨ph, r, e, q⟩ | ⟨-, q⟩ := updRecord_cases (s := s) h f <;> rw [q]
  · exact withRecord hr e fun x hx => by simpa using hR x ph r hx
  · exact refl hr

theorem updClock (hr : ∀ x, R x x) {h : Handle} {f : ClockRecord → ClockRecord}
    (hR : ∀ (x : Slot) ph c, x.content = .active ph (.ofClock c) → R x { x with content := .active ph (.ofClock (f c)) }) :
    SlotsRel R s (s.updClock h f) := by
  obtain ⟨ph, c, e, q⟩ | ⟨-, q⟩ := updClock_cases (s := s) h f <;> rw [q]
  · exact withRecord hr e fun x hx => by simpa using hR x ph c hx
  · exact refl hr

theorem updAlias (hr : ∀ x, R x x) {h : Handle} {f : AliasRecord → AliasRecord}
    (hR : ∀ (x : Slot) ph a, x.content = .active ph (.ofAlias a) → R x { x with content := .active ph (.ofAlias (f a)) }) :
    SlotsRel R s (s.updAlias h f) := by
  obtain ⟨ph, a, e, q⟩ | ⟨-, q⟩ := updAlias_cases (s := s) h f <;> rw [q]
  · exact withRecord hr e fun x hx => by simpa using hR x ph a hx
  · exact refl hr

/-- A fold of operations that each relate the slots relates them. -/
theorem foldl (hr : ∀ x, R x x) (ht : ∀ x y z, R x y → R y z → R x z) {α : Type} {f : State → α → State}
    (hf : ∀ s x, SlotsRel R s (f s x)) (l : List α) : SlotsRel R s (l.foldl f s) := by
  induction l generalizing s with
  | nil => exact refl hr
  | cons x l ih => exact (hf s x).trans ht ih

end SlotsRel

/-! ## Counting over a table -/

/-- Replacing one item of a table moves a count over it by that item alone. -/
theorem countP_set_add {α : Type} {n : Nat} (v : Vector α n) (i : Nat) (hi : i < n) (x : α) (p : α → Bool) :
    (v.set i x).toList.countP p + (p v[i]).toNat = v.toList.countP p + (p x).toNat := by
  have hl : i < v.toList.length := by simpa using hi
  have ite (b : Bool) : (if b = true then 1 else 0) = b.toNat := by cases b <;> rfl
  have hle : (p v[i]).toNat ≤ v.toList.countP p := by
    cases q : p v[i] with
    | false => exact Nat.zero_le _
    | true => exact List.countP_pos_iff.2 ⟨v[i], by simp, q⟩
  have key := List.countP_set (p := p) (l := v.toList) (a := x) hl
  rw [Vector.getElem_toList, ite, ite] at key
  rw [Vector.toList_set, key]
  omega

/-- The slot holds an ALIAS record that targets the clock (R20). -/
def Slot.targets (h : Handle) (x : Slot) : Bool :=
  match x.content with
  | .active _ (.ofAlias a) => a.target == h
  | .active _ (.ofClock _) | .free | .retired _ => false

theorem aliasesOf_eq (h : Handle) : s.aliasesOf h = s.slots.toList.countP (Slot.targets h) := rfl

theorem aliasesOf_putSlot (i : SlotNo) (x : Slot) (h : Handle) :
    (s.putSlot i x).aliasesOf h + ((s.slot i).targets h).toNat = s.aliasesOf h + (x.targets h).toNat :=
  countP_set_add s.slots i.val i.isLt x (Slot.targets h)

theorem leasesNaming_putLease (k : LeaseNo) (l : Option Lease) (h : Handle) :
    (s.putLease k l).leasesNaming h + ((s.lease k).any fun x => x.named == h).toNat =
      s.leasesNaming h + (l.any fun x => x.named == h).toNat :=
  countP_set_add s.leases k.val k.isLt l _

/-- Slots that agree on their targets give the same ALIAS counts. -/
theorem aliasesOf_congr {t : State} {h : Handle} (e : SlotsRel (fun x y => y.targets h = x.targets h) s t) :
    t.aliasesOf h = s.aliasesOf h := by
  have count (u : State) : u.aliasesOf h = (List.finRange 256).countP fun i => (u.slot i).targets h := by
    have : u.slots.toList = (List.finRange 256).map u.slot := by
      apply List.ext_getElem <;> simp [State.slot]
    rw [aliasesOf_eq, this, List.countP_map]
    rfl
  rw [count, count]
  exact List.countP_congr fun i _ => by rw [e i]

end Sys2Proof.Machine
end

section
/-! SUPPORT. What a command can do to the tables, said once: `ClockOp`, `ListOp` and `TenureOp` list the
changes of the slots, the Lease Table, the Binding Map and the Deadline List, each with what the command has checked before it;
every command is a run of them, with quiet changes between. The statements on what every step keeps follow from this list. -/

namespace Sys2Proof.Machine

variable {s t u : State}

/-! ## What the tables do not see -/

/-- The tables are as before. -/
structure SameTable (s t : State) : Prop where
  slots : t.slots = s.slots
  leases : t.leases = s.leases
  bindings : t.bindings = s.bindings
  deadlines : t.deadlines = s.deadlines
  nextOrder : t.nextOrder = s.nextOrder

/-- Inputs, port levels, transactions, mask and RST_N are as before. -/
structure SamePins (s t : State) : Prop where
  inputs : t.inputs = s.inputs
  port : ∀ n, (t.port n).level = (s.port n).level ∧ (t.port n).tx = (s.port n).tx
  tx : t.mgmt.tx = s.mgmt.tx
  mask : t.mask = s.mask
  rstLow : t.rstLow = s.rstLow

/-- A change the tables do not see, which keeps the pins legal and RST_N as it is. -/
structure Quiet (s t : State) : Prop where
  table : SameTable s t
  pins : PinsLegal s → PinsLegal t
  rstLow : t.rstLow = s.rstLow

theorem SamePins.refl (s : State) : SamePins s s := ⟨rfl, fun _ => ⟨rfl, rfl⟩, rfl, rfl, rfl⟩

theorem SamePins.trans (h : SamePins s t) (h' : SamePins t u) : SamePins s u where
  inputs := h'.inputs.trans h.inputs
  port n := ⟨(h'.port n).1.trans (h.port n).1, (h'.port n).2.trans (h.port n).2⟩
  tx := h'.tx.trans h.tx
  mask := h'.mask.trans h.mask
  rstLow := h'.rstLow.trans h.rstLow

/-- An operation that keeps the ports, the inputs, the management port, the mask and RST_N keeps the pins. -/
theorem SamePins.of_eq (hi : t.inputs = s.inputs) (hp : t.ports = s.ports) (hm : t.mgmt = s.mgmt)
    (hk : t.mask = s.mask) (hr : t.rstLow = s.rstLow) : SamePins s t :=
  ⟨hi, fun n => by simp only [State.port, hp, and_self], by rw [hm], hk, hr⟩

theorem SamePins.updClock (h : Handle) (f : ClockRecord → ClockRecord) : SamePins s (s.updClock h f) :=
  .of_eq (by simp) (by simp) (by simp) (by simp) (by simp)

theorem SamePins.updAlias (h : Handle) (f : AliasRecord → AliasRecord) : SamePins s (s.updAlias h f) :=
  .of_eq (by simp) (by simp) (by simp) (by simp) (by simp)

theorem SamePins.putSlot (i : SlotNo) (x : Slot) : SamePins s (s.putSlot i x) := .of_eq rfl rfl rfl rfl rfl

theorem SamePins.enterRetired (i : SlotNo) : SamePins s (s.enterRetired i) :=
  .of_eq (by simp) (by simp) (by simp) (by simp) (by simp)

theorem SamePins.deadlines (l : List DeadlineEntry) : SamePins s { s with deadlines := l } := .of_eq rfl rfl rfl rfl rfl

theorem SamePins.push (n : PortNo) (e : ResponseEntry) : SamePins s (s.push n e) :=
  ⟨rfl, fun m => by rw [State.port_push]; split <;> simp_all, rfl, rfl, rfl⟩

theorem SamePins.foldl {α : Type} {f : State → α → State} (hf : ∀ s x, SamePins s (f s x)) (l : List α) :
    SamePins s (l.foldl f s) := by
  induction l generalizing s with
  | nil => exact .refl s
  | cons x l ih => exact (hf s x).trans ih

theorem SamePins.endWakes (h : Handle) (x : Ending) : SamePins s (s.endWakes h x) := by
  have one (s : State) (e : DeadlineEntry) : SamePins s (s.endWake x e) := by
    unfold State.endWake
    split
    · exact .push _ _
    · exact .refl s
  exact (SamePins.deadlines _).trans ((SamePins.foldl one _).trans (.updClock _ _))

theorem SamePins.revokeAll (h : Handle) : SamePins s (s.revokeAll h) := by
  have one (s : State) (k : LeaseNo) : SamePins s (s.revokeLease h k) := by
    unfold State.revokeLease
    split
    · split
      · exact SamePins.trans (.of_eq (by simp) (by simp) (by simp) (by simp) (by simp)) (.push _ _)
      · exact .refl s
    · exact .refl s
  exact (SamePins.foldl one _).trans (.putSlot _ _)

theorem SamePins.pinsLegal (h : SamePins s t) (hs : PinsLegal s) : PinsLegal t := by
  obtain ⟨hi, hp, hm, hk⟩ := hs
  refine ⟨fun i => ?_, fun n => ?_, ?_, ?_⟩
  · simpa only [State.input, h.inputs] using hi i
  · rw [(h.port n).1, (h.port n).2]
    exact hp n
  · rw [h.tx]
    exact hm
  · rw [h.mask]
    exact hk

theorem SameTable.refl (s : State) : SameTable s s := ⟨rfl, rfl, rfl, rfl, rfl⟩

theorem Quiet.of_same (ht : SameTable s t) (hp : SamePins s t) : Quiet s t := ⟨ht, hp.pinsLegal, hp.rstLow⟩

theorem Quiet.refl (s : State) : Quiet s s := .of_same (.refl s) (.refl s)

theorem Quiet.trans (h : Quiet s t) (h' : Quiet t u) : Quiet s u where
  table := ⟨h'.table.slots.trans h.table.slots, h'.table.leases.trans h.table.leases,
    h'.table.bindings.trans h.table.bindings, h'.table.deadlines.trans h.table.deadlines,
    h'.table.nextOrder.trans h.table.nextOrder⟩
  pins hs := h'.pins (h.pins hs)
  rstLow := h'.rstLow.trans h.rstLow

theorem quiet_push (n : PortNo) (e : ResponseEntry) : Quiet s (s.push n e) :=
  .of_same ⟨rfl, rfl, rfl, rfl, rfl⟩ (.push n e)

theorem quiet_respond (n : PortNo) (code : PortCode) (tag : Byte) (a : PortAnswer) : Quiet s (s.respond n code tag a) :=
  quiet_push n _

theorem quiet_hold (code : MgmtCode) (a : MgmtAnswer) : Quiet s (s.hold code a) :=
  .of_same ⟨rfl, rfl, rfl, rfl, rfl⟩ ⟨rfl, fun _ => ⟨rfl, rfl⟩, rfl, rfl, rfl⟩

/-- A port whose level and transaction stay legal changes nothing else of the pins. -/
theorem quiet_updPort {n : PortNo} {f : Port → Port}
    (hf : ∀ p : Port, p.level ≤ 3 → p.tx.legal Config.queryFrameBits = true →
      (f p).level ≤ 3 ∧ (f p).tx.legal Config.queryFrameBits = true) : Quiet s (s.updPort n f) := by
  refine ⟨⟨rfl, rfl, rfl, rfl, rfl⟩, fun ⟨hi, hp, hm, hk⟩ => ⟨hi, fun m => ?_, hm, hk⟩, rfl⟩
  rw [State.port_updPort]
  split
  · exact hf _ (hp n).1 (hp n).2
  · exact hp m

theorem quiet_updInput {n : InputNo} {f : Input → Input}
    (hf : (s.input n).legal = true → (f (s.input n)).legal = true) : Quiet s (s.updInput n f) := by
  refine ⟨⟨rfl, rfl, rfl, rfl, rfl⟩, fun ⟨hi, hp, hm, hk⟩ => ⟨fun m => ?_, hp, hm, hk⟩, rfl⟩
  rw [State.input_updInput]
  split
  · exact hf (hi n)
  · exact hi m

theorem quiet_putMgmt {m : MgmtPort}
    (hf : s.mgmt.tx.legal Config.mgmtFrameBits = true → m.tx.legal Config.mgmtFrameBits = true) :
    Quiet s (s.putMgmt m) :=
  ⟨⟨rfl, rfl, rfl, rfl, rfl⟩, fun ⟨hi, hp, hm, hk⟩ => ⟨hi, hp, hf hm, hk⟩, rfl⟩

theorem quiet_serve (n : PortNo) : Quiet s (s.serve n) :=
  (quiet_updPort (f := fun p => { p with requests := p.requests.tail }) fun _ hl ht => ⟨hl, ht⟩).trans
    (.of_same ⟨rfl, rfl, rfl, rfl, rfl⟩ ⟨rfl, fun _ => ⟨rfl, rfl⟩, rfl, rfl, rfl⟩)

/-! ## The changes of the tables -/

/-- A CLOCK record's lease, ALIAS and wake counts are as before. -/
structure CountsKept (c c' : ClockRecord) : Prop where
  leases : c'.leaseCount = c.leaseCount
  aliases : c'.aliasCount = c.aliasCount
  wakes : c'.wakeCount = c.wakeCount

/-- The active source is as before or a bound role, and a reject run of 0 beside no active source stays 0 (R67, R70). -/
structure SourceKept (s : State) (h : Handle) (c c' : ClockRecord) : Prop where
  active : c'.active = c.active ∨ ∃ r, c'.active = some r ∧ s.roleBound h r = true
  rejectRun : c'.active = none → c.rejectRun = 0 → c'.rejectRun = 0

/-- The checks of a SPLICE or RETARGET have passed: an ALIAS that is not DRAINING and has no splice pending, and a new target
that is a CLOCK and not DRAINING (R164, R166). -/
structure MoveChecked (s : State) (h n : Handle) (a : AliasRecord) : Prop where
  record : ∃ ph, s.current h = some (ph, .ofAlias a) ∧ ph.isDraining = false
  idle : a.pendingSplice = none
  target : ∃ ph c, s.current n = some (ph, .ofClock c) ∧ ph.isDraining = false

/-- The state with another Deadline List. -/
def State.putDeadlines (s : State) (l : List DeadlineEntry) : State := { s with deadlines := l }

/-- The changes of a CLOCK record's own fields and of the Binding Map. -/
inductive ClockOp (s : State) : State → Prop
  /-- A CLOCK record's own fields move. -/
  | record {h ph c c' f} (cur : s.current h = some (ph, .ofClock c)) (legal : c.legal ph = true → c'.legal ph = true)
      (counts : CountsKept c c') (source : SourceKept s h c c')
      (lock : c'.lock.timeless = true → c.lock.timeless = true) (flags : f &&& 0xe007 = (0 : NoticeSet)) :
      ClockOp s (s.withRecord h.slot ph (.ofClock c') f)
  /-- A CLOCK record's own fields move, and the wakes bound to it end (R150). -/
  | recordEnding {h ph c c' f} (x : Ending) (cur : s.current h = some (ph, .ofClock c))
      (legal : c.legal ph = true → { c' with wakeCount := 0, updatePending := false }.legal ph = true)
      (counts : CountsKept c c') (source : SourceKept s h c c') (flags : f &&& 0xe007 = (0 : NoticeSet)) :
      ClockOp s ((s.withRecord h.slot ph (.ofClock c') f).endWakes h x)
  /-- A stream is bound (R66, R67). -/
  | bound {i tag h role ph c} (cur : s.current h = some (ph, .ofClock c)) (drain : ph.isDraining = false)
      (key : s.binding i tag = none) (free : s.roleBound h role = false)
      (room : s.bindings.length < Config.bindingCapacity) :
      ClockOp s (({ s with bindings := { input := i, tag, clock := h, role } :: s.bindings }).updClock h fun c =>
        { c with active := c.active.or (some role) })
  /-- A stream is unbound (R68). -/
  | unbound {b} (mem : b ∈ s.bindings) : ClockOp s (removeBinding b s)

/-- The changes of ALIAS records, of the ALIAS and wake counts and of the Deadline List. -/
inductive ListOp (s : State) : State → Prop
  /-- An ALIAS record is configured (R26). -/
  | aliasFields {h ph a a'} (cur : s.current h = some (ph, .ofAlias a)) (legal : a.legal = true → a'.legal = true)
      (leases : a'.leaseCount = a.leaseCount) (target : a'.target = a.target)
      (pending : a'.pendingSplice = a.pendingSplice) : ListOp s (s.withRecord h.slot ph (.ofAlias a') 0)
  /-- A WAKE entry is given another due LT (R146). -/
  | wakeMoved {e rest l} (d : LocalTime) (before : s.deadlines.Perm (e :: rest)) (after : l.Perm ({ e with due := d } :: rest))
      (work : ∃ n tag named b p, e.work = .wake n tag named b p) : ListOp s (s.putDeadlines l)
  /-- A WAKE entry leaves the list (R143, R146, R148, R153). -/
  | wakeTaken {e rest n tag named b p} (before : s.deadlines.Perm (e :: rest)) (work : e.work = .wake n tag named b p) :
      ListOp s ((s.putDeadlines rest).lowerWakeCount b)
  /-- A WAKE is armed on a clock its request resolved to (R141). -/
  | wakeArmed {n tag named b p due ph c} (room : s.listFull = false) (cur : s.current b = some (ph, .ofClock c))
      (live : ph = .live ∨ ph ≠ .reserved ∧ ∃ k pk a, s.current k = some (pk, .ofAlias a) ∧ a.target = b)
      (lock : c.lock.timeless = false) :
      ListOp s ((s.arm due (.wake n tag named b p)).updClock b fun c => { c with wakeCount := c.wakeCount + 1 })
  /-- A SPLICE is armed (R168). -/
  | spliceArmed {o h n t a} (room : s.listFull = false) (checked : MoveChecked s h n a) :
      ListOp s (armSplice o h n t s)
  /-- A SPLICE entry leaves the list without executing (R151, R153). -/
  | spliceDropped {e rest o h h' n} (f : NoticeSet) (before : s.deadlines.Perm (e :: rest)) (work : e.work = .splice o h' n)
      (named : h' = h ∨ ∃ ph a, s.current h = some (ph, .ofAlias a) ∧ a.pendingSplice = some e.order)
      (flags : f = 0 ∨ f = 0x0800 ∧ ∃ ph a, s.current h = some (ph, .ofAlias a)) :
      ListOp s ((((s.putDeadlines rest).lowerAliasCount n).updAlias h fun a =>
        { a with pendingSplice := none }).notify h.slot f)
  /-- The head of the list, a SPLICE, executes (R144). -/
  | spliceExecuted {e rest o h n ph a} (f : NoticeSet) (list : s.deadlines = e :: rest) (work : e.work = .splice o h n)
      (cur : s.current h = some (ph, .ofAlias a)) (flags : f &&& 0xe007 = (0 : NoticeSet)) :
      ListOp s ((((s.putDeadlines rest).updAlias h fun a =>
        { a with target := n, pendingSplice := none }).lowerAliasCount a.target).notify h.slot f)
  /-- The head of the list, a SPLICE whose ALIAS handle names no ALIAS, ends (log entry 6). -/
  | spliceOrphaned {e rest o h n} (list : s.deadlines = e :: rest) (work : e.work = .splice o h n)
      (cur : ∀ ph a, s.current h ≠ some (ph, .ofAlias a)) : ListOp s (s.putDeadlines rest)
  /-- An ALIAS moves to another clock at once (R165). -/
  | moved {h n a} (checked : MoveChecked s h n a) : ListOp s (moveAlias h a n s)

/-- The changes of a slot's lifecycle or of the leases, each with the commands that make it. -/
inductive TenureOp (s : State) : Instr → State → Prop
  /-- A CLOCK record is created (R23). -/
  | clockCreated {i} (slot : s.freeSlot = some i) : TenureOp s .createClock (s.create i (.ofClock ClockRecord.created))
  /-- An ALIAS record is created (R24). -/
  | aliasCreated {i h ph c} (slot : s.freeSlot = some i) (cur : s.current h = some (ph, .ofClock c))
      (drain : ph.isDraining = false) :
      TenureOp s .createAlias ((s.raiseAliasCount h).create i (.ofAlias (AliasRecord.created h)))
  /-- A RESERVED record becomes LIVE (R25). -/
  | enabled {h r} (cur : s.current h = some (.reserved, r)) :
      TenureOp s .enable (s.withRecord h.slot .live (r.enabled s.lt) 0)
  /-- A CLOCK record without aliases is retired or drains (R30, R31, R33). -/
  | clockRetired {h ph c} (mode : RetireMode) (cur : s.current h = some (ph, .ofClock c)) (alone : c.aliasCount = 0)
      (notBusy : ¬(ph.isDraining = true ∧ mode = .normal)) :
      TenureOp s .retire (retireRecord h ph (.ofClock c) mode s).1
  /-- An ALIAS record without a pending splice is retired or drains (R30, R31, R33). -/
  | aliasRetired {h ph a} (mode : RetireMode) (cur : s.current h = some (ph, .ofAlias a))
      (idle : ph.isDraining = false → s.pendingEntry a = none) (notBusy : ¬(ph.isDraining = true ∧ mode = .normal)) :
      TenureOp s .retire (retireRecord h ph (.ofAlias a) mode s).1
  /-- A drain ends (R33). -/
  | drained {i d r} (slot : (s.slot i).content = .active (.draining d) r) :
      TenureOp s (.drainExpiry i) ((s.revokeAll (s.handleOf i)).enterRetired i)
  /-- A lease is granted (R158). -/
  | granted {k l ph r} (free : s.lease k = none) (cur : s.current l.named = some (ph, r)) (live : ph = .live) :
      TenureOp s .lease ((s.putLease k (some l)).updRecord l.named (Record.updLeaseCount (· + 1)))
  /-- A lease is given up (R40, R160). -/
  | givenUp {c k l} (cmd : c = .release ∨ c = .portReset) (held : s.lease k = some l) : TenureOp s c (s.giveUpLease k l)
  /-- The notices of a slot are collected (R35, R186). -/
  | collected {i} (slot : i ≠ 0) (flags : NoticeSet)
      (own : noticed flags .drained = true → noticed (s.slot i).notices .drained = true) :
      TenureOp s .nextNotice (s.putSlot i ((s.slot i).collected flags))

/-- One stage of a command. -/
inductive Stage (c : Instr) (s t : State) : Prop
  | quiet (h : Quiet s t)
  | clock (h : ClockOp s t)
  | list (h : ListOp s t)
  | tenure (h : TenureOp s c t)

/-- A run of stages of a command. -/
abbrev Run (c : Instr) : State → State → Prop := Relation.ReflTransGen (Stage c)

section
variable {c : Instr}

theorem Run.quiet (h : Quiet s t) : Run c s t := .single (.quiet h)
theorem Run.clock (h : ClockOp s t) : Run c s t := .single (.clock h)
theorem Run.list (h : ListOp s t) : Run c s t := .single (.list h)
theorem Run.tenure (h : TenureOp s c t) : Run c s t := .single (.tenure h)

theorem Run.trans (h : Run c s t) (h' : Run c t u) : Run c s u := Relation.ReflTransGen.trans h h'

/-- A held response ends a run quietly. -/
theorem Run.hold (h : Run c s t) (code : MgmtCode) (a : MgmtAnswer) : Run c s (t.hold code a) :=
  h.trans (Run.quiet (quiet_hold code a))

/-- An entry that joins a response queue ends a run quietly. -/
theorem Run.push (h : Run c s t) (n : PortNo) (e : ResponseEntry) : Run c s (t.push n e) :=
  h.trans (Run.quiet (quiet_push n e))

end

end Sys2Proof.Machine
end

section
/-! SUPPORT. A CLOCK record stays legal under the Estimator's events, a CONFIGURE and an ENABLE (R17, R18, R27, R28, R76 to
R92). -/

namespace Sys2Proof.Machine

/-! ## Legal records -/

theorem silenceLegal_iff {ph : Phase} {c : ClockRecord} : silenceLegal ph c = true ↔
    (∀ t, c.silence = some t → ph = .live ∧ (c.lock = .acquiring ∨ c.lock = .locked) ∧
      t.deadline = addTicks t.start (msTicks c.cfg.silenceMs)) ∧
    (c.silence = none → ph = .live → c.lock ≠ .acquiring ∧ c.lock ≠ .locked) := by
  unfold silenceLegal Timer.formedBy
  cases c.silence with
  | none => simp [imp_iff_not_or]
  | some t => simp [and_assoc]

theorem holdoverLegal_iff {ph : Phase} {c : ClockRecord} : holdoverLegal ph c = true ↔
    (∀ t, c.holdover = some t → ph = .live ∧ c.lock = .holdover ∧
      t.deadline = addTicks t.start (msTicks c.cfg.holdoverMs)) ∧
    (c.holdover = none → ph = .live → c.lock ≠ .holdover) := by
  unfold holdoverLegal Timer.formedBy
  cases c.holdover with
  | none => simp [imp_iff_not_or]
  | some t => simp [and_assoc]

/-- The clauses of a legal CLOCK record but for its timers. -/
structure ClockRecord.Sound (ph : Phase) (c : ClockRecord) : Prop where
  cfg : c.cfg.legal = true
  trim : -1048576 ≤ c.trim ∧ c.trim ≤ 1048576
  lastError : ∀ e, c.lastError = some e → -2147483648 ≤ e ∧ e ≤ 2147483647
  inCount : c.inCount < c.cfg.enterCount
  outCount : c.outCount < c.cfg.leaveCount
  rejectRun : c.rejectRun < c.cfg.rejectLimit
  inLock : c.lock = .acquiring ∨ c.inCount = 0
  outLock : c.lock ≠ .acquiring ∨ c.outCount = 0
  anchor : c.anchor = none ↔ c.lock = .unset
  reserved : ph = .reserved → c.lock = .unset ∨ c.lock = .acquiring
  mark : c.updatePending = true → c.lock.timeless = false ∧ ph.isDraining = false

theorem ClockRecord.legal_iff {ph : Phase} {c : ClockRecord} :
    c.legal ph = true ↔ c.Sound ph ∧ silenceLegal ph c = true ∧ holdoverLegal ph c = true := by
  have lim : Config.trimLimit = 1048576 := rfl
  have anchor : c.anchor.isNone = (c.lock == .unset) ↔ (c.anchor = none ↔ c.lock = .unset) := by
    cases c.anchor <;> cases c.lock <;> simp
  unfold ClockRecord.legal
  simp only [Bool.and_eq_true, decide_eq_true_eq, Bool.or_eq_true, beq_iff_eq, bne_iff_ne, Option.all_eq_true, anchor,
    lim, Bool.not_eq_true', Bool.or_eq_false_iff]
  constructor
  · rintro ⟨⟨⟨⟨⟨⟨⟨⟨⟨⟨⟨⟨hc, ht⟩, hl⟩, hi⟩, ho⟩, hr⟩, il⟩, ol⟩, ha⟩, hs⟩, hh⟩, hv⟩, hm⟩
    refine ⟨⟨hc, ht, hl, hi, ho, hr, il, ol, ha, fun q => ?_, fun q => ?_⟩, hs, hh⟩
    · simpa [q] using hv
    · simpa [q] using hm
  · rintro ⟨⟨hc, ht, hl, hi, ho, hr, il, ol, ha, hv, hm⟩, hs, hh⟩
    refine ⟨⟨⟨⟨⟨⟨⟨⟨⟨⟨⟨⟨hc, ht⟩, hl⟩, hi⟩, ho⟩, hr⟩, il⟩, ol⟩, ha⟩, hs⟩, hh⟩, ?_⟩, ?_⟩
    · by_cases q : ph = .reserved
      · simpa [q] using hv q
      · exact .inl (.inl q)
    · cases q : c.updatePending
      · exact .inl rfl
      · exact .inr (hm q)

/-- Every field range of a legal configuration (R17). -/
theorem ClockConfig.legal_iff {c : ClockConfig} : c.legal = true ↔
    (c.level ≤ 3 ∧ (1 ≤ c.lockWindow ∧ c.lockWindow ≤ 65535) ∧ (c.lockWindow < c.jumpLimit ∧ c.jumpLimit ≤ 2147483647) ∧
      (1 ≤ c.rejectLimit ∧ c.rejectLimit ≤ 15) ∧ (1 ≤ c.enterCount ∧ c.enterCount ≤ 15) ∧
      (1 ≤ c.leaveCount ∧ c.leaveCount ≤ 15) ∧ c.gainShift ≤ 15 ∧ (1 ≤ c.silenceMs ∧ c.silenceMs ≤ 65535) ∧
      c.holdoverMs ≤ 65535 ∧ (1 ≤ c.farEarly ∧ c.farEarly < 4294967296) ∧ c.lateTolerance < 4294967296 ∧
      1 ≤ c.drainMs ∧ c.drainMs ≤ 65535) := by
  simp only [ClockConfig.legal, Bool.and_eq_true, decide_eq_true_eq, and_assoc]

/-- The limits of the lock counters and of the reject run are at least 1 (R17). -/
theorem ClockConfig.limits_pos {c : ClockConfig} (h : c.legal = true) :
    0 < c.enterCount ∧ 0 < c.leaveCount ∧ 0 < c.rejectLimit := by
  have := ClockConfig.legal_iff.1 h
  omega

/-- A record without the wakes and the mark a discontinuity takes is legal as it was. -/
theorem ClockRecord.legal_wakesEnded {ph : Phase} {c : ClockRecord} (h : c.legal ph = true) :
    { c with wakeCount := 0, updatePending := false }.legal ph = true := by
  obtain ⟨hs, silent, held⟩ := ClockRecord.legal_iff.1 h
  exact ClockRecord.legal_iff.2 ⟨{ hs with mark := nofun }, silent, held⟩

/-! ## A sample (R76 to R88) -/

/-- The state of a LIVE record between stages 3 and 9: sound, the holdover timer legal, and the silence timer absent where
stage 9 does not start it. -/
structure ClockRecord.BeforeSilence (c : ClockRecord) : Prop extends ClockRecord.Sound .live c where
  held : holdoverLegal .live c = true
  quiet : c.lock ≠ .acquiring → c.lock ≠ .locked → c.silence = none

theorem ClockRecord.beforeSilence_of_legal {c : ClockRecord} (h : c.legal .live = true) : ClockRecord.BeforeSilence c := by
  obtain ⟨hs, silent, held⟩ := ClockRecord.legal_iff.1 h
  refine { hs with held, quiet := fun na nl => ?_ }
  cases q : c.silence with
  | none => rfl
  | some t => exact absurd ((silenceLegal_iff.1 silent).1 t q).2.1 (by simp [na, nl])

theorem restartSilence_running {c : ClockRecord} (now : LocalTime) (h : c.lock = .acquiring ∨ c.lock = .locked) :
    restartSilence now c = { c with silence := some (startTimer now c.cfg.silenceMs) } := by
  unfold restartSilence
  obtain q | q := h <;> rw [q]

theorem restartSilence_other {c : ClockRecord} (now : LocalTime) (h : ¬(c.lock = .acquiring ∨ c.lock = .locked)) :
    restartSilence now c = c := by
  unfold restartSilence
  cases q : c.lock <;> simp_all

/-- Stage 9 makes the record legal (R88). -/
theorem ClockRecord.legal_restartSilence {c : ClockRecord} (now : LocalTime) (h : ClockRecord.BeforeSilence c) :
    (restartSilence now c).legal .live = true := by
  by_cases q : c.lock = .acquiring ∨ c.lock = .locked
  · rw [restartSilence_running now q]
    exact ClockRecord.legal_iff.2 ⟨{ h.toSound with },
      silenceLegal_iff.2 ⟨by rintro t ⟨⟩; exact ⟨rfl, q, rfl⟩, nofun⟩, h.held⟩
  · rw [restartSilence_other now q]
    obtain ⟨na, nl⟩ := not_or.1 q
    have none := h.quiet na nl
    exact ClockRecord.legal_iff.2 ⟨h.toSound, silenceLegal_iff.2 ⟨by simp [none], fun _ _ => ⟨na, nl⟩⟩, h.held⟩

variable {c : ClockRecord}

/-- A record anchored at a sample stands so (R78, R79, R83). -/
theorem ClockRecord.beforeSilence_anchoredAt (a : Anchor) (u : Bool) (h : ClockRecord.BeforeSilence c) :
    ClockRecord.BeforeSilence { c.anchoredAt a with updatePending := u } := by
  obtain ⟨i, o, r⟩ := ClockConfig.limits_pos h.cfg
  exact {
    cfg := h.cfg, trim := h.trim, lastError := h.lastError, inCount := i, outCount := o, rejectRun := r, inLock := .inl rfl,
    outLock := .inr rfl, anchor := by simp [ClockRecord.anchoredAt], reserved := nofun, mark := fun _ => ⟨rfl, rfl⟩,
    held := holdoverLegal_iff.2 ⟨nofun, nofun⟩, quiet := fun q => absurd rfl q }

/-- The trim stays in its range (R82). -/
theorem nextTrim_bounds (r e : Int) (g : Nat) : -1048576 ≤ nextTrim r e g ∧ nextTrim r e g ≤ 1048576 := by
  have lim : Config.trimLimit = 1048576 := rfl
  simp only [nextTrim, clamp, lim]
  omega

/-- The last error stays within 32 bits (R81). -/
theorem saturate32_bounds (e : Int) : -2147483648 ≤ saturate32 e ∧ saturate32 e ≤ 2147483647 := by
  simp only [saturate32, clamp]
  omega

/-- A compared sample's error and line leave the record so (R81, R82). -/
theorem ClockRecord.beforeSilence_applied (x : Sample) (e : Int) (ht : c.lock.timeless = false) (h : ClockRecord.BeforeSilence c) :
    ClockRecord.BeforeSilence (applied x e { c with lastError := some (saturate32 e) }) := by
  have hu : c.lock ≠ .unset := by rintro q; simp [q, LockState.timeless] at ht
  obtain ⟨-, -, hr⟩ := ClockConfig.limits_pos h.cfg
  exact { h with
    trim := nextTrim_bounds _ _ _, lastError := by rintro _ ⟨⟩; exact saturate32_bounds e, rejectRun := hr
    anchor := by simp [applied, hu], mark := fun _ => ⟨ht, rfl⟩ }

/-- The record's own counters and lock state after an IN sample leave it so (R85 to R87). -/
theorem ClockRecord.beforeSilence_countIn (h : ClockRecord.BeforeSilence c) : ClockRecord.BeforeSilence (countIn c).1 := by
  obtain ⟨i, o, -⟩ := ClockConfig.limits_pos h.cfg
  have anchored (q : c.lock ≠ .unset) : c.anchor ≠ none := fun n => q (h.anchor.1 n)
  unfold countIn
  split
  next q =>
    have hn := anchored (by simp [q])
    have ho : c.outCount = 0 := by simpa [q] using h.outLock
    have hh : c.holdover = none := by
      cases w : c.holdover with
      | none => rfl
      | some t => simpa [q] using ((holdoverLegal_iff.1 h.held).1 t w).2.1
    split
    · exact { h with
        inCount := i, outCount := o, inLock := .inr rfl, outLock := .inr rfl, anchor := by simp [hn]
        reserved := nofun, mark := fun _ => ⟨rfl, rfl⟩, held := holdoverLegal_iff.2 ⟨by simp [hh], by simp⟩
        quiet := fun _ w => absurd rfl w }
    · exact { h with inCount := by dsimp only; omega, inLock := .inl q }
  next q => exact { h with outCount := o, outLock := .inr rfl }
  next q =>
    have hn := anchored (by simp [q])
    exact { h with
      inCount := i, outCount := o, inLock := .inr rfl, outLock := .inr rfl, anchor := by simp [hn]
      reserved := nofun, mark := fun _ => ⟨rfl, rfl⟩, held := holdoverLegal_iff.2 ⟨nofun, by simp⟩
      quiet := fun _ w => absurd rfl w }
  next => exact h
  next => exact h

/-- The record's own counters and lock state after an OUT sample leave it so (R85 to R87). -/
theorem ClockRecord.beforeSilence_countOut (h : ClockRecord.BeforeSilence c) : ClockRecord.BeforeSilence (countOut c).1 := by
  obtain ⟨i, o, -⟩ := ClockConfig.limits_pos h.cfg
  have anchored (q : c.lock ≠ .unset) : c.anchor ≠ none := fun n => q (h.anchor.1 n)
  unfold countOut
  split
  next q => exact { h with inCount := i, inLock := .inl q }
  next q =>
    have hn := anchored (by simp [q])
    have hh : c.holdover = none := by
      cases w : c.holdover with
      | none => rfl
      | some t => simpa [q] using ((holdoverLegal_iff.1 h.held).1 t w).2.1
    split
    · exact { h with
        inCount := i, outCount := o, inLock := .inl rfl, outLock := .inr rfl, anchor := by simp [hn]
        reserved := nofun, mark := fun _ => ⟨rfl, rfl⟩, held := holdoverLegal_iff.2 ⟨by simp [hh], by simp⟩
        quiet := fun w => absurd rfl w }
    · exact { h with outCount := by dsimp only; omega, outLock := .inl (by simp [q]) }
  next q =>
    have hn := anchored (by simp [q])
    exact { h with
      inCount := i, outCount := o, inLock := .inl rfl, outLock := .inr rfl, anchor := by simp [hn]
      reserved := nofun, mark := fun _ => ⟨rfl, rfl⟩, held := holdoverLegal_iff.2 ⟨nofun, by simp⟩
      quiet := fun w => absurd rfl w }
  next => exact h
  next => exact h

/-- Stages 3 to 8 leave the record so (R78 to R87). -/
theorem ClockRecord.beforeSilence_handleSample (x : Sample) (h : ClockRecord.BeforeSilence c) :
    ClockRecord.BeforeSilence (handleSample x c).clock := by
  have again (c : ClockRecord) (h : ClockRecord.BeforeSilence c) : ClockRecord.BeforeSilence (reanchor x c).clock :=
    ClockRecord.beforeSilence_anchoredAt _ _ h
  have jump (c : ClockRecord) (h : ClockRecord.BeforeSilence c) : ClockRecord.BeforeSilence (jumpSample x c).clock := by
    unfold jumpSample
    split
    · exact again c h
    · split
      · exact again c h
      · exact { h with rejectRun := by dsimp only; omega }
  unfold handleSample
  split
  · exact ClockRecord.beforeSilence_anchoredAt _ _ h
  rename_i ht
  have ht := Bool.eq_false_iff.2 ht
  split
  · exact ClockRecord.beforeSilence_anchoredAt _ _ h
  split
  · exact ClockRecord.beforeSilence_anchoredAt _ _ h
  · dsimp only
    split
    · exact again c h
    split
    · exact h
    split
    · exact again c h
    · unfold compared
      dsimp only
      split
      · exact ClockRecord.beforeSilence_countIn (ClockRecord.beforeSilence_applied x _ ht h)
      · exact ClockRecord.beforeSilence_countOut (ClockRecord.beforeSilence_applied x _ ht h)
      · exact jump _ { h with lastError := by rintro _ ⟨⟩; exact saturate32_bounds _ }

end Sys2Proof.Machine
end

section
/-! SUPPORT. The Estimator's commands and the Reference Intake's, as runs of table changes (R56 to R96). -/

namespace Sys2Proof.Machine

variable {s t u : State}

/-! ## One sample on one record -/

/-- What handling a sample keeps of a record: its counts and its active source; the notices are slot kinds, and no timebase
is lost (R78 to R87). -/
structure Handled.Keeps (c : ClockRecord) (r : Handled) : Prop where
  counts : CountsKept c r.clock
  active : r.clock.active = c.active
  lock : r.clock.lock.timeless = true → c.lock.timeless = true
  flags : r.notices &&& 0xe007 = 0

theorem CountsKept.trans {c c' c'' : ClockRecord} (h : CountsKept c c') (h' : CountsKept c' c'') : CountsKept c c'' :=
  ⟨h'.leases.trans h.leases, h'.aliases.trans h.aliases, h'.wakes.trans h.wakes⟩

variable {c : ClockRecord}

theorem noNotice_slotKind : (0 : NoticeSet) &&& 0xe007 = 0 := by decide
theorem lockGained_slotKind : NoticeKind.lockGained.flag &&& 0xe007 = 0 := by decide
theorem lockLost_slotKind : NoticeKind.lockLost.flag &&& 0xe007 = 0 := by decide

theorem flagWhen_slotKind (b : Bool) {k : NoticeKind} (h : k.flag &&& 0xe007 = 0) : flagWhen b k &&& 0xe007 = 0 := by
  cases b
  · exact noNotice_slotKind
  · exact h

theorem or_slotKinds {f g : NoticeSet} (hf : f &&& 0xe007 = 0) (hg : g &&& 0xe007 = 0) : (f ||| g) &&& 0xe007 = 0 := by
  have dist : (f ||| g) &&& 0xe007 = (f &&& 0xe007) ||| (g &&& 0xe007) := by ext i; simp; grind
  rw [dist, hf, hg]
  rfl

theorem anchoring_keeps (x : Sample) : Handled.Keeps c (anchoring x c) :=
  ⟨⟨rfl, rfl, rfl⟩, rfl, nofun, flagWhen_slotKind _ (by decide)⟩

theorem breakReanchor_keeps (x : Sample) : Handled.Keeps c (breakReanchor x c) :=
  ⟨⟨rfl, rfl, rfl⟩, rfl, nofun, or_slotKinds (by decide) (flagWhen_slotKind _ (by decide))⟩

theorem reanchor_keeps (x : Sample) : Handled.Keeps c (reanchor x c) :=
  ⟨⟨rfl, rfl, rfl⟩, rfl, nofun, or_slotKinds (by decide) (flagWhen_slotKind _ (by decide))⟩

theorem countIn_keeps : Handled.Keeps c { clock := (countIn c).1, notices := (countIn c).2, broke := false } := by
  unfold countIn
  split
  next =>
    split
    · exact ⟨⟨rfl, rfl, rfl⟩, rfl, nofun, lockGained_slotKind⟩
    · exact ⟨⟨rfl, rfl, rfl⟩, rfl, id, noNotice_slotKind⟩
  next => exact ⟨⟨rfl, rfl, rfl⟩, rfl, id, noNotice_slotKind⟩
  next => exact ⟨⟨rfl, rfl, rfl⟩, rfl, nofun, lockGained_slotKind⟩
  next => exact ⟨⟨rfl, rfl, rfl⟩, rfl, id, noNotice_slotKind⟩
  next => exact ⟨⟨rfl, rfl, rfl⟩, rfl, id, noNotice_slotKind⟩

theorem countOut_keeps : Handled.Keeps c { clock := (countOut c).1, notices := (countOut c).2, broke := false } := by
  unfold countOut
  split
  next => exact ⟨⟨rfl, rfl, rfl⟩, rfl, id, noNotice_slotKind⟩
  next =>
    split
    · exact ⟨⟨rfl, rfl, rfl⟩, rfl, nofun, lockLost_slotKind⟩
    · exact ⟨⟨rfl, rfl, rfl⟩, rfl, id, noNotice_slotKind⟩
  next => exact ⟨⟨rfl, rfl, rfl⟩, rfl, nofun, lockLost_slotKind⟩
  next => exact ⟨⟨rfl, rfl, rfl⟩, rfl, id, noNotice_slotKind⟩
  next => exact ⟨⟨rfl, rfl, rfl⟩, rfl, id, noNotice_slotKind⟩

theorem jumpSample_keeps (x : Sample) : Handled.Keeps c (jumpSample x c) := by
  unfold jumpSample
  split
  · exact reanchor_keeps x
  · split
    · exact reanchor_keeps x
    · exact ⟨⟨rfl, rfl, rfl⟩, rfl, id, noNotice_slotKind⟩

/-- What holds of a record with another last error, line or reject run holds of the record. -/
theorem Handled.Keeps.of_fields {c' : ClockRecord} {r : Handled} (h : Handled.Keeps c' r) (counts : CountsKept c c')
    (active : c'.active = c.active) (lock : c'.lock = c.lock) : Handled.Keeps c r where
  counts := counts.trans h.counts
  active := h.active.trans active
  lock q := lock ▸ h.lock q
  flags := h.flags

theorem handleSample_keeps (x : Sample) : Handled.Keeps c (handleSample x c) := by
  unfold handleSample
  split
  · exact anchoring_keeps x
  split
  · exact breakReanchor_keeps x
  split
  · exact anchoring_keeps x
  dsimp only
  split
  · exact reanchor_keeps x
  split
  · exact ⟨⟨rfl, rfl, rfl⟩, rfl, id, noNotice_slotKind⟩
  split
  · exact reanchor_keeps x
  unfold compared
  dsimp only
  split
  · exact countIn_keeps.of_fields ⟨rfl, rfl, rfl⟩ rfl rfl
  · exact countOut_keeps.of_fields ⟨rfl, rfl, rfl⟩ rfl rfl
  · exact (jumpSample_keeps x).of_fields ⟨rfl, rfl, rfl⟩ rfl rfl

/-- Stage 9 writes the silence timer alone. -/
theorem restartSilence_eq (now : LocalTime) (c : ClockRecord) :
    restartSilence now c = { c with silence := (restartSilence now c).silence } := by
  unfold restartSilence
  split <;> rfl

/-! ## SAMPLE_TAKE -/

/-- A sample of the role that is or becomes active, on a record as stages 1 and 2 left it, given the notices `f`. -/
theorem applySample_run {cmd : Instr} {x : Sample} {c c1 : ClockRecord} {f : NoticeSet}
    (cur : s.current x.clock = some (.live, .ofClock c)) (legal : c.legal .live = true → c1.legal .live = true)
    (counts : CountsKept c c1) (lock : c1.lock = c.lock) (source : c1.active = some x.role)
    (bound : s.roleBound x.clock x.role = true) (flags : f &&& 0xe007 = 0) :
    Run cmd s (applySample x c1 (s.notify x.clock.slot f)) := by
  have keeps := handleSample_keeps (c := c1) x
  have cur' : (s.notify x.clock.slot f).current x.clock = some (.live, .ofClock c) := by rw [current_notify, cur]
  have silent := restartSilence_eq s.lt (handleSample x c1).clock
  have legal' (h : c.legal .live = true) : (restartSilence s.lt (handleSample x c1).clock).legal .live = true :=
    ClockRecord.legal_restartSilence _
      (ClockRecord.beforeSilence_handleSample x (ClockRecord.beforeSilence_of_legal (legal h)))
  have counts' : CountsKept c (restartSilence s.lt (handleSample x c1).clock) := by
    rw [silent]
    exact counts.trans ⟨keeps.counts.leases, keeps.counts.aliases, keeps.counts.wakes⟩
  have active' : (restartSilence s.lt (handleSample x c1).clock).active = some x.role := by
    rw [silent]
    exact keeps.active.trans source
  have source' : SourceKept s x.clock c (restartSilence s.lt (handleSample x c1).clock) :=
    ⟨.inr ⟨_, active', bound⟩, fun n => by simp [active'] at n⟩
  have lock' : (restartSilence s.lt (handleSample x c1).clock).lock.timeless = true → c.lock.timeless = true := by
    rw [silent]
    exact fun q => lock ▸ keeps.lock q
  rw [applySample_eq cur', State.notify_of_current f cur]
  simp only [State.withRecord_withRecord]
  split
  · exact .clock (.recordEnding _ cur (fun h => ClockRecord.legal_wakesEnded (legal' h)) counts' source'
      (or_slotKinds flags keeps.flags))
  · exact .clock (.record cur legal' counts' source' lock' (or_slotKinds flags keeps.flags))

theorem liveClock_eq_some {h : Handle} {c : ClockRecord} :
    s.liveClock h = some c ↔ s.current h = some (.live, .ofClock c) := by
  unfold State.liveClock
  split <;> simp_all

/-- Hearing a role writes its last-heard LT alone (R76). -/
theorem ClockRecord.legal_hear {ph : Phase} (r : Role) (now : LocalTime) (h : c.legal ph = true) :
    (c.hear r now).legal ph = true := by
  cases r <;> exact h

theorem notify_zero (i : SlotNo) : s.notify i 0 = s := by
  have e : s.slots.set i.val (s.slot i) i.isLt = s.slots := Vector.set_getElem_self _
  have e0 : (s.slot i).notices ||| (0 : NoticeSet) = (s.slot i).notices := by simp
  simp only [State.notify, State.putSlot, e0]
  exact congrArg (fun x => { s with slots := x }) e

theorem useSample_run {cmd : Instr} (x : Sample) : Run cmd s (useSample x s) := by
  unfold useSample
  split
  · exact .refl
  next c live =>
    have cur := liveClock_eq_some.1 live
    split
    · exact .refl
    next bound =>
      have bound := Bool.eq_true_of_not_eq_false bound
      have counts : CountsKept c (c.hear x.role s.lt) := by cases x.role <;> exact ⟨rfl, rfl, rfl⟩
      have lock : (c.hear x.role s.lt).lock = c.lock := by cases x.role <;> rfl
      have active : (c.hear x.role s.lt).active = c.active := by cases x.role <;> rfl
      have run : (c.hear x.role s.lt).rejectRun = c.rejectRun := by cases x.role <;> rfl
      dsimp only
      split
      next same =>
        simpa only [notify_zero] using applySample_run (f := 0) cur (ClockRecord.legal_hear _ _) counts lock
          (active.trans same) bound (by decide)
      · split
        · refine applySample_run cur (fun h => ?_) ⟨counts.leases, counts.aliases, counts.wakes⟩ lock rfl bound
            (by decide)
          obtain ⟨hs, silent, held⟩ := ClockRecord.legal_iff.1 (ClockRecord.legal_hear x.role s.lt h)
          obtain ⟨-, -, r⟩ := ClockConfig.limits_pos hs.cfg
          exact ClockRecord.legal_iff.2 ⟨{ hs with rejectRun := r }, silent, held⟩
        · rw [State.updClock_of_current _ cur]
          exact .clock (.record cur (ClockRecord.legal_hear _ _) counts ⟨.inl active, fun _ q => run.trans q⟩
            (fun q => lock ▸ q) (by decide))

theorem takeSample_run {cmd : Instr} : Run cmd s (takeSample s) := by
  unfold takeSample
  split
  · exact .refl
  next n x _ =>
    have empty : Quiet s (s.updInput n fun i => { i with holding := none }) := quiet_updInput id
    have taken : Quiet s { s.updInput n (fun i => { i with holding := none }) with estPtr := n + 1 } :=
      empty.trans (.of_same ⟨rfl, rfl, rfl, rfl, rfl⟩ (.of_eq rfl rfl rfl rfl rfl))
    exact (Run.quiet taken).trans (useSample_run x)

/-! ## Silence and holdover -/

/-- A LIVE clock with a timer enters STALE (R92). -/
theorem enterStale_run {cmd : Instr} {h : Handle} (cur : s.current h = some (.live, .ofClock c))
    (known : c.legal .live = true → c.anchor ≠ none) : Run cmd s (enterStale h s) := by
  unfold enterStale
  rw [State.updClock_notify _ _ cur]
  refine .clock (.recordEnding _ cur (fun legal => ?_) ⟨rfl, rfl, rfl⟩ ⟨.inl rfl, fun _ _ => rfl⟩ (by decide))
  obtain ⟨hs, -, -⟩ := ClockRecord.legal_iff.1 legal
  obtain ⟨i, o, r⟩ := ClockConfig.limits_pos hs.cfg
  refine ClockRecord.legal_iff.2 ⟨{ hs with
    inCount := i, outCount := o, rejectRun := r, inLock := .inr rfl, outLock := .inr rfl, anchor := by simp [known legal]
    reserved := nofun, mark := nofun }, ?_, ?_⟩
  · exact silenceLegal_iff.2 ⟨nofun, by simp⟩
  · exact holdoverLegal_iff.2 ⟨nofun, by simp⟩

/-- A switch goes to a bound role (R89). -/
theorem switchRole_bound {h : Handle} {r : Role} (e : switchRole h c s = some r) : s.roleBound h r = true := by
  unfold switchRole at e
  split at e
  · cases e
  split at e
  · cases e
  split at e
  next q =>
    cases e
    exact (Bool.and_eq_true_iff.1 q).1
  · cases e

theorem silenceExpired_run {cmd : Instr} {h : Handle} {d : Timer} (cur : s.current h = some (.live, .ofClock c))
    (running : c.silence = some d) : Run cmd s (silenceExpired h c s) := by
  have known (legal : c.legal .live = true) : c.anchor ≠ none := fun n => by
    obtain ⟨hs, silent, -⟩ := ClockRecord.legal_iff.1 legal
    simpa [hs.anchor.1 n] using ((silenceLegal_iff.1 silent).1 d running).2.1
  unfold silenceExpired
  split
  next r switch =>
    rw [State.updClock_notify _ _ cur]
    refine .clock (.record cur (fun legal => ?_) ⟨rfl, rfl, rfl⟩ ⟨.inr ⟨r, rfl, switchRole_bound switch⟩, nofun⟩ id
      (by decide))
    obtain ⟨hs, silent, held⟩ := ClockRecord.legal_iff.1 legal
    obtain ⟨-, -, pos⟩ := ClockConfig.limits_pos hs.cfg
    obtain ⟨-, lock, -⟩ := (silenceLegal_iff.1 silent).1 d running
    exact ClockRecord.legal_iff.2 ⟨{ hs with rejectRun := pos },
      silenceLegal_iff.2 ⟨by rintro _ ⟨⟩; exact ⟨rfl, lock, rfl⟩, nofun⟩, held⟩
  · split
    next locked =>
      split
      · exact enterStale_run cur known
      · rw [State.updClock_notify _ _ cur]
        refine .clock (.record cur (fun legal => ?_) ⟨rfl, rfl, rfl⟩ ⟨.inl rfl, fun _ => id⟩ nofun (by decide))
        obtain ⟨hs, -, -⟩ := ClockRecord.legal_iff.1 legal
        exact ClockRecord.legal_iff.2 ⟨{ hs with
          inLock := .inr (by simpa [locked] using hs.inLock), outLock := .inl nofun, anchor := by simp [known legal]
          reserved := nofun, mark := fun _ => ⟨rfl, rfl⟩ },
          silenceLegal_iff.2 ⟨nofun, by simp⟩,
          holdoverLegal_iff.2 ⟨by rintro _ ⟨⟩; exact ⟨rfl, rfl, rfl⟩, nofun⟩⟩
    · exact enterStale_run cur known
    · exact .refl
    · exact .refl
    · exact .refl

theorem takeSilenceExpiry_run {cmd : Instr} (i : SlotNo) : Run cmd s (takeSilenceExpiry i s) := by
  unfold takeSilenceExpiry
  split
  · exact .refl
  next c live =>
    split
    · exact .refl
    next d running =>
      split
      · exact silenceExpired_run (liveClock_eq_some.1 live) running
      · exact .refl

theorem takeHoldoverExpiry_run {cmd : Instr} (i : SlotNo) : Run cmd s (takeHoldoverExpiry i s) := by
  unfold takeHoldoverExpiry
  split
  · exact .refl
  next c live =>
    split
    · exact .refl
    next d running =>
      split
      · refine enterStale_run (liveClock_eq_some.1 live) fun legal n => ?_
        obtain ⟨hs, -, held⟩ := ClockRecord.legal_iff.1 legal
        simpa [hs.anchor.1 n] using ((holdoverLegal_iff.1 held).1 d running).2.1
      · exact .refl

/-! ## SET_ANCHOR and SELECT_SOURCE -/

theorem checkHandle_pass {h : Handle} {x : Phase × Record} : checkHandle s h = .pass x ↔ s.current h = some x := by
  constructor
  · intro e
    unfold checkHandle at e
    split at e
    · cases e
    · split at e
      · cases e
      next q =>
        cases e
        exact q
  · exact checkHandle_of_current

theorem checkClock_pass {h : Handle} {ph : Phase} (e : checkClock s h = .pass (ph, c)) :
    s.current h = some (ph, .ofClock c) := by
  unfold checkClock at e
  split at e
  · cases e
  · cases e
  next q =>
    cases e
    exact checkHandle_pass.1 q

theorem setAnchor_run {cmd : Instr} (h : Handle) (rv : RefValue) (trim : Int) : Run cmd s (setAnchor h rv trim s) := by
  unfold setAnchor
  split
  · exact Run.quiet (quiet_hold _ _)
  next ph c check =>
    have cur := checkClock_pass check
    split
    · exact Run.quiet (quiet_hold _ _)
    split
    · exact Run.quiet (quiet_hold _ _)
    next drain range =>
      rw [State.updClock_notify _ _ cur]
      refine Run.hold ?_ _ _
      refine Run.clock (.record cur (fun legal => ?_) ⟨rfl, rfl, rfl⟩ ⟨.inl rfl, fun _ _ => rfl⟩ nofun
        (flagWhen_slotKind _ (by decide)))
      obtain ⟨hs, silent, held⟩ := ClockRecord.legal_iff.1 legal
      obtain ⟨i, o, r⟩ := ClockConfig.limits_pos hs.cfg
      have range : -Config.trimLimit ≤ trim ∧ trim ≤ Config.trimLimit := by simpa [trimInRange] using range
      refine ClockRecord.legal_iff.2 ⟨{
        cfg := hs.cfg, trim := range, lastError := hs.lastError, inCount := i, outCount := o, rejectRun := r
        inLock := .inl rfl, outLock := .inr rfl, anchor := by simp [ClockRecord.placed, ClockRecord.anchoredAt]
        reserved := fun _ => .inr rfl, mark := fun _ => ⟨rfl, Bool.eq_false_iff.2 drain⟩ }, silenceLegal_iff.2 ?_,
        holdoverLegal_iff.2 ⟨nofun, fun _ _ => nofun⟩⟩
      cases ph with
      | live => exact ⟨by rintro _ ⟨⟩; exact ⟨rfl, .inl rfl, rfl⟩, nofun⟩
      | reserved | draining =>
        refine ⟨fun t q => ?_, fun _ => nofun⟩
        cases ((silenceLegal_iff.1 silent).1 t q).1

theorem selectSource_run {cmd : Instr} (h : Handle) (r : Role) : Run cmd s (selectSource h r s) := by
  unfold selectSource
  split
  · exact Run.quiet (quiet_hold _ _)
  next ph c check =>
    have cur := checkClock_pass check
    split
    · exact Run.quiet (quiet_hold _ _)
    next bound =>
      split
      · exact Run.quiet (quiet_hold _ _)
      · rw [State.updClock_notify _ _ cur]
        refine Run.hold ?_ _ _
        refine Run.clock (.record cur (fun legal => ?_) ⟨rfl, rfl, rfl⟩
          ⟨.inr ⟨r, rfl, Bool.eq_true_of_not_eq_false bound⟩, nofun⟩ id (by decide))
        obtain ⟨hs, silent, held⟩ := ClockRecord.legal_iff.1 legal
        obtain ⟨-, -, pos⟩ := ClockConfig.limits_pos hs.cfg
        exact ClockRecord.legal_iff.2 ⟨{ hs with rejectRun := pos }, silent, held⟩

/-! ## BIND and UNBIND -/

theorem checkBind_pass {input : Byte} {tag : StreamTag} {h : Handle} {role : Role} {i : InputNo}
    (e : checkBind s input tag h role = .pass i) : ∃ ph c, s.current h = some (ph, .ofClock c) ∧
      ph.isDraining = false ∧ s.binding i tag = none ∧ s.roleBound h role = false ∧
      s.bindings.length < Config.bindingCapacity := by
  unfold checkBind at e
  split at e
  · cases e
  next ph r check =>
    split at e
    · cases e
    · split_ifs at e with alias_ drain key role_ room
      cases e
      cases r with
      | ofAlias a => exact absurd rfl alias_
      | ofClock c =>
        exact ⟨ph, c, checkHandle_pass.1 check, Bool.eq_false_iff.2 drain, by simpa using key, Bool.eq_false_iff.2 role_,
          Nat.lt_of_not_le room⟩

theorem bindTag_run {cmd : Instr} (input : Byte) (tag : StreamTag) (h : Handle) (role : Role) :
    Run cmd s (bindTag input tag h role s) := by
  unfold bindTag
  split
  · exact Run.quiet (quiet_hold _ _)
  next i check =>
    obtain ⟨ph, c, cur, drain, key, free, room⟩ := checkBind_pass check
    exact Run.hold (.clock (.bound cur drain key free room)) _ _

theorem unbindTag_run {cmd : Instr} (input : Byte) (tag : StreamTag) : Run cmd s (unbindTag input tag s) := by
  unfold unbindTag
  split
  · exact Run.quiet (quiet_hold _ _)
  · split
    · exact Run.quiet (quiet_hold _ _)
    next b found =>
      exact Run.hold (.clock (.unbound (List.mem_of_find?_eq_some found))) _ _

theorem setInputOffset_run {cmd : Instr} (input : Byte) (o : Int) : Run cmd s (setInputOffset input o s) := by
  unfold setInputOffset
  split
  · exact Run.quiet (quiet_hold _ _)
  · split
    · exact Run.quiet (quiet_hold _ _)
    next range =>
      refine Run.quiet ((quiet_updInput fun legal => ?_).trans (quiet_hold _ _))
      have range := Bool.eq_true_of_not_eq_false range
      simp_all [Input.legal]

/-! ## Frames -/

theorem startFrame_quiet (n : InputNo) : Quiet s (startFrame n s) := by
  unfold startFrame
  split
  · exact quiet_updInput fun legal => by simp_all [Input.legal]
  · exact .refl s
  · exact .refl s

theorem sampleInputBit_quiet (n : InputNo) (bit : Bool) : Quiet s (sampleInputBit n bit s) := by
  unfold sampleInputBit
  split
  next count bits receiver =>
    refine quiet_updInput fun legal => ?_
    have kept : bits.length = min count Config.sampleFrameBits := by simp_all [Input.legal]
    have next : (if count < Config.sampleFrameBits then bits ++ [bit] else bits).length =
        min (count + 1) Config.sampleFrameBits := by
      split
      · rw [List.length_append, List.length_singleton]
        omega
      · omega
    simp_all [Input.legal]
  · exact .refl s
  · exact .refl s

/-- Input notices keep an input legal (R64). -/
theorem Input.legal_notices {i : Input} {f : NoticeSet} (h : i.legal = true) (hf : f &&& 0xfff8 = 0) :
    { i with notices := i.notices ||| f }.legal = true := by
  have dist : (i.notices ||| f) &&& 0xfff8 = (i.notices &&& 0xfff8) ||| (f &&& 0xfff8) := by ext j; simp; grind
  simp_all [Input.legal]

theorem takeFrame_quiet (n : InputNo) (count : Nat) (bits : List Bool) : Quiet s (takeFrame n count bits s) := by
  unfold takeFrame
  split
  · exact quiet_updInput fun legal => Input.legal_notices legal (by decide)
  · split
    · exact quiet_updInput fun legal => Input.legal_notices legal (by decide)
    · refine quiet_updInput fun legal => ?_
      have late (b : Bool) : flagWhen b .overrun &&& 0xfff8 = 0 := by cases b <;> decide
      exact Input.legal_notices (i := { s.input n with holding := _ }) legal (late _)

theorem endFrame_quiet (n : InputNo) : Quiet s (endFrame n s) := by
  unfold endFrame
  split
  · exact (quiet_updInput fun legal => by simp_all [Input.legal]).trans (takeFrame_quiet n _ _)
  · exact .refl s
  · exact .refl s

theorem unblockReceiver_quiet (n : InputNo) : Quiet s (unblockReceiver n s) := by
  unfold unblockReceiver
  split
  · exact quiet_updInput fun legal => by simp_all [Input.legal]
  · exact .refl s
  · exact .refl s

end Sys2Proof.Machine
end

section
/-! SUPPORT. The Deadline Unit's commands, leases, retargets and splices, as runs of table changes (R136 to R172). -/

namespace Sys2Proof.Machine

variable {s t u : State} {cmd : Instr}

/-! ## The Deadline List beside the other tables -/

theorem updClock_deadlines (l : List DeadlineEntry) (h : Handle) (f : ClockRecord → ClockRecord) :
    (s.putDeadlines l).updClock h f = (s.updClock h f).putDeadlines l := by
  obtain ⟨ph, c, e, q⟩ | ⟨ne, q⟩ := updClock_cases (s := s) h f <;> rw [q]
  · exact State.updClock_of_current (s := (s.putDeadlines l)) f e
  · obtain ⟨ph, c, e, -⟩ | ⟨-, q⟩ := updClock_cases (s := (s.putDeadlines l)) h f
    · exact absurd e (ne ph c)
    · exact q

theorem updAlias_deadlines (l : List DeadlineEntry) (h : Handle) (f : AliasRecord → AliasRecord) :
    (s.putDeadlines l).updAlias h f = (s.updAlias h f).putDeadlines l := by
  obtain ⟨ph, a, e, q⟩ | ⟨ne, q⟩ := updAlias_cases (s := s) h f <;> rw [q]
  · exact State.updAlias_of_current (s := s.putDeadlines l) f e
  · obtain ⟨ph, a, e, -⟩ | ⟨-, q⟩ := updAlias_cases (s := s.putDeadlines l) h f
    · exact absurd e (ne ph a)
    · exact q

/-- An entry put in its place is the list with that entry. -/
theorem insertEntry_perm (now : LocalTime) (e : DeadlineEntry) (l : List DeadlineEntry) :
    (insertEntry now e l).Perm (e :: l) := by
  induction l with
  | nil => exact .refl _
  | cons x l ih =>
    unfold insertEntry
    split
    · exact .refl _
    · exact (ih.cons x).trans (.swap e x l)

theorem isWakeOf_iff {h : Handle} {e : DeadlineEntry} :
    e.isWakeOf h = true ↔ ∃ n tag named p, e.work = .wake n tag named h p := by
  unfold DeadlineEntry.isWakeOf
  split
  next q => simp [q]
  next q => simp [q]

/-- The earliest-armed entry of a list is one of its entries. -/
theorem earliestArmed_mem {l : List DeadlineEntry} {e : DeadlineEntry} (h : earliestArmed l = some e) : e ∈ l := by
  induction l generalizing e with
  | nil => cases h
  | cons x l ih =>
    unfold earliestArmed at h
    split at h
    · cases h
      exact List.mem_cons_self
    next m q =>
      split at h <;> cases h
      · exact List.mem_cons_of_mem _ (ih q)
      · exact List.mem_cons_self

/-! ## UPDATE_NOTICE -/

/-- An operation that deals with one entry is run over a list of them. The Deadline List starts as these entries and those
the state keeps, in any order. -/
theorem foldl_entries_run {f : State → DeadlineEntry → State} {P : DeadlineEntry → Prop}
    (one : ∀ (s : State) (l todo : List DeadlineEntry) (e : DeadlineEntry), P e → l.Perm (e :: (todo ++ s.deadlines)) →
      Run cmd (s.putDeadlines l) ((f s e).putDeadlines (todo ++ (f s e).deadlines)))
    {todo : List DeadlineEntry} (all : ∀ e ∈ todo, P e) {s : State} {l : List DeadlineEntry}
    (perm : l.Perm (todo ++ s.deadlines)) (done : todo = [] → l = s.deadlines) :
    Run cmd (s.putDeadlines l) (todo.foldl f s) := by
  induction todo generalizing s l with
  | nil =>
    rw [done rfl]
    exact .refl
  | cons e todo ih =>
    exact (one s l todo e (all e List.mem_cons_self) perm).trans
      (ih (fun x m => all x (List.mem_cons_of_mem _ m)) (.refl _) fun q => by rw [q]; rfl)

theorem lowerWakeCount_putDeadlines (l : List DeadlineEntry) (h : Handle) :
    (s.putDeadlines l).lowerWakeCount h = (s.lowerWakeCount h).putDeadlines l :=
  updClock_deadlines l h _

/-- A wake taken from the list and recomputed is completed or put back (R146). -/
theorem recomputeWake_run (c : ClockRecord) (s : State) (l todo : List DeadlineEntry) (e : DeadlineEntry)
    (wake : ∃ n tag named b p, e.work = .wake n tag named b p) (perm : l.Perm (e :: (todo ++ s.deadlines))) :
    Run cmd (s.putDeadlines l)
      ((recomputeWake c s e).putDeadlines (todo ++ (recomputeWake c s e).deadlines)) := by
  obtain ⟨n, tag, named, b, p, work⟩ := wake
  have taken (x : ResponseEntry) : Run cmd (s.putDeadlines l)
      (((s.push n x).lowerWakeCount b).putDeadlines (todo ++ ((s.push n x).lowerWakeCount b).deadlines)) := by
    have := ListOp.wakeTaken (s := (s.push n x).putDeadlines l) perm work
    rw [State.lowerWakeCount_deadlines, ← lowerWakeCount_putDeadlines]
    exact Run.trans (Run.quiet (quiet_push n x)) (Run.list this)
  unfold recomputeWake
  split
  next q => simp [work] at q
  next q =>
    cases work.symm.trans q
    split
    · exact taken _
    · exact taken _
    next d _ =>
      refine Run.list (.wakeMoved (s := s.putDeadlines l) d perm ?_ ⟨n, tag, named, b, p, work⟩)
      exact ((insertEntry_perm s.lt _ _).append_left _).trans List.perm_middle

theorem filter_split {α : Type} (p : α → Bool) (l : List α) :
    l.Perm (l.filter p ++ l.filter fun x => !p x) ∧ (l.filter p = [] → l = l.filter fun x => !p x) := by
  refine ⟨(List.filter_append_perm p l).symm, fun q => ?_⟩
  rw [eq_comm, List.filter_eq_self]
  intro x m
  simpa using List.filter_eq_nil_iff.1 q x m

theorem recomputeAll_run {h : Handle} {ph : Phase} {c : ClockRecord} (cur : s.current h = some (ph, .ofClock c)) :
    Run cmd s (recomputeAll h c s) := by
  obtain ⟨perm, done⟩ := filter_split (DeadlineEntry.isWakeOf h) s.deadlines
  have cleared : Run cmd s (s.updClock h fun c => { c with updatePending := false }) := by
    rw [State.updClock_of_current _ cur]
    refine Run.clock (.record cur (fun legal => ?_) ⟨rfl, rfl, rfl⟩ ⟨.inl rfl, fun _ => id⟩ id (by decide))
    obtain ⟨hs, silent, held⟩ := ClockRecord.legal_iff.1 legal
    exact ClockRecord.legal_iff.2 ⟨{ hs with mark := nofun }, silent, held⟩
  have fold := foldl_entries_run (cmd := cmd) (recomputeWake_run c)
    (s := (s.updClock h fun c => { c with updatePending := false }).putDeadlines
      (s.deadlines.filter fun e => !e.isWakeOf h)) (fun e m => ?_) perm done
  · have same : ((s.updClock h fun c => { c with updatePending := false }).putDeadlines
        (s.deadlines.filter fun e => !e.isWakeOf h)).putDeadlines s.deadlines =
        s.updClock h fun c => { c with updatePending := false } :=
      (updClock_deadlines s.deadlines h _).symm
    rw [same, ← updClock_deadlines] at fold
    exact cleared.trans fold
  · obtain ⟨n, tag, named, p, work⟩ := isWakeOf_iff.1 (List.mem_filter.1 m).2
    exact ⟨n, tag, named, h, p, work⟩

theorem clock_eq_some {h : Handle} {c : ClockRecord} (e : s.clock h = some c) : ∃ ph, s.current h = some (ph, .ofClock c) := by
  unfold State.clock at e
  split at e
  next ph _ q =>
    cases e
    exact ⟨ph, q⟩
  · cases e
  · cases e

theorem takeUpdateNotice_run (i : SlotNo) : Run cmd s (takeUpdateNotice i s) := by
  unfold takeUpdateNotice
  split
  · exact .refl
  next c q =>
    split
    · obtain ⟨ph, cur⟩ := clock_eq_some q
      exact recomputeAll_run cur
    · exact .refl

/-! ## Expiries -/

theorem takeWakeExpiry_run : Run cmd s (takeWakeExpiry s) := by
  unfold takeWakeExpiry
  split
  · exact .refl
  next e rest list =>
    split
    · exact .refl
    next n tag named b p work =>
      split
      · unfold fireWake
        dsimp only
        exact Run.trans (Run.quiet (quiet_push n _)) (Run.list (.wakeTaken (s := s.push n _) (.of_eq list) work))
      · exact .refl

theorem takeSpliceExpiry_run : Run cmd s (takeSpliceExpiry s) := by
  unfold takeSpliceExpiry
  split
  · exact .refl
  next e rest list =>
    split
    · exact .refl
    next o h n work =>
      split
      · unfold executeSplice
        split
        next ph a cur =>
          dsimp only
          split
          · have := ListOp.spliceExecuted (s := s) 0 list work cur (by decide)
            rw [notify_zero] at this
            exact Run.push (Run.list this) _ _
          · exact Run.list (.spliceExecuted _ list work cur (by decide))
        next cur =>
          have orphaned : Run cmd s (s.putDeadlines rest) :=
            Run.list (.spliceOrphaned list work fun ph a q => by
              have := cur.symm.trans q
              cases this)
          split
          · exact Run.push orphaned _ _
          · exact orphaned
        next cur =>
          have orphaned : Run cmd s (s.putDeadlines rest) :=
            Run.list (.spliceOrphaned list work fun ph a q => by
              have := cur.symm.trans q
              cases this)
          split
          · exact Run.push orphaned _ _
          · exact orphaned
      · exact .refl

/-! ## WAKE and CANCEL -/

/-- What resolution yields of a named record and its clock (R41 to R46). -/
theorem resolve_pass {level : Nat} {use : UseKind} {fresh : Bool} {h : Handle} {r : Resolved}
    (e : resolve s level use fresh h = .pass r) :
    ∃ rec, s.current h = some (r.phase, rec) ∧ r.named = h ∧ r.phase ≠ .reserved ∧
      (fresh = true → r.phase.isDraining = false) ∧ follow s h rec = .pass (r.eff, r.clock) := by
  unfold resolve at e
  split at e
  · cases e
  next ph rec check =>
    split at e
    · cases e
    next reserved =>
      split at e
      · cases e
      split at e
      · cases e
      next eff c followed =>
        split_ifs at e with use_ useEff drain
        cases e
        refine ⟨rec, checkHandle_pass.1 check, rfl, reserved, fun q => ?_, followed⟩
        simpa [q] using drain

/-- The clock behind a record: itself, or a target that is not RESERVED (R44). -/
theorem follow_pass {h eff : Handle} {ph : Phase} {rec : Record} {c : ClockRecord} (cur : s.current h = some (ph, rec))
    (e : follow s h rec = .pass (eff, c)) :
    (eff = h ∧ rec = .ofClock c) ∨
      ∃ a pe, rec = .ofAlias a ∧ a.target = eff ∧ s.current eff = some (pe, .ofClock c) ∧ pe ≠ .reserved := by
  unfold follow at e
  split at e
  · cases e
    exact .inl ⟨rfl, rfl⟩
  next a =>
    split at e
    · cases e
    next pe _ notReserved q =>
      cases e
      exact .inr ⟨a, pe, rfl, rfl, q, fun w => notReserved w⟩
    · cases e
    · cases e

theorem judgeWake_arm {r : Resolved} {now : LocalTime} {full : Bool} {p : RefValue} {b : Handle} {d : LocalTime}
    (e : judgeWake r now full p = .arm b d) : b = r.eff ∧ r.clock.lock.timeless = false ∧ full = false := by
  unfold judgeWake at e
  split at e
  · cases e
  next timeless =>
    split at e
    · cases e
    · split at e
      · cases e
      split at e
      · cases e
      split at e
      · cases e
      · split_ifs at e with room
        cases e
        exact ⟨rfl, Bool.eq_false_iff.2 timeless, Bool.eq_false_iff.2 room⟩

theorem answerWake_run (n : PortNo) (tag : Byte) (h : Handle) (p : RefValue) :
    Run cmd s (answerWake n tag h p (decideWake s n h p) (s.serve n)) := by
  refine Run.trans (Run.quiet (quiet_serve n)) ?_
  unfold answerWake
  split
  · exact Run.push .refl _ _
  · exact Run.push .refl _ _
  next b d decided =>
    unfold decideWake at decided
    split at decided
    · cases decided
    next r resolved =>
      obtain ⟨rfl, lock, room⟩ := judgeWake_arm decided
      obtain ⟨rec, cur, -, reserved, drain, followed⟩ := resolve_pass resolved
      have live : r.phase = .live := by
        have := drain rfl
        cases q : r.phase <;> simp_all [Phase.isDraining]
      obtain ⟨same, rfl⟩ | ⟨a, pe, rfl, target, curEff, reservedEff⟩ := follow_pass cur followed
      · exact Run.list (.wakeArmed (s := s.serve n) room (by rw [same]; exact cur) (.inl live) lock)
      · exact Run.list (.wakeArmed (s := s.serve n) room curEff (.inr ⟨reservedEff, h, _, a, cur, target⟩) lock)

/-- A SPLICE entry leaves the list without executing, and its origin is told (R151). -/
theorem dropSplice_run {e : DeadlineEntry} {o : Origin} {h h' n : Handle} (x : Ending) (now : LocalTime)
    (mem : e ∈ s.deadlines) (work : e.work = .splice o h' n)
    (named : h' = h ∨ ∃ ph a, s.current h = some (ph, .ofAlias a) ∧ a.pendingSplice = some e.order)
    (told : o = .management → ∃ ph a, s.current h = some (ph, .ofAlias a)) :
    Run cmd s ((s.dropSplice e h n).tellSplice o x (droppedSpliceBody now h n e.due)) := by
  have perm := List.perm_cons_erase mem
  unfold State.dropSplice
  cases o with
  | port m tag =>
    have := ListOp.spliceDropped 0 perm work named (.inl rfl)
    rw [notify_zero] at this
    exact Run.push (Run.list this) _ _
  | management => exact Run.list (.spliceDropped _ perm work named (.inr ⟨rfl, told rfl⟩))

theorem cancelEntry_run {e : DeadlineEntry} (mem : e ∈ s.deadlines) {n : PortNo} {wanted : Byte}
    (tag : e.hasTag n wanted = true) : Run cmd s (cancelEntry e n s) := by
  unfold cancelEntry
  split
  next work =>
    exact Run.trans (Run.quiet (quiet_push n _))
      (Run.list (.wakeTaken (s := s.push n _) (List.perm_cons_erase mem) work))
  next o h m work =>
    refine dropSplice_run _ _ mem work (.inl rfl) fun q => ?_
    simp [DeadlineEntry.hasTag, work, q] at tag

theorem cancelTag_run (n : PortNo) (own wanted : Byte) : Run cmd s (cancelTag n own wanted s) := by
  unfold cancelTag
  split
  · exact Run.push .refl _ _
  next e found =>
    obtain ⟨mem, tag⟩ := List.mem_filter.1 (earliestArmed_mem found)
    exact Run.push (cancelEntry_run mem tag) _ _

/-! ## Leases -/

theorem freeLease_eq_some {k : LeaseNo} (e : s.freeLease = some k) : s.lease k = none := by
  simpa using List.find?_some e

theorem takeLease_run (n : PortNo) (tag : Byte) (h : Handle) : Run .lease s (takeLease n tag h s) := by
  unfold takeLease
  split
  · exact Run.push .refl _ _
  next r resolved =>
    split
    · exact Run.push .refl _ _
    split
    · exact Run.push .refl _ _
    next k free =>
      obtain ⟨rec, cur, named, reserved, drain, -⟩ := resolve_pass resolved
      have live : r.phase = .live := by
        have := drain rfl
        cases q : r.phase <;> simp_all [Phase.isDraining]
      have granted : Run .lease s ((s.putLease k (some { port := n, named := r.named, grant := s.lt })).updRecord r.named
          (Record.updLeaseCount (· + 1))) :=
        Run.tenure (.granted (freeLease_eq_some free) (by rw [named]; exact cur) live)
      refine Run.push ?_ _ _
      exact granted.trans (Run.quiet (quiet_updPort fun _ hl ht => ⟨hl, ht⟩))

theorem leaseHeldBy_eq_some {n : PortNo} {number : Byte} {k : LeaseNo} {l : Lease}
    (e : s.leaseHeldBy n number = some (k, l)) : s.lease k = some l ∧ l.port = n ∧ k.val = number.toNat := by
  unfold State.leaseHeldBy at e
  split_ifs at e
  split at e
  next q =>
    split_ifs at e with port
    cases e
    exact ⟨q, port, rfl⟩
  · cases e

theorem takeRelease_run (n : PortNo) (tag number : Byte) : Run .release s (takeRelease n tag number s) := by
  unfold takeRelease
  split
  · exact Run.push .refl _ _
  next k l held =>
    obtain ⟨held, -, -⟩ := leaseHeldBy_eq_some held
    refine Run.push (Run.trans (Run.tenure (.givenUp (.inl rfl) held)) (Run.quiet ?_)) _ _
    exact quiet_updPort fun _ hl ht => ⟨hl, ht⟩

/-! ## RETARGET, SPLICE, UNSPLICE -/

theorem checkAliasFromMgmt_pass {h : Handle} {ph : Phase} {a : AliasRecord} :
    checkAliasFromMgmt s h = .pass (ph, a) ↔ s.current h = some (ph, .ofAlias a) := by
  rw [← checkHandle_pass]
  unfold checkAliasFromMgmt
  split <;> simp_all

theorem moveChecked {h n : Handle} {ph : Phase} {a b : AliasRecord} (cur : s.current h = some (ph, .ofAlias a))
    (e : checkMove s h n (ph, a) = .pass b) : b = a ∧ MoveChecked s h n a := by
  obtain ⟨same, drain, idle, target⟩ := checkMove_pass.1 e
  exact ⟨same, ⟨ph, cur, drain⟩, idle, target⟩

theorem takeRetarget_run (n : PortNo) (tag : Byte) (h m : Handle) : Run cmd s (takeRetarget n tag h m s) := by
  unfold takeRetarget
  split
  · exact Run.push .refl _ _
  next x check =>
    split
    · exact Run.push .refl _ _
    next b move =>
      obtain ⟨rfl, checked⟩ := moveChecked (checkAliasFromPort_pass.1 check).1 move
      exact Run.push (Run.list (.moved checked)) _ _

theorem mgmtRetarget_run (h m : Handle) : Run cmd s (mgmtRetarget h m s) := by
  unfold mgmtRetarget
  split
  · exact Run.hold .refl _ _
  next x check =>
    split
    · exact Run.hold .refl _ _
    next b move =>
      obtain ⟨rfl, checked⟩ := moveChecked (checkAliasFromMgmt_pass.1 check) move
      exact Run.hold (Run.list (.moved checked)) _ _

theorem takeSplice_run (n : PortNo) (tag : Byte) (h m : Handle) (d : LocalTime) :
    Run cmd s (takeSplice n tag h m d s) := by
  unfold takeSplice
  split
  · exact Run.push .refl _ _
  next x check =>
    split
    · exact Run.push .refl _ _
    next b move =>
      obtain ⟨rfl, checked⟩ := moveChecked (checkAliasFromPort_pass.1 check).1 move
      split
      · exact Run.push (Run.list (.moved checked)) _ _
      split
      · exact Run.push .refl _ _
      next room => exact Run.list (.spliceArmed (Bool.eq_false_iff.2 room) checked)

theorem mgmtSplice_run (h m : Handle) (d : LocalTime) : Run cmd s (mgmtSplice h m d s) := by
  unfold mgmtSplice
  split
  · exact Run.hold .refl _ _
  next x check =>
    split
    · exact Run.hold .refl _ _
    next b move =>
      obtain ⟨rfl, checked⟩ := moveChecked (checkAliasFromMgmt_pass.1 check) move
      split
      · exact Run.hold (Run.list (.moved checked)) _ _
      split
      · exact Run.hold .refl _ _
      next room => exact Run.hold (Run.list (.spliceArmed (Bool.eq_false_iff.2 room) checked)) _ _

/-- The entry an ALIAS has pending is in the list, at the place its record names, and is a SPLICE (R19). -/
theorem pendingEntry_eq_some {a : AliasRecord} {e : DeadlineEntry} {o : Origin} {n : Handle}
    (q : s.pendingEntry a = some (e, o, n)) :
    e ∈ s.deadlines ∧ a.pendingSplice = some e.order ∧ ∃ h, e.work = .splice o h n := by
  unfold State.pendingEntry at q
  split at q
  · cases q
  next place pending =>
    split at q
    · cases q
    next e' found =>
      split at q
      next work =>
        cases q
        have place_ : e.order = place := by simpa using List.find?_some found
        exact ⟨List.mem_of_find?_eq_some found, by rw [pending, place_], _, work⟩
      · cases q

theorem withdrawSplice_run {h : Handle} {ph : Phase} {a : AliasRecord} {e : DeadlineEntry} {o : Origin} {n : Handle}
    (cur : s.current h = some (ph, .ofAlias a)) (q : s.pendingEntry a = some (e, o, n)) (x : Ending) :
    Run cmd s ((s.dropSplice e h n).tellSplice o x (droppedSpliceBody s.lt h n e.due)) := by
  obtain ⟨mem, pending, h', work⟩ := pendingEntry_eq_some q
  exact dropSplice_run x s.lt mem work (.inr ⟨ph, a, cur, pending⟩) fun _ => ⟨ph, a, cur⟩

theorem takeUnsplice_run (n : PortNo) (tag : Byte) (h : Handle) : Run cmd s (takeUnsplice n tag h s) := by
  unfold takeUnsplice
  split
  · exact Run.push .refl _ _
  next check =>
    split
    · exact Run.push .refl _ _
    next found => exact Run.push (withdrawSplice_run (checkAliasFromPort_pass.1 check).1 found _) _ _

theorem mgmtUnsplice_run (h : Handle) : Run cmd s (mgmtUnsplice h s) := by
  unfold mgmtUnsplice
  split
  · exact Run.hold .refl _ _
  next check =>
    split
    · exact Run.hold .refl _ _
    next found => exact Run.hold (withdrawSplice_run (checkAliasFromMgmt_pass.1 check) found _) _ _

end Sys2Proof.Machine
end

section
/-! SUPPORT. The ports' commands and the Table Controller's, as runs of table changes, and with them every command: `exec_run`
(R13 to R40, R100 to R119, R174 to R187). -/

namespace Sys2Proof.Machine

variable {s t u : State} {cmd : Instr}

/-! ## Transactions -/

theorem bytesOfBits_length_lt {bits : List Bool} (h : bits.length < 8) : bytesOfBits bits = [] := by
  unfold bytesOfBits
  split
  · simp at h
    omega
  · rfl

/-- A sampled bit keeps a transaction legal: KIND ends at its eighth bit, REQUEST keeps bits up to the longest frame (R101,
R175). -/
theorem Transaction.legal_sample {σ : Type} {longest : Nat} (long : 8 ≤ longest) (sel : Option σ) (b : Bool)
    {x : Transaction σ} (h : x.legal longest = true) : (x.sample longest sel b).legal longest = true := by
  cases x with
  | idle | blocked => rfl
  | fetch st n sel => rfl
  | kind st bits =>
    have few : bits.length < 8 := by simpa [Transaction.legal] using h
    unfold Transaction.sample
    dsimp only
    split
    next short => simpa [Transaction.legal] using short
    next full =>
      rw [List.length_append, List.length_singleton] at full
      split
      · rfl
      · simp [Transaction.legal]
        omega
  | request st bits n m =>
    have kept : 8 ≤ n ∧ bits.length = min n longest := by simpa [Transaction.legal] using h
    simp only [Transaction.sample, Transaction.legal, Bool.and_eq_true, decide_eq_true_eq, beq_iff_eq]
    split
    · rw [List.length_append, List.length_singleton]
      omega
    · omega

theorem queryFrameBits_long : 8 ≤ Config.queryFrameBits := by decide
theorem mgmtFrameBits_long : 8 ≤ Config.mgmtFrameBits := by decide

/-- A port stays legal: its level is kept, and its transaction is legal when it was. -/
def PortKept (f : Port → Port) : Prop :=
  ∀ p : Port, (f p).level = p.level ∧
    (p.tx.legal Config.queryFrameBits = true → (f p).tx.legal Config.queryFrameBits = true)

theorem PortKept.quiet {f : Port → Port} (h : PortKept f) (n : PortNo) : Quiet s (s.updPort n f) :=
  quiet_updPort fun p hl ht => ⟨(h p).1 ▸ hl, (h p).2 ht⟩

theorem selectPort_kept : PortKept selectPort := by
  intro p
  unfold selectPort
  split
  · exact ⟨rfl, fun _ => by simp [Transaction.legal]⟩
  all_goals exact ⟨rfl, id⟩

theorem samplePortBit_kept (b : Bool) : PortKept (samplePortBit b) :=
  fun _ => ⟨rfl, Transaction.legal_sample queryFrameBits_long _ b⟩

theorem completeFetchKind_kept : PortKept completeFetchKind := by
  intro p
  unfold completeFetchKind
  split
  · exact samplePortBit_kept false p
  · exact ⟨rfl, id⟩

theorem endRequest_kept : PortKept endRequest := by
  intro p
  unfold endRequest
  split
  · exact ⟨rfl, fun _ => rfl⟩
  · exact ⟨rfl, fun _ => rfl⟩
  · split
    · exact ⟨rfl, fun _ => rfl⟩
    · refine ⟨?_, fun _ => rfl⟩
      unfold acceptRequest
      split <;> rfl
  all_goals exact ⟨rfl, id⟩

theorem endFetch_kept : PortKept endFetch := by
  intro p
  unfold endFetch
  split
  · refine ⟨?_, fun _ => rfl⟩
    dsimp only [clearReported]
    split
    · unfold removeHead
      split <;> rfl
    · rfl
  all_goals exact ⟨rfl, id⟩

theorem unblockPort_kept : PortKept unblockPort := by
  intro p
  unfold unblockPort
  split
  · exact ⟨rfl, fun _ => rfl⟩
  all_goals exact ⟨rfl, id⟩

theorem emptied_kept : PortKept Port.emptied := by
  intro p
  refine ⟨rfl, fun h => ?_⟩
  unfold Port.emptied loseSelection
  dsimp only
  split <;> simp_all [Transaction.legal]

theorem selectMgmt_quiet : Quiet s (selectMgmt s) := by
  unfold selectMgmt
  split
  · exact quiet_putMgmt fun _ => by simp [Transaction.legal]
  all_goals exact .refl s

theorem sampleMgmtBit_legal (b : Bool) {m : MgmtPort} (h : m.tx.legal Config.mgmtFrameBits = true) :
    (sampleMgmtBit b m).tx.legal Config.mgmtFrameBits = true :=
  Transaction.legal_sample mgmtFrameBits_long _ b h

theorem completeMgmtFetchKind_legal {m : MgmtPort} (h : m.tx.legal Config.mgmtFrameBits = true) :
    (completeMgmtFetchKind m).tx.legal Config.mgmtFrameBits = true := by
  unfold completeMgmtFetchKind
  split
  · exact sampleMgmtBit_legal false h
  · exact h

theorem endMgmtRequest_legal {m : MgmtPort} (h : m.tx.legal Config.mgmtFrameBits = true) :
    (endMgmtRequest m).tx.legal Config.mgmtFrameBits = true := by
  unfold endMgmtRequest
  split
  · rfl
  · rfl
  · split <;> rfl
  all_goals exact h

theorem endMgmtFetch_legal {m : MgmtPort} (h : m.tx.legal Config.mgmtFrameBits = true) :
    (endMgmtFetch m).tx.legal Config.mgmtFrameBits = true := by
  unfold endMgmtFetch
  split
  · rfl
  all_goals exact h

theorem unblockMgmt_legal {m : MgmtPort} (h : m.tx.legal Config.mgmtFrameBits = true) :
    (unblockMgmt m).tx.legal Config.mgmtFrameBits = true := by
  unfold unblockMgmt
  split
  · rfl
  all_goals exact h

/-! ## Port management, mask and notices -/

theorem setPortLevel_run (p l : Byte) : Run cmd s (setPortLevel p l s) := by
  unfold setPortLevel
  split
  · exact Run.hold .refl _ _
  · split
    · exact Run.hold .refl _ _
    next level =>
      refine Run.hold (Run.quiet ?_) _ _
      exact quiet_updPort fun p _ ht => ⟨Nat.le_of_not_lt level, ht⟩

theorem readPort_run (p : Byte) : Run cmd s (readPort p s) := by
  unfold readPort
  split
  · exact Run.hold .refl _ _
  · exact Run.hold .refl _ _

/-- An entry of a port that goes is taken from the list with its effects on counts (R153). -/
theorem forgetEntry_run (s : State) (l todo : List DeadlineEntry) (e : DeadlineEntry) (_ : True)
    (perm : l.Perm (e :: (todo ++ s.deadlines))) :
    Run cmd (s.putDeadlines l) ((forgetEntry s e).putDeadlines (todo ++ (forgetEntry s e).deadlines)) := by
  unfold forgetEntry
  split
  next n tag named b p work =>
    have := ListOp.wakeTaken (s := s.putDeadlines l) perm work
    rw [State.lowerWakeCount_deadlines, ← lowerWakeCount_putDeadlines]
    exact Run.list this
  next o h n work =>
    have := ListOp.spliceDropped (s := s.putDeadlines l) (h := h) 0 perm work (.inl rfl) (.inl rfl)
    rw [notify_zero] at this
    have same : ((s.lowerAliasCount n).updAlias h fun a => { a with pendingSplice := none }).putDeadlines
          (todo ++ s.deadlines) =
        ((s.putDeadlines (todo ++ s.deadlines)).lowerAliasCount n).updAlias h fun a =>
          { a with pendingSplice := none } := by
      unfold State.lowerAliasCount
      rw [updClock_deadlines, updAlias_deadlines]
    rw [State.updAlias_deadlines, State.lowerAliasCount_deadlines, same]
    exact Run.list this

theorem forgetEntries_run (n : PortNo) : Run cmd s (forgetEntries n s) := by
  obtain ⟨perm, done⟩ := filter_split (DeadlineEntry.isFrom n) s.deadlines
  exact foldl_entries_run forgetEntry_run (s := s.putDeadlines (s.deadlines.filter fun e => !e.isFrom n))
    (fun _ _ => trivial) perm done

theorem giveUpLeases_run (n : PortNo) : Run .portReset s (giveUpLeases n s) := by
  have one (s : State) (k : LeaseNo) : Run .portReset s (giveUpIfHeldBy n s k) := by
    unfold giveUpIfHeldBy
    split
    next l held =>
      split
      · exact Run.tenure (.givenUp (.inr rfl) held)
      · exact .refl
    · exact .refl
  have all (l : List LeaseNo) (s : State) : Run .portReset s (l.foldl (giveUpIfHeldBy n) s) := by
    induction l generalizing s with
    | nil => exact .refl
    | cons k l ih => exact (one s k).trans (ih _)
  exact all _ s

theorem portReset_run (p : Byte) : Run .portReset s (portReset p s) := by
  unfold portReset
  split
  · exact Run.hold .refl _ _
  next n _ =>
    refine Run.hold ?_ _ _
    exact ((forgetEntries_run n).trans (giveUpLeases_run n)).trans (Run.quiet (emptied_kept.quiet n))

theorem setMask_run (k : BitVec 14) : Run cmd s (setMask k s) := by
  have legal : maskOf k &&& 0xe000 = 0 := by
    unfold maskOf
    rw [BitVec.and_assoc]
    exact BitVec.and_zero
  have masked : Quiet s { s with mask := maskOf k } :=
    ⟨⟨rfl, rfl, rfl, rfl, rfl⟩, fun ⟨hi, hp, hm, _⟩ => ⟨hi, hp, hm, legal⟩, rfl⟩
  exact Run.hold (Run.quiet masked) _ _

/-- An unmasked flag of a set is a flag of the set (R183). -/
theorem noticed_of_unmasked {mask flags : NoticeSet} {k : NoticeKind} (h : noticed (unmasked mask flags) k = true) :
    noticed flags k = true := by
  unfold noticed unmasked at *
  rw [BitVec.getLsbD_and, Bool.and_eq_true] at h
  exact h.1

theorem nextNotice_run : Run .nextNotice s (nextNotice s) := by
  unfold nextNotice
  split
  next i _ =>
    refine Run.hold (Run.quiet (quiet_updInput fun legal => ?_)) _ _
    have mono (x f : NoticeSet) (h : x &&& 0xfff8 = 0) : x &&& ~~~f &&& 0xfff8 = 0 := by
      rw [BitVec.and_assoc, BitVec.and_comm _ (0xfff8 : NoticeSet), ← BitVec.and_assoc, h]
      exact BitVec.zero_and
    have := mono (s.input i).notices
    simp_all [Input.legal]
  · split
    next i found =>
      have slot : i ≠ 0 := by
        have := List.find?_some found
        simp_all
      exact Run.hold (Run.tenure (.collected slot _ noticed_of_unmasked)) _ _
    · exact Run.hold .refl _ _

/-! ## The Table Controller -/

theorem createClock_run : Run .createClock s (createClock s) := by
  unfold createClock
  split
  · exact Run.hold .refl _ _
  next i slot => exact Run.hold (Run.tenure (.clockCreated slot)) _ _

theorem createAlias_run (h : Handle) : Run .createAlias s (createAlias h s) := by
  unfold createAlias
  split
  · exact Run.hold .refl _ _
  next ph c check =>
    split
    · exact Run.hold .refl _ _
    next drain =>
      split
      · exact Run.hold .refl _ _
      next i slot =>
        exact Run.hold (Run.tenure (.aliasCreated slot (checkClock_pass check) (Bool.eq_false_iff.2 drain))) _ _

theorem enable_run (h : Handle) : Run .enable s (enable h s) := by
  unfold enable
  split
  · exact Run.hold .refl _ _
  next ph r check =>
    split
    · have cur := checkHandle_pass.1 check
      have := TenureOp.enabled cur
      have same : s.putContent h.slot (.active .live (r.enabled s.lt)) =
          s.withRecord h.slot .live (r.enabled s.lt) 0 := by
        simp [State.putContent, State.withRecord]
      rw [same]
      exact Run.hold (Run.tenure this) _ _
    · exact Run.hold .refl _ _
    · exact Run.hold .refl _ _

theorem readRecord_run (n : Byte) : Run cmd s (readRecord n s) := by
  unfold readRecord
  split
  · exact Run.hold .refl _ _
  · exact Run.hold .refl _ _

theorem takeDrainExpiry_run (i : SlotNo) : Run (.drainExpiry i) s (takeDrainExpiry i s) := by
  unfold takeDrainExpiry
  split
  next d r slot =>
    split
    · exact Run.tenure (.drained slot)
    · exact .refl
  all_goals exact .refl

end Sys2Proof.Machine
end

section
/-! SUPPORT. CONFIGURE and RETIRE as runs of table changes, and every command as such a run. -/

namespace Sys2Proof.Machine

variable {s t u : State} {cmd : Instr}

/-! ## CONFIGURE (R26 to R28) -/

/-- One change made to a CLOCK record. -/
def ClockRecord.change (c : ClockRecord) (ch : Change) : ClockRecord := (configField ch.id).elim c fun f => c.setField f ch.value

/-- One change made to an ALIAS record. -/
def AliasRecord.change (a : AliasRecord) (ch : Change) : AliasRecord := (configField ch.id).elim a fun f => a.setField f ch.value

theorem configured_ofClock (c : ClockRecord) (cs : List Change) :
    (Record.ofClock c).configured cs = .ofClock (cs.foldl ClockRecord.change c) := by
  unfold Record.configured
  induction cs generalizing c with
  | nil => rfl
  | cons ch cs ih =>
    rw [List.foldl_cons, List.foldl_cons, ← ih]
    unfold Record.change ClockRecord.change
    cases configField ch.id <;> rfl

theorem configured_ofAlias (a : AliasRecord) (cs : List Change) :
    (Record.ofAlias a).configured cs = .ofAlias (cs.foldl AliasRecord.change a) := by
  unfold Record.configured
  induction cs generalizing a with
  | nil => rfl
  | cons ch cs ih =>
    rw [List.foldl_cons, List.foldl_cons, ← ih]
    unfold Record.change AliasRecord.change
    cases configField ch.id <;> rfl

/-- What every change keeps of a record, a fold of changes keeps. -/
theorem foldl_keeps {α β : Type} {P : α → Prop} {f : α → β → α} {l : List β} (one : ∀ x, ∀ y ∈ l, P x → P (f x y)) {x : α}
    (h : P x) : P (l.foldl f x) := by
  induction l generalizing x with
  | nil => exact h
  | cons y l ih =>
    exact ih (fun x z m => one x z (List.mem_cons_of_mem _ m)) (one x y List.mem_cons_self h)

/-- The record with a jump limit above every lock window: what a CONFIGURE keeps legal change by change, the order of the two
windows being tested on the result (R26). -/
def ClockRecord.wide (c : ClockRecord) : ClockRecord := { c with cfg := { c.cfg with jumpLimit := 65536 } }

theorem ClockRecord.legal_iff_wide {ph : Phase} {c : ClockRecord} :
    c.legal ph = true ↔ c.wide.legal ph = true ∧ c.cfg.lockWindow < c.cfg.jumpLimit ∧ c.cfg.jumpLimit ≤ 2147483647 := by
  have cfg : c.cfg.legal = true ↔
      c.wide.cfg.legal = true ∧ c.cfg.lockWindow < c.cfg.jumpLimit ∧ c.cfg.jumpLimit ≤ 2147483647 := by
    rw [ClockConfig.legal_iff, ClockConfig.legal_iff]
    simp only [ClockRecord.wide]
    omega
  constructor
  · intro h
    obtain ⟨hs, timers⟩ := ClockRecord.legal_iff.1 h
    exact ⟨ClockRecord.legal_iff.2 ⟨{ hs with cfg := (cfg.1 hs.cfg).1 }, timers⟩, (cfg.1 hs.cfg).2⟩
  · rintro ⟨h, windows⟩
    obtain ⟨hs, timers⟩ := ClockRecord.legal_iff.1 h
    exact ClockRecord.legal_iff.2 ⟨{ hs with cfg := cfg.2 ⟨hs.cfg, windows⟩ }, timers⟩

theorem lowerTo_lt {limit count : Nat} (h : 1 ≤ limit) : lowerTo limit count < limit := by
  unfold lowerTo
  split <;> omega

theorem lowerTo_zero (limit : Nat) : lowerTo limit 0 = 0 := by
  unfold lowerTo
  split <;> omega

/-- A timer formed anew from its start stands its parameter after it (R27). -/
theorem rederive_silence {ph : Phase} {c : ClockRecord} (h : silenceLegal ph c = true) (n : Nat) :
    silenceLegal ph { c with
      cfg := { c.cfg with silenceMs := n }, silence := c.silence.map fun t => t.rederive n } = true := by
  obtain ⟨some_, none_⟩ := silenceLegal_iff.1 h
  refine silenceLegal_iff.2 ⟨fun t q => ?_, fun q => none_ (by simpa using q)⟩
  obtain ⟨t', q', rfl⟩ := Option.map_eq_some_iff.1 q
  obtain ⟨live, lock, -⟩ := some_ t' q'
  exact ⟨live, lock, rfl⟩

theorem rederive_holdover {ph : Phase} {c : ClockRecord} (h : holdoverLegal ph c = true) (n : Nat) :
    holdoverLegal ph { c with
      cfg := { c.cfg with holdoverMs := n }, holdover := c.holdover.map fun t => t.rederive n } = true := by
  obtain ⟨some_, none_⟩ := holdoverLegal_iff.1 h
  refine holdoverLegal_iff.2 ⟨fun t q => ?_, fun q => none_ (by simpa using q)⟩
  obtain ⟨t', q', rfl⟩ := Option.map_eq_some_iff.1 q
  obtain ⟨live, lock, -⟩ := some_ t' q'
  exact ⟨live, lock, rfl⟩

/-- A field set within its range keeps the record legal, the windows apart (R26 to R28). -/
theorem ClockRecord.wide_setField {ph : Phase} {c : ClockRecord} {f : ConfigField} {v : BitVec 32}
    (h : c.wide.legal ph = true) (range : f.inRange v = true) : (c.setField f v).wide.legal ph = true := by
  obtain ⟨hs, silent, held⟩ := ClockRecord.legal_iff.1 h
  have cfg := ClockConfig.legal_iff.1 hs.cfg
  have small := v.isLt
  have keep (c' : ClockRecord) (e : c'.cfg.legal = true) (hi : c'.inCount < c'.cfg.enterCount)
      (ho : c'.outCount < c'.cfg.leaveCount) (hr : c'.rejectRun < c'.cfg.rejectLimit)
      (li : c.inCount = 0 → c'.inCount = 0) (lo : c.outCount = 0 → c'.outCount = 0)
      (same : c' = { c with
        cfg := c'.cfg, inCount := c'.inCount, outCount := c'.outCount, rejectRun := c'.rejectRun
        silence := c'.silence, holdover := c'.holdover })
      (hsl : silenceLegal ph c' = true) (hho : holdoverLegal ph c' = true) : c'.legal ph = true := by
    rw [same]
    exact ClockRecord.legal_iff.2 ⟨{
      cfg := e, trim := hs.trim, lastError := hs.lastError, inCount := hi, outCount := ho, rejectRun := hr
      inLock := hs.inLock.imp id li, outLock := hs.outLock.imp id lo, anchor := hs.anchor, reserved := hs.reserved
      mark := hs.mark }, same ▸ hsl, same ▸ hho⟩
  have cfg' : (c.setField f v).wide.cfg.legal = true := by
    rw [ClockConfig.legal_iff]
    simp only [ClockRecord.wide] at cfg
    cases f <;> simp [ConfigField.inRange] at range <;> simp only [ClockRecord.setField, ClockRecord.wide] <;> omega
  cases f with
  | enterCount =>
    have pos : 1 ≤ v.toNat := by simp [ConfigField.inRange] at range; exact range.1
    exact keep _ cfg' (lowerTo_lt pos) hs.outCount hs.rejectRun
      (fun q => (congrArg _ q).trans (lowerTo_zero _)) id rfl silent held
  | leaveCount =>
    have pos : 1 ≤ v.toNat := by simp [ConfigField.inRange] at range; exact range.1
    exact keep _ cfg' hs.inCount (lowerTo_lt pos) hs.rejectRun id
      (fun q => (congrArg _ q).trans (lowerTo_zero _)) rfl silent held
  | rejectLimit =>
    have pos : 1 ≤ v.toNat := by simp [ConfigField.inRange] at range; exact range.1
    exact keep _ cfg' hs.inCount hs.outCount (lowerTo_lt pos) id id rfl silent held
  | silenceMs => exact keep _ cfg' hs.inCount hs.outCount hs.rejectRun id id rfl (rederive_silence silent _) held
  | holdoverMs => exact keep _ cfg' hs.inCount hs.outCount hs.rejectRun id id rfl silent (rederive_holdover held _)
  | level | useSet | lockWindow | jumpLimit | jumpPolicy | gainShift | farEarly | lateTolerance | drainMs =>
    exact keep _ cfg' hs.inCount hs.outCount hs.rejectRun id id rfl silent held

/-- No field of a configuration above its range, the jump limit's included (R17). -/
theorem ClockRecord.jumpLimit_setField {c : ClockRecord} {f : ConfigField} {v : BitVec 32}
    (h : c.cfg.jumpLimit ≤ 2147483647) (range : f.inRange v = true) : (c.setField f v).cfg.jumpLimit ≤ 2147483647 := by
  cases f with
  | jumpLimit => simpa [ConfigField.inRange, ClockRecord.setField] using range
  | level | useSet | lockWindow | jumpPolicy | rejectLimit | enterCount | gainShift | silenceMs | holdoverMs | farEarly
  | lateTolerance | drainMs | leaveCount => exact h

/-- What setting a field of a CLOCK record leaves alone (R26 to R28). -/
structure ClockRecord.Configures (c c' : ClockRecord) : Prop where
  counts : CountsKept c c'
  active : c'.active = c.active
  rejectRun : c.rejectRun = 0 → c'.rejectRun = 0
  lock : c'.lock = c.lock

theorem ClockRecord.configures_setField (c : ClockRecord) (f : ConfigField) (v : BitVec 32) :
    ClockRecord.Configures c (c.setField f v) := by
  cases f with
  | rejectLimit => exact ⟨⟨rfl, rfl, rfl⟩, rfl, fun q => (congrArg _ q).trans (lowerTo_zero _), rfl⟩
  | level | useSet | lockWindow | jumpLimit | jumpPolicy | enterCount | gainShift | silenceMs | holdoverMs | farEarly
  | lateTolerance | drainMs | leaveCount => exact ⟨⟨rfl, rfl, rfl⟩, rfl, id, rfl⟩

theorem ClockRecord.configures_foldl (c : ClockRecord) (cs : List Change) :
    ClockRecord.Configures c (cs.foldl ClockRecord.change c) := by
  refine foldl_keeps (P := ClockRecord.Configures c) (fun x ch _ h => ?_) ⟨⟨rfl, rfl, rfl⟩, rfl, id, rfl⟩
  unfold ClockRecord.change
  cases configField ch.id with
  | none => exact h
  | some f =>
    obtain ⟨counts, active, run, lock⟩ := ClockRecord.configures_setField x f ch.value
    exact ⟨h.counts.trans counts, active.trans h.active, fun q => run (h.rejectRun q), lock.trans h.lock⟩

/-- Valid changes keep a CLOCK record legal when its windows are ordered after them (R26). -/
theorem ClockRecord.legal_configured {ph : Phase} {c : ClockRecord} {cs : List Change} (h : c.legal ph = true)
    (valid : ∀ ch ∈ cs, ch.valid = true)
    (ordered : (cs.foldl ClockRecord.change c).cfg.lockWindow < (cs.foldl ClockRecord.change c).cfg.jumpLimit) :
    (cs.foldl ClockRecord.change c).legal ph = true := by
  obtain ⟨wide, -, large⟩ := ClockRecord.legal_iff_wide.1 h
  obtain ⟨wide', large'⟩ := foldl_keeps (P := fun c => c.wide.legal ph = true ∧ c.cfg.jumpLimit ≤ 2147483647)
    (f := ClockRecord.change) (l := cs) (fun x ch m ⟨hw, hj⟩ => by
      have valid := valid ch m
      unfold Change.valid at valid
      unfold ClockRecord.change
      cases q : configField ch.id with
      | none => exact ⟨hw, hj⟩
      | some f =>
        rw [q] at valid
        exact ⟨ClockRecord.wide_setField hw valid, ClockRecord.jumpLimit_setField hj valid⟩) (x := c) ⟨wide, large⟩
  exact ClockRecord.legal_iff_wide.2 ⟨wide', ordered, large'⟩

theorem AliasRecord.legal_iff {a : AliasRecord} : a.legal = true ↔ a.level ≤ 3 ∧ 1 ≤ a.drainMs ∧ a.drainMs ≤ 65535 := by
  simp only [AliasRecord.legal, Bool.and_eq_true, decide_eq_true_eq]

theorem AliasRecord.legal_setField {a : AliasRecord} {f : ConfigField} {v : BitVec 32} (h : a.legal = true)
    (range : f.inRange v = true) : (a.setField f v).legal = true := by
  obtain ⟨level, drain⟩ := AliasRecord.legal_iff.1 h
  cases f with
  | level => exact AliasRecord.legal_iff.2 ⟨by simpa [ConfigField.inRange, AliasRecord.setField] using range, drain⟩
  | drainMs => exact AliasRecord.legal_iff.2 ⟨level, by simpa [ConfigField.inRange, AliasRecord.setField] using range⟩
  | useSet | lockWindow | jumpLimit | jumpPolicy | rejectLimit | enterCount | gainShift | silenceMs | holdoverMs | farEarly
  | lateTolerance | leaveCount => exact h

/-- Valid changes keep an ALIAS record legal, and its target, pending splice and lease count (R19, R26). -/
theorem AliasRecord.configured {a : AliasRecord} {cs : List Change} (valid : ∀ ch ∈ cs, ch.valid = true) :
    (a.legal = true → (cs.foldl AliasRecord.change a).legal = true) ∧
      (cs.foldl AliasRecord.change a).leaseCount = a.leaseCount ∧
      (cs.foldl AliasRecord.change a).target = a.target ∧
      (cs.foldl AliasRecord.change a).pendingSplice = a.pendingSplice := by
  refine foldl_keeps (P := fun a' : AliasRecord => (a.legal = true → a'.legal = true) ∧ a'.leaseCount = a.leaseCount ∧
    a'.target = a.target ∧ a'.pendingSplice = a.pendingSplice) (fun x ch m h => ?_) ⟨id, rfl, rfl, rfl⟩
  have valid := valid ch m
  unfold Change.valid at valid
  unfold AliasRecord.change
  cases q : configField ch.id with
  | none => exact h
  | some f =>
    rw [q] at valid
    refine ⟨fun legal => AliasRecord.legal_setField (h.1 legal) valid, ?_⟩
    cases f <;> exact h.2

theorem configureRefusal_none {h : Handle} {r : Record} {cs : List Change} (e : configureRefusal h r cs = none) :
    (∀ ch ∈ cs, ch.valid = true) ∧ (r.configured cs).windowsOrdered = true := by
  unfold configureRefusal at e
  split_ifs at e with kind sound
  simp only [Bool.and_eq_true, List.all_eq_true] at sound
  exact ⟨sound.1.2, sound.2⟩

theorem configure_run (h : Handle) (cs : List Change) : Run cmd s (configure h cs s) := by
  unfold configure
  split
  · exact Run.hold .refl _ _
  next ph r check =>
    have cur := checkHandle_pass.1 check
    split
    · exact Run.hold .refl _ _
    next accepted =>
      obtain ⟨valid, ordered⟩ := configureRefusal_none accepted
      rw [State.updRecord_of_current _ cur]
      refine Run.hold ?_ _ _
      cases r with
      | ofClock c =>
        rw [configured_ofClock] at ordered ⊢
        obtain ⟨counts, active, run, lock⟩ := ClockRecord.configures_foldl c cs
        exact Run.clock (.record cur (fun legal => ClockRecord.legal_configured legal valid (by
          simpa [Record.windowsOrdered] using ordered)) counts ⟨.inl active, fun _ => run⟩ (fun q => lock ▸ q)
          (by decide))
      | ofAlias a =>
        rw [configured_ofAlias]
        obtain ⟨legal, leases, target, pending⟩ := AliasRecord.configured (a := a) valid
        exact Run.list (.aliasFields cur legal leases target pending)

end Sys2Proof.Machine
end

section
/-! SUPPORT. RETIRE as a run of table changes, and every command as such a run. -/

namespace Sys2Proof.Machine

variable {s t u : State} {cmd : Instr}

/-! ## RETIRE (R29 to R31) -/

/-- A change to CLOCK records leaves an ALIAS as it is. -/
theorem current_updClock_ofAlias {h k : Handle} {ph : Phase} {a : AliasRecord} (f : ClockRecord → ClockRecord)
    (cur : s.current h = some (ph, .ofAlias a)) : (s.updClock k f).current h = some (ph, .ofAlias a) := by
  obtain ⟨p, c, e, q⟩ | ⟨-, q⟩ := updClock_cases (s := s) k f <;> rw [q]
  · rw [current_withRecord e, if_neg, cur]
    rintro rfl
    simp [cur] at e
  · exact cur

/-- A change to a CLOCK record and the withdrawal of a pending splice leave an ALIAS as it was but for that splice. -/
theorem current_splice_withdrawn {h n : Handle} {ph : Phase} {a : AliasRecord} (f : ClockRecord → ClockRecord)
    (cur : s.current h = some (ph, .ofAlias a)) :
    ((s.updClock n f).updAlias h fun a => { a with pendingSplice := none }).current h =
      some (ph, .ofAlias { a with pendingSplice := none }) := by
  have cur' := current_updClock_ofAlias (k := n) f cur
  exact (congrArg (fun x : State => x.current h) (State.updAlias_of_current _ cur')).trans
    (State.current_withRecord_self cur' _ _ _)

/-- With its pending splice dropped, an ALIAS record is as it was but for that splice (R151). -/
theorem current_droppedSplice {h n : Handle} {ph : Phase} {a : AliasRecord} (e : DeadlineEntry)
    (cur : s.current h = some (ph, .ofAlias a)) :
    (s.dropSplice e h n).current h = some (ph, .ofAlias { a with pendingSplice := none }) :=
  current_splice_withdrawn (s := s.putDeadlines (s.deadlines.erase e)) _ cur

/-- Telling a splice's origin keeps every record (R151). -/
theorem current_tellSplice (o : Origin) (x : Ending) (b : SpliceBody) (h : Handle) :
    (s.tellSplice o x b).current h = s.current h := by
  unfold State.tellSplice
  split
  · rfl
  · exact current_notify _ _ _

/-- What a RETIRE leaves of an ALIAS does not depend on the splice it had pending, once that has ended (R30). -/
theorem retireRecord_pendingEnded {h n : Handle} {ph : Phase} {a : AliasRecord} {e : DeadlineEntry} {o : Origin}
    (mode : RetireMode) (drain : ph.isDraining = false) (pending : s.pendingEntry a = some (e, o, n)) :
    retireRecord h ph (.ofAlias a) mode s =
      retireRecord h ph (.ofAlias { a with pendingSplice := none }) mode
        ((s.dropSplice e h n).tellSplice o .aliasRetired (droppedSpliceBody s.lt h n e.due)) := by
  have detached : detach h (.ofAlias a) s =
      (s.dropSplice e h n).tellSplice o .aliasRetired (droppedSpliceBody s.lt h n e.due) := by
    unfold detach
    simp only [pending]
  have idle (t : State) : detach h (.ofAlias { a with pendingSplice := none }) t = t := rfl
  unfold retireRecord
  simp only [drain, detached, idle, Record.leaseCount, Record.drainMs, State.tellSplice_lt, State.dropSplice_lt,
    Bool.false_eq_true, if_false]

theorem retireRefusal_none {ph : Phase} {r : Record} {mode : RetireMode} (e : retireRefusal ph r mode = none) :
    ¬(ph.isDraining = true ∧ mode = .normal) ∧ ∀ c, r = .ofClock c → c.aliasCount = 0 := by
  unfold retireRefusal at e
  split at e
  · cases e
  next busy =>
    refine ⟨busy, ?_⟩
    rintro c rfl
    by_contra n
    simp [Nat.pos_of_ne_zero n] at e

theorem retire_run (h : Handle) (mode : RetireMode) : Run .retire s (retire h mode s) := by
  unfold retire
  split
  · exact Run.hold .refl _ _
  next ph r check =>
    have cur := checkHandle_pass.1 check
    split
    · exact Run.hold .refl _ _
    next accepted =>
      obtain ⟨notBusy, alone⟩ := retireRefusal_none accepted
      refine Run.hold ?_ _ _
      cases r with
      | ofClock c => exact Run.tenure (.clockRetired mode cur (alone c rfl) notBusy)
      | ofAlias a =>
        cases drain : ph.isDraining with
        | true => exact Run.tenure (.aliasRetired mode cur (by simp [drain]) notBusy)
        | false =>
          match pending : s.pendingEntry a with
          | none => exact Run.tenure (.aliasRetired mode cur (fun _ => pending) notBusy)
          | some (e, o, n) =>
            rw [retireRecord_pendingEnded mode drain pending]
            refine (withdrawSplice_run cur pending _).trans (Run.tenure (.aliasRetired mode ?_ (fun _ => rfl) notBusy))
            rw [current_tellSplice]
            exact current_droppedSplice e cur

/-! ## Every command -/

/-- The request in progress, read from the management port (R175). -/
theorem inProgress_eq_some {q : MgmtRequest} : s.inProgress = some q ↔ s.mgmt.req = .inProgress q := by
  unfold State.inProgress
  cases s.mgmt.req <;> simp


/-- A command that answers a run's end, or the state unchanged while RST_N is low. -/
theorem run_of_taken {s' : State} (h : Run cmd s s') (e : taken s s' = .next t) : Run cmd s t := by
  unfold taken at e
  split at e <;> cases e
  · exact .refl
  · exact h

/-- Every command but a reset, its release and a purge in progress is a run of table changes. -/
theorem exec_run (e : exec cmd s = .next t) (reset : cmd ≠ .hardReset)
    (release : s.rstLow = true → ∀ a b m, cmd ≠ .resetRelease a b m) (purge : cmd = .purge → ¬s.asked .purge) :
    Run cmd s t := by
  cases cmd with
  | lclkTick => exact run_of_taken (s' := { s with lt := s.lt + 1 }) (Run.quiet ⟨⟨rfl, rfl, rfl, rfl, rfl⟩, id, rfl⟩) e
  | hardReset => exact absurd rfl reset
  | resetRelease a b m =>
    have e : Host.Outcome.next (if s.rstLow then releaseReset a b m s else s) = .next t := e
    split at e <;> cases e
    next low => exact absurd rfl (release low a b m)
    · exact .refl
  | frameStart n => exact run_of_taken (Run.quiet (startFrame_quiet n)) e
  | receiverUnblock n => exact run_of_taken (Run.quiet (unblockReceiver_quiet n)) e
  | frameEnd n => exact run_of_taken (Run.quiet (endFrame_quiet n)) e
  | inputBitSampled n b => exact run_of_taken (Run.quiet (sampleInputBit_quiet n b)) e
  | sampleTake => exact run_of_taken takeSample_run e
  | silenceExpiry i => exact run_of_taken (takeSilenceExpiry_run i) e
  | holdoverExpiry i => exact run_of_taken (takeHoldoverExpiry_run i) e
  | updateNotice i => exact run_of_taken (takeUpdateNotice_run i) e
  | wakeExpiry => exact run_of_taken takeWakeExpiry_run e
  | spliceExpiry => exact run_of_taken takeSpliceExpiry_run e
  | drainExpiry i => exact run_of_taken (takeDrainExpiry_run i) e
  | querySelect n => exact run_of_taken (Run.quiet (selectPort_kept.quiet n)) e
  | queryFetchSelect n => exact run_of_taken (Run.quiet (completeFetchKind_kept.quiet n)) e
  | queryBitSampled n b => exact run_of_taken (Run.quiet ((samplePortBit_kept b).quiet n)) e
  | queryRequestEnd n => exact run_of_taken (Run.quiet (endRequest_kept.quiet n)) e
  | queryFetchEnd n => exact run_of_taken (Run.quiet (endFetch_kept.quiet n)) e
  | queryPortUnblock n => exact run_of_taken (Run.quiet (unblockPort_kept.quiet n)) e
  | mgmtSelect => exact run_of_taken (Run.quiet selectMgmt_quiet) e
  | mgmtBitSampled b => exact run_of_taken (Run.quiet (quiet_putMgmt (sampleMgmtBit_legal b))) e
  | mgmtFetchSelect => exact run_of_taken (Run.quiet (quiet_putMgmt completeMgmtFetchKind_legal)) e
  | mgmtRequestEnd => exact run_of_taken (Run.quiet (quiet_putMgmt endMgmtRequest_legal)) e
  | mgmtFetchEnd => exact run_of_taken (Run.quiet (quiet_putMgmt endMgmtFetch_legal)) e
  | mgmtPortUnblock => exact run_of_taken (Run.quiet (quiet_putMgmt unblockMgmt_legal)) e
  | convert | invert | due | status => exact run_of_taken (by split; exacts [Run.push (Run.quiet (quiet_serve _)) _ _, .refl]) e
  | wake => exact run_of_taken (by split; exacts [answerWake_run _ _ _ _, .refl]) e
  | lease => exact run_of_taken (by split; exacts [(Run.quiet (quiet_serve _)).trans (takeLease_run _ _ _), .refl]) e
  | release => exact run_of_taken (by split; exacts [(Run.quiet (quiet_serve _)).trans (takeRelease_run _ _ _), .refl]) e
  | cancel => exact run_of_taken (by split; exacts [(Run.quiet (quiet_serve _)).trans (cancelTag_run _ _ _), .refl]) e
  | retarget => exact run_of_taken (by split; exacts [(Run.quiet (quiet_serve _)).trans (takeRetarget_run _ _ _ _), .refl]) e
  | splice => exact run_of_taken (by split; exacts [(Run.quiet (quiet_serve _)).trans (takeSplice_run _ _ _ _ _), .refl]) e
  | unsplice => exact run_of_taken (by split; exacts [(Run.quiet (quiet_serve _)).trans (takeUnsplice_run _ _ _), .refl]) e
  | createClock => exact run_of_taken (by split; exacts [createClock_run, .refl]) e
  | createAlias => exact run_of_taken (by split; exacts [createAlias_run _, .refl]) e
  | configure => exact run_of_taken (by split; exacts [configure_run _ _, .refl]) e
  | enable => exact run_of_taken (by split; exacts [enable_run _, .refl]) e
  | retire => exact run_of_taken (by split; exacts [retire_run _ _, .refl]) e
  | readRecord => exact run_of_taken (by split; exacts [readRecord_run _, .refl]) e
  | bind => exact run_of_taken (by split; exacts [bindTag_run _ _ _ _, .refl]) e
  | unbind => exact run_of_taken (by split; exacts [unbindTag_run _ _, .refl]) e
  | setInputOffset => exact run_of_taken (by split; exacts [setInputOffset_run _ _, .refl]) e
  | setAnchor => exact run_of_taken (by split; exacts [setAnchor_run _ _ _, .refl]) e
  | selectSource => exact run_of_taken (by split; exacts [selectSource_run _ _, .refl]) e
  | setPortLevel => exact run_of_taken (by split; exacts [setPortLevel_run _ _, .refl]) e
  | portReset => exact run_of_taken (by split; exacts [portReset_run _, .refl]) e
  | readPort => exact run_of_taken (by split; exacts [readPort_run _, .refl]) e
  | mgmtRetarget => exact run_of_taken (by split; exacts [mgmtRetarget_run _ _, .refl]) e
  | mgmtSplice => exact run_of_taken (by split; exacts [mgmtSplice_run _ _ _, .refl]) e
  | mgmtUnsplice => exact run_of_taken (by split; exacts [mgmtUnsplice_run _, .refl]) e
  | readIdentity | readTime => exact run_of_taken (by split; exacts [Run.hold .refl _ _, .refl]) e
  | setMask => exact run_of_taken (by split; exacts [setMask_run _, .refl]) e
  | nextNotice => exact run_of_taken (by split; exacts [nextNotice_run, .refl]) e
  | purge =>
    have e : taken s (match s.inProgress with
      | some .purge => (purgeAll s).hold .purge (.ok (.time s.lt))
      | _ => s) = .next t := e
    unfold taken at e
    split at e
    · cases e
      exact .refl
    next high =>
      split at e <;> cases e
      next q => exact absurd ⟨by simpa using high, inProgress_eq_some.1 q⟩ (purge rfl)
      · exact .refl

end Sys2Proof.Machine
end

section
/-! SUPPORT. The folds of the shared operations in closed form: the responses they append, the leases they free, and the
one slot they write (R30, R33, R34, R150). -/

namespace Sys2Proof.Machine

variable {s t : State}

/-! ## Responses appended to the ports -/

/-- Entries joined to the tails of the response queues, port by port. -/
def State.append (s : State) (f : PortNo → List ResponseEntry) : State :=
  { s with ports := Vector.ofFn fun n => { s.port n with responses := (s.port n).responses ++ f n } }

/-- States that agree but for their ports, and at every port, are equal. -/
theorem eq_of_ports (rest : t = { s with ports := t.ports }) (e : ∀ n, t.port n = s.port n) : t = s := by
  have same : t.ports = s.ports := Vector.ext fun i hi => e ⟨i, hi⟩
  calc t = { s with ports := t.ports } := rest
    _ = { s with ports := s.ports } := by rw [same]
    _ = s := rfl

/-- States that agree but for their leases, and at every lease number, are equal. -/
theorem eq_of_leases (rest : t = { s with leases := t.leases }) (e : ∀ k, t.lease k = s.lease k) : t = s := by
  have same : t.leases = s.leases := Vector.ext fun i hi => e ⟨i, hi⟩
  calc t = { s with leases := t.leases } := rest
    _ = { s with leases := s.leases } := by rw [same]
    _ = s := rfl

@[simp] theorem State.port_append (f : PortNo → List ResponseEntry) (n : PortNo) :
    (s.append f).port n = { s.port n with responses := (s.port n).responses ++ f n } := by
  simp [State.append, State.port]

theorem State.append_nil : (s.append fun _ => []) = s := eq_of_ports rfl fun n => by simp

theorem State.append_append (f g : PortNo → List ResponseEntry) :
    (s.append f).append g = s.append fun n => f n ++ g n := eq_of_ports rfl fun n => by simp

theorem State.push_eq_append (n : PortNo) (e : ResponseEntry) :
    s.push n e = s.append fun m => if n = m then [e] else [] := by
  refine eq_of_ports rfl fun m => ?_
  rw [State.port_push, State.port_append]
  split
  next q => rw [q]
  · rw [List.append_nil]

/-- A fold of appends appends everything. -/
theorem foldl_append {α : Type} {f : State → α → State} {g : α → PortNo → List ResponseEntry}
    (one : ∀ t x, t.lt = s.lt → f t x = t.append (g x)) (l : List α) :
    l.foldl f s = s.append fun n => l.flatMap fun x => g x n := by
  induction l generalizing s with
  | nil => exact State.append_nil.symm
  | cons x l ih =>
    rw [List.foldl_cons, one s x rfl, ih (s := s.append (g x)) one, State.append_append]
    simp only [List.flatMap_cons]

/-! ## Wakes that end (R150) -/

/-- The completion of an ended wake, on its port. -/
def DeadlineEntry.ended (now : LocalTime) (x : Ending) (e : DeadlineEntry) (n : PortNo) : List ResponseEntry :=
  match e.work with
  | .wake p tag _ b v => if p = n then [.wakeDone tag x (endedWakeBody now b v e.due)] else []
  | .splice .. => []

theorem endWake_eq_append (x : Ending) (e : DeadlineEntry) : s.endWake x e = s.append (e.ended s.lt x) := by
  unfold State.endWake DeadlineEntry.ended
  cases e.work with
  | wake p tag k b v => exact State.push_eq_append _ _
  | splice o k n => exact State.append_nil.symm

theorem flatMap_ended (now : LocalTime) (x : Ending) (h : Handle) (n : PortNo) (l : List DeadlineEntry) :
    ((l.filter (DeadlineEntry.isWakeOf h)).flatMap fun e => e.ended now x n) = l.filterMap fun e =>
      match e.work with
      | .wake p tag _ b v => if b = h ∧ p = n then some (.wakeDone tag x (endedWakeBody now h v e.due)) else none
      | .splice .. => none := by
  induction l with
  | nil => rfl
  | cons e l ih =>
    rw [List.filter_cons, List.filterMap_cons, ← ih]
    unfold DeadlineEntry.isWakeOf DeadlineEntry.ended
    cases work : e.work with
    | splice o k m => simp
    | wake p tag k b v =>
      by_cases hb : b = h
      · by_cases hp : p = n <;> simp [hb, hp, work]
      · simp [hb]

/-- The wakes bound to a CLOCK end (R150). -/
theorem endWakes_eq {h : Handle} {ph : Phase} {c : ClockRecord} (x : Ending) (cur : s.current h = some (ph, .ofClock c)) :
    s.endWakes h x = ((s.withRecord h.slot ph (.ofClock { c with wakeCount := 0, updatePending := false }) 0).putDeadlines
      (s.deadlines.filter fun e => !e.isWakeOf h)).append fun n => s.endedOn n h x := by
  unfold State.endWakes
  dsimp only
  rw [foldl_append (g := fun e => e.ended s.lt x) fun t e q => by rw [endWake_eq_append, q]]
  simp only [flatMap_ended]
  exact State.updClock_of_current _ (s := State.append { s with deadlines := _ } _) cur

/-! ## Leases that are revoked (R33) -/

/-- The Lease Table entry names the record. -/
def State.leaseNames (s : State) (h : Handle) (k : LeaseNo) : Bool := (s.lease k).any fun l => l.named == h

/-- The state with the leases of some numbers freed. -/
def State.freeLeases (s : State) (p : LeaseNo → Bool) : State :=
  { s with leases := Vector.ofFn fun k => if p k then none else s.lease k }

theorem State.lease_freeLeases (p : LeaseNo → Bool) (k : LeaseNo) :
    (s.freeLeases p).lease k = if p k then none else s.lease k := by
  simp [State.freeLeases, State.lease]

theorem State.freeLeases_none {p : LeaseNo → Bool} (e : ∀ k, p k = false) : s.freeLeases p = s :=
  eq_of_leases rfl fun k => by simp [State.lease_freeLeases, e]

theorem State.freeLeases_putLease {k : LeaseNo} {p q : LeaseNo → Bool} (hk : q k = true)
    (e : ∀ j, j ≠ k → q j = p j) : (s.putLease k none).freeLeases p = s.freeLeases q := by
  refine eq_of_leases rfl fun j => ?_
  rw [State.lease_freeLeases, State.lease_freeLeases, State.lease_putLease]
  by_cases n : k = j
  · subst n; simp [hk]
  · simp [n, e j (Ne.symm n)]

theorem Record.updLeaseCount_self (r : Record) : r.updLeaseCount (· - 0) = r := by cases r <;> rfl

theorem Record.updLeaseCount_sub (r : Record) (a b : Nat) :
    (r.updLeaseCount (· - a)).updLeaseCount (· - b) = r.updLeaseCount (· - (a + b)) := by
  cases r <;> simp [Record.updLeaseCount, Nat.sub_sub]

/-- The REVOKED notices of some of the leases. -/
def State.revokedBy (s : State) (h : Handle) (L : List LeaseNo) (n : PortNo) : List ResponseEntry :=
  L.filterMap fun k => (s.lease k).bind fun l => if l.named = h ∧ l.port = n then some (.revoked k h) else none

theorem revokeLease_eq {h : Handle} {ph : Phase} {r : Record} {k : LeaseNo} {l : Lease} (cur : s.current h = some (ph, r))
    (held : s.lease k = some l) (named : l.named = h) : s.revokeLease h k =
      ((s.putLease k none).withRecord h.slot ph (r.updLeaseCount (· - 1)) 0).push l.port (.revoked k h) := by
  unfold State.revokeLease
  simp only [held, named, if_true]
  rw [State.updRecord_of_current (s := s.putLease k none) _ cur]

theorem revokeLease_other {h : Handle} {k : LeaseNo} (n : s.leaseNames h k = false) : s.revokeLease h k = s := by
  unfold State.revokeLease
  unfold State.leaseNames at n
  split
  next l e => exact if_neg (by simpa [e] using n)
  · rfl

/-- A record written twice, with responses and freed leases between, is the record written last. -/
theorem State.withRecord_overwritten {i : SlotNo} {ph : Phase} {r r' : Record} (f : PortNo → List ResponseEntry)
    (p : LeaseNo → Bool) (s : State) : (((s.withRecord i ph r 0).append f).freeLeases p).withRecord i ph r' 0 =
      ((s.freeLeases p).withRecord i ph r' 0).append f :=
  congrArg (fun u : State => (u.freeLeases p).append f) (State.withRecord_withRecord i ph ph r r' 0 0)

/-- Revoking some of the leases on a record frees those that name it, lowers its lease count and tells their holders. -/
theorem foldl_revokeLease {h : Handle} {ph : Phase} {r : Record} (L : List LeaseNo) (distinct : L.Nodup)
    (cur : s.current h = some (ph, r)) :
    L.foldl (State.revokeLease h) s =
      (((s.freeLeases fun k => L.contains k && s.leaseNames h k).withRecord h.slot ph
        (r.updLeaseCount (· - L.countP (s.leaseNames h))) 0)).append (s.revokedBy h L) := by
  induction L generalizing s r with
  | nil =>
    rw [State.freeLeases_none (by simp), List.countP_nil, Record.updLeaseCount_self, State.withRecord_self cur]
    exact State.append_nil.symm
  | cons k L ih =>
    obtain ⟨new, distinct⟩ := List.nodup_cons.1 distinct
    rw [List.foldl_cons]
    cases names : s.leaseNames h k with
    | false =>
      have same : (fun j => (k :: L).contains j && s.leaseNames h j) = fun j => L.contains j && s.leaseNames h j := by
        funext j
        by_cases q : j = k
        · subst q; simp [names]
        · simp [q]
      have told : s.revokedBy h (k :: L) = s.revokedBy h L := by
        funext n
        unfold State.revokedBy
        rw [List.filterMap_cons]
        unfold State.leaseNames at names
        cases q : s.lease k with
        | none => rfl
        | some l => simp [q] at names; simp [names]
      rw [revokeLease_other names, ih distinct cur, same, told, List.countP_cons_of_neg (by simp [names])]
    | true =>
      obtain ⟨l, held, named⟩ : ∃ l, s.lease k = some l ∧ l.named = h := by
        simpa [State.leaseNames, Option.any_eq_true] using names
      have rest (j : LeaseNo) (q : j ≠ k) :
          (s.revokeLease h k).lease j = s.lease j := by
        rw [revokeLease_eq cur held named]
        exact (State.lease_putLease (s := s) k j none).trans (if_neg (Ne.symm q))
      have names_rest (j : LeaseNo) (q : j ≠ k) : (s.revokeLease h k).leaseNames h j = s.leaseNames h j := by
        simp only [State.leaseNames, rest j q]
      have ne {j : LeaseNo} (m : j ∈ L) : j ≠ k := fun q => new (q ▸ m)
      have count : L.countP ((s.revokeLease h k).leaseNames h) = L.countP (s.leaseNames h) :=
        List.countP_congr fun j m => by rw [names_rest j (ne m)]
      have told : (s.revokeLease h k).revokedBy h L = s.revokedBy h L := by
        funext n
        exact List.filterMap_congr fun j m => by rw [rest j (ne m)]
      have told_cons : s.revokedBy h (k :: L) = fun n =>
          (if l.port = n then [ResponseEntry.revoked k h] else []) ++ s.revokedBy h L n := by
        funext n
        unfold State.revokedBy
        rw [List.filterMap_cons, held]
        by_cases q : l.port = n <;> simp [named, q]
      have cur' : (s.revokeLease h k).current h = some (ph, r.updLeaseCount (· - 1)) := by
        rw [revokeLease_eq cur held named]
        exact State.current_withRecord_self (s := s.putLease k none) cur _ _ _
      have freed : (s.putLease k none).freeLeases (fun j => L.contains j && (s.revokeLease h k).leaseNames h j) =
          s.freeLeases fun j => (k :: L).contains j && s.leaseNames h j :=
        State.freeLeases_putLease (by simp [names]) fun j q => by simp [names_rest j q, q]
      rw [ih distinct cur', count, told, told_cons, List.countP_cons_of_pos names, Record.updLeaseCount_sub, Nat.add_comm 1,
        ← freed, ← State.append_append, revokeLease_eq cur held named, State.push_eq_append]
      exact congrArg (State.append · _) (State.withRecord_overwritten _ _ _)

/-- The leases on a record freed, and their holders told (R33). -/
def State.revoked (s : State) (h : Handle) : State := (s.freeLeases (s.leaseNames h)).append fun n => s.revokedOn n h

theorem revokedBy_all (h : Handle) : s.revokedBy h (List.finRange 16) = fun n => s.revokedOn n h := by
  funext n
  simp only [State.revokedBy, State.revokedOn]

@[simp] theorem State.slots_append (f : PortNo → List ResponseEntry) : (s.append f).slots = s.slots := rfl

@[simp] theorem State.slots_freeLeases (p : LeaseNo → Bool) : (s.freeLeases p).slots = s.slots := rfl

@[simp] theorem State.slots_revoked (h : Handle) : (s.revoked h).slots = s.slots :=
  (State.slots_append _).trans (State.slots_freeLeases _)

@[simp] theorem State.slot_revoked (h : Handle) (i : SlotNo) : (s.revoked h).slot i = s.slot i := by
  simp only [State.slot, State.slots_revoked]

/-- Writing a record and appending responses do not meet. -/
theorem State.withRecord_append (i : SlotNo) (ph : Phase) (r : Record) (f : NoticeSet) (g : PortNo → List ResponseEntry) :
    (s.withRecord i ph r f).append g = (s.append g).withRecord i ph r f := rfl

/-- Every lease on a current record is revoked (R33). -/
theorem revokeAll_eq {h : Handle} {ph : Phase} {r : Record} (cur : s.current h = some (ph, r)) :
    s.revokeAll h = (s.revoked h).withRecord h.slot ph
      (r.updLeaseCount (· - (List.finRange 16).countP (s.leaseNames h))) 0x1000 := by
  have all : (fun k => (List.finRange 16).contains k && s.leaseNames h k) = s.leaseNames h := by
    funext k
    simp [List.mem_finRange]
  unfold State.revokeAll
  rw [foldl_revokeLease _ (List.nodup_finRange 16) cur, all]
  rw [revokedBy_all, State.withRecord_append]
  exact State.withRecord_notify (s := s.revoked h) h.slot ph (r.updLeaseCount _) 0 0x1000

/-! ## Entry into RETIRED (R34) -/

/-- A CLOCK operation and the writing of an ALIAS record do not meet. -/
theorem updClock_withRecord_ofAlias {h : Handle} {ph : Phase} {a : AliasRecord} (cur : s.current h = some (ph, .ofAlias a))
    (ph' : Phase) (a' : AliasRecord) (f : NoticeSet) (k : Handle) (g : ClockRecord → ClockRecord) :
    (s.withRecord h.slot ph' (.ofAlias a') f).updClock k g = (s.updClock k g).withRecord h.slot ph' (.ofAlias a') f := by
  have after := current_withRecord cur ph' (.ofAlias a') f k
  obtain ⟨pk, c, ck, e⟩ | ⟨none, e⟩ := updClock_cases (s := s) k g
  · have ne : k ≠ h := by rintro rfl; simp [cur] at ck
    rw [if_neg ne, ck] at after
    rw [e, State.updClock_of_current _ after, State.withRecord_comm _ _ _ _ _ _
      (State.current_slot_ne cur ck (by simp))]
  · obtain ⟨pk, c, ck, -⟩ | ⟨-, e'⟩ := updClock_cases (s := s.withRecord h.slot ph' (.ofAlias a') f) k g
    · rw [after] at ck
      split at ck
      · cases ck
      · exact absurd ck (none pk c)
    · rw [e, e']

/-- What a record's entry into RETIRED leaves does not depend on the lease count and the notices written before it. -/
theorem lowerTarget_withRecord {h : Handle} {ph : Phase} {r : Record} (cur : s.current h = some (ph, r)) (ph' : Phase)
    (g : Nat → Nat) (f : NoticeSet) (x : Slot) :
    ((s.withRecord h.slot ph' (r.updLeaseCount g) f).lowerTarget (r.updLeaseCount g)).putSlot h.slot x =
      (s.lowerTarget r).putSlot h.slot x := by
  cases r with
  | ofClock c => exact State.putSlot_withRecord _ _ _ _ _
  | ofAlias a =>
    exact (congrArg (State.putSlot · h.slot x) (updClock_withRecord_ofAlias cur ph' _ f a.target _)).trans
      (State.putSlot_withRecord _ _ _ _ _)

/-- A slot that enters RETIRED with its leases revoked (R33, R34). -/
def Slot.retiredRevoked (x : Slot) (k : RecordKind) : Slot :=
  { x.retiredAs k with notices := (x.retiredAs k).notices ||| 0x1000 }

theorem Slot.retiredAs_revoked {x y : Slot} (k : RecordKind) (gen : y.gen = x.gen) (notices : y.notices = x.notices ||| 0x1000) :
    y.retiredAs k = x.retiredRevoked k := by
  have flags (n : NoticeSet) : (n ||| 0x1000) &&& 0x1800 ||| 0x2000 = n &&& 0x1800 ||| 0x2000 ||| 0x1000 := by
    have kept : (0x1000 : NoticeSet) &&& 0x1800 = 0x1000 := by decide
    rw [BitVec.and_or_distrib_right, kept, BitVec.or_assoc, BitVec.or_assoc, BitVec.or_comm 0x1000]
  unfold Slot.retiredRevoked Slot.retiredAs
  simp only [gen, notices, flags]

theorem Record.kind_updLeaseCount (r : Record) (g : Nat → Nat) : (r.updLeaseCount g).kind = r.kind := by cases r <;> rfl

/-- A current record whose leases are revoked enters RETIRED (R33). -/
theorem revokeAll_enterRetired {h : Handle} {ph : Phase} {r : Record} (cur : s.current h = some (ph, r)) :
    (s.revokeAll h).enterRetired h.slot =
      ((s.revoked h).lowerTarget r).putSlot h.slot ((s.slot h.slot).retiredRevoked r.kind) := by
  have cur' : (s.revoked h).current h = some (ph, r) := (State.current_congr (State.slot_revoked h h.slot)).trans cur
  rw [revokeAll_eq cur, enterRetired_of_current (State.current_withRecord_self cur' _ _ _),
    lowerTarget_withRecord cur', Record.kind_updLeaseCount, Slot.retiredAs_revoked r.kind (x := s.slot h.slot)]
  · simp
  · simp

/-! ## The retirement of a record (R30, R31) -/

/-- A CLOCK record without its active source, its deadlines and its wakes (R30, R69). -/
def ClockRecord.detached (c : ClockRecord) : ClockRecord :=
  { c with active := none, silence := none, holdover := none, wakeCount := 0, updatePending := false }

/-- The tables and queues after a CLOCK's detachment, but for its record (R30). -/
def State.unbound (s : State) (h : Handle) : State :=
  ({ s with bindings := s.bindings.filter fun b => b.clock != h
            deadlines := s.deadlines.filter fun e => !e.isWakeOf h }).append fun n => s.endedOn n h .retired

theorem detach_ofClock {h : Handle} {ph : Phase} {c : ClockRecord} (cur : s.current h = some (ph, .ofClock c)) :
    detach h (.ofClock c) s = (s.unbound h).withRecord h.slot ph (.ofClock c.detached) 0 := by
  unfold detach
  dsimp only
  have cur' : ({ s with bindings := s.bindings.filter fun b => b.clock != h } : State).current h = some (ph, .ofClock c) := cur
  rw [State.updClock_of_current _ cur', endWakes_eq _ (State.current_withRecord_self cur' _ _ _)]
  exact congrArg (fun u : State => ((u.putDeadlines (s.deadlines.filter fun e => !e.isWakeOf h)).append fun n =>
    s.endedOn n h .retired)) (State.withRecord_withRecord h.slot ph ph _ _ 0 0)

/-- How a retiring record ends, by its lease count and the mode (R31): `s1` is the state it has been detached in. -/
theorem retireRecord_eq {h : Handle} {ph : Phase} {r : Record} {mode : RetireMode} {s1 : State}
    (e : (if ph.isDraining then s else detach h r s) = s1) : (retireRecord h ph r mode s).1 =
      if r.leaseCount = 0 then s1.enterRetired h.slot
      else if mode = .immediate then (s1.revokeAll h).enterRetired h.slot
      else s1.setPhase h (.draining (addTicks s.lt (msTicks r.drainMs))) := by
  unfold retireRecord
  simp only [e]
  by_cases none : r.leaseCount = 0
  · simp only [if_pos none]
  · cases mode <;> simp [none]

/-- What a record that is not yet DRAINING keeps of itself (R30). -/
def Record.detached : Record → Record
  | .ofClock c => .ofClock c.detached
  | .ofAlias a => .ofAlias a

/-- The tables and queues after a record's detachment, but for the record (R30). -/
def State.detachedFrom (s : State) (h : Handle) (ph : Phase) : Record → State
  | .ofClock _ => if ph.isDraining then s else s.unbound h
  | .ofAlias _ => s

@[simp] theorem State.slots_unbound (h : Handle) : (s.unbound h).slots = s.slots := rfl

theorem State.slots_detachedFrom (h : Handle) (ph : Phase) (r : Record) : (s.detachedFrom h ph r).slots = s.slots := by
  unfold State.detachedFrom
  cases r with
  | ofClock c => dsimp only; split <;> rfl
  | ofAlias a => rfl

/-- Handles name the same records where the slots are the same. -/
theorem current_of_slots (e : t.slots = s.slots) (h : Handle) : t.current h = s.current h :=
  State.current_congr (by simp only [State.slot, e])

theorem State.slot_of_slots (e : t.slots = s.slots) (i : SlotNo) : t.slot i = s.slot i := by simp only [State.slot, e]

/-- A CLOCK written anew enters RETIRED as it would have before. -/
theorem enterRetired_ofClock {h : Handle} {ph : Phase} {c c' : ClockRecord} (cur : s.current h = some (ph, .ofClock c)) :
    (s.withRecord h.slot ph (.ofClock c') 0).enterRetired h.slot = s.putSlot h.slot ((s.slot h.slot).retiredAs .clockKind) := by
  rw [enterRetired_of_current (State.current_withRecord_self cur _ _ _)]
  refine (State.putSlot_withRecord _ _ _ _ _).trans ?_
  simp [State.withRecord, Slot.retiredAs, Record.kind]

/-- Freeing leases and telling their holders, and writing a record, do not meet. -/
theorem State.revoked_withRecord (h : Handle) (i : SlotNo) (ph : Phase) (r : Record) (f : NoticeSet) :
    (s.withRecord i ph r f).revoked h = (s.revoked h).withRecord i ph r f := by
  have names : (s.withRecord i ph r f).leaseNames h = s.leaseNames h := rfl
  have told (n : PortNo) : (s.withRecord i ph r f).revokedOn n h = s.revokedOn n h := by
    simp only [State.revokedOn, State.lease, State.withRecord, State.putSlot_leases]
  have freed (p : LeaseNo → Bool) : (s.withRecord i ph r f).freeLeases p = (s.freeLeases p).withRecord i ph r f := rfl
  unfold State.revoked
  simp only [names, told, freed]
  rw [State.withRecord_append]

theorem revokeAll_enterRetired_ofClock {h : Handle} {ph : Phase} {c c' : ClockRecord}
    (cur : s.current h = some (ph, .ofClock c)) :
    ((s.withRecord h.slot ph (.ofClock c') 0).revokeAll h).enterRetired h.slot =
      (s.revoked h).putSlot h.slot ((s.slot h.slot).retiredRevoked .clockKind) := by
  rw [revokeAll_enterRetired (State.current_withRecord_self cur _ _ _), State.revoked_withRecord]
  refine (State.putSlot_withRecord _ _ _ _ _).trans ?_
  simp [State.withRecord, Slot.retiredRevoked, Slot.retiredAs, Record.kind]

/-- A retirement in closed form (R30, R31): what the detachment leaves, and then RETIRED, RETIRED with its leases revoked,
or DRAINING. -/
theorem retireRecord_closed {h : Handle} {ph : Phase} {r : Record} {mode : RetireMode} (cur : s.current h = some (ph, r))
    (idle : ∀ a, r = .ofAlias a → ph.isDraining = false → s.pendingEntry a = none) :
    (retireRecord h ph r mode s).1 =
      let u := s.detachedFrom h ph r
      if r.leaseCount = 0 then (u.lowerTarget r).putSlot h.slot ((s.slot h.slot).retiredAs r.kind)
      else if mode = .immediate then ((u.revoked h).lowerTarget r).putSlot h.slot ((s.slot h.slot).retiredRevoked r.kind)
      else u.withRecord h.slot (.draining (addTicks s.lt (msTicks r.drainMs))) (if ph.isDraining then r else r.detached) 0 := by
  dsimp only
  cases r with
  | ofAlias a =>
    have detached : (if ph.isDraining then s else detach h (.ofAlias a) s) = s := by
      split
      · rfl
      next live =>
        unfold detach
        simp only [idle a rfl (Bool.eq_false_iff.2 live)]
    have same : (if ph.isDraining then Record.ofAlias a else (Record.ofAlias a).detached) = .ofAlias a := ite_self _
    rw [retireRecord_eq detached, same, enterRetired_of_current cur, revokeAll_enterRetired cur,
      State.setPhase_of_current _ cur]
    rfl
  | ofClock c =>
    have cur' : (s.detachedFrom h ph (.ofClock c)).current h = some (ph, .ofClock c) :=
      (current_of_slots (State.slots_detachedFrom h ph _) h).trans cur
    have slot : (s.detachedFrom h ph (.ofClock c)).slot h.slot = s.slot h.slot :=
      State.slot_of_slots (State.slots_detachedFrom h ph _) _
    obtain ⟨c', record, detached⟩ : ∃ c', (if ph.isDraining then Record.ofClock c else (Record.ofClock c).detached) = .ofClock c' ∧
        (if ph.isDraining then s else detach h (.ofClock c) s) =
          (s.detachedFrom h ph (.ofClock c)).withRecord h.slot ph (.ofClock c') 0 := by
      unfold State.detachedFrom
      cases ph.isDraining with
      | true => exact ⟨c, rfl, (State.withRecord_self cur).symm⟩
      | false => exact ⟨c.detached, rfl, detach_ofClock cur⟩
    rw [retireRecord_eq detached, record, enterRetired_ofClock cur', revokeAll_enterRetired_ofClock cur', slot,
      State.setPhase_of_current _ (State.current_withRecord_self cur' _ _ _), State.withRecord_withRecord]
    rfl

end Sys2Proof.Machine
end

section
/-! SUPPORT. Legal slots and parts through every stage of a command, a reset and a purge (R13 to R20, R28, R31, R182). -/

namespace Sys2Proof.Machine

variable {s t : State} {cmd : Instr}

/-! ## Legal slots (R13, R182) -/

/-- A record's own fields agree in a phase. -/
def Record.legal (ph : Phase) : Record → Bool
  | .ofClock c => c.legal ph
  | .ofAlias a => a.legal

theorem Slot.legal_active {x : Slot} {ph : Phase} {r : Record} (e : x.content = .active ph r) :
    x.legal = true ↔ x.gen ≠ 0 ∧ x.notices &&& 0xe007 = 0 ∧ r.legal ph = true := by
  unfold Slot.legal Slot.noticesLegal Record.legal
  cases r <;> simp only [e, Bool.and_eq_true, bne_iff_ne, beq_iff_eq, and_assoc]

theorem Slot.legal_free {x : Slot} (e : x.content = .free) : x.legal = true ↔ x.gen ≠ 0 ∧ x.notices = 0 := by
  unfold Slot.legal Slot.noticesLegal
  simp only [e, Bool.and_true, Bool.and_eq_true, bne_iff_ne, beq_iff_eq]

theorem Slot.legal_retired {x : Slot} {k : RecordKind} (e : x.content = .retired k) :
    x.legal = true ↔ x.gen ≠ 0 ∧ noticed x.notices .drained = true ∧ x.notices &&& 0xc7ff = 0 := by
  unfold Slot.legal Slot.noticesLegal
  simp only [e, Bool.and_true, Bool.and_eq_true, bne_iff_ne, beq_iff_eq]

/-- The generation of a legal slot is not 0 (R15). -/
theorem Slot.gen_ne_zero {x : Slot} (h : x.legal = true) : x.gen ≠ 0 := by
  unfold Slot.legal at h
  simp only [Bool.and_eq_true, bne_iff_ne] at h
  exact h.1.1

theorem SlotsLegal.gen_ne_zero (h : SlotsLegal s) (i : SlotNo) : (s.slot i).gen ≠ 0 := Slot.gen_ne_zero (h.1 i)

theorem SlotsLegal.of_slots (h : SlotsLegal s) (e : t.slots = s.slots) : SlotsLegal t := by
  have same (i : SlotNo) : t.slot i = s.slot i := by simp only [State.slot, e]
  exact ⟨fun i => by rw [same]; exact h.1 i, by rw [same]; exact h.2⟩

theorem SlotsLegal.putSlot {i : SlotNo} {x : Slot} (h : SlotsLegal s) (h0 : i ≠ 0) (hx : x.legal = true) :
    SlotsLegal (s.putSlot i x) := by
  refine ⟨fun j => ?_, ?_⟩
  · rw [State.slot_putSlot]
    split
    · exact hx
    · exact h.1 j
  · rw [State.slot_putSlot, if_neg h0]
    exact h.2

/-- The record a current handle names is legal (R16, R17). -/
theorem SlotsLegal.record {h : Handle} {ph : Phase} {r : Record} (legal : SlotsLegal s) (cur : s.current h = some (ph, r)) :
    r.legal ph = true :=
  ((Slot.legal_active (State.current_eq_some.1 cur).2.2.2).1 (legal.1 h.slot)).2.2

theorem SlotsLegal.withRecord {h : Handle} {ph ph' : Phase} {r r' : Record} {f : NoticeSet} (legal : SlotsLegal s)
    (cur : s.current h = some (ph, r)) (hf : f &&& 0xe007 = 0) (hr : r'.legal ph' = true) :
    SlotsLegal (s.withRecord h.slot ph' r' f) := by
  obtain ⟨h0, -, -, hc⟩ := State.current_eq_some.1 cur
  obtain ⟨gen, notices, -⟩ := (Slot.legal_active hc).1 (legal.1 h.slot)
  exact legal.putSlot h0 ((Slot.legal_active rfl).2 ⟨gen, or_slotKinds notices hf, hr⟩)

theorem SlotsLegal.updClock (legal : SlotsLegal s) (h : Handle) {f : ClockRecord → ClockRecord}
    (hf : ∀ ph c, c.legal ph = true → (f c).legal ph = true) : SlotsLegal (s.updClock h f) := by
  obtain ⟨ph, c, cur, e⟩ | ⟨-, e⟩ := updClock_cases (s := s) h f <;> rw [e]
  · exact legal.withRecord cur noNotice_slotKind (hf ph c (legal.record cur))
  · exact legal

theorem SlotsLegal.updAlias (legal : SlotsLegal s) (h : Handle) {f : AliasRecord → AliasRecord}
    (hf : ∀ a : AliasRecord, a.legal = true → (f a).legal = true) : SlotsLegal (s.updAlias h f) := by
  obtain ⟨ph, a, cur, e⟩ | ⟨-, e⟩ := updAlias_cases (s := s) h f <;> rw [e]
  · exact legal.withRecord cur noNotice_slotKind (hf a (legal.record cur))
  · exact legal

theorem SlotsLegal.updRecord (legal : SlotsLegal s) (h : Handle) (g : Nat → Nat) :
    SlotsLegal (s.updRecord h (Record.updLeaseCount g)) := by
  obtain ⟨ph, r, cur, e⟩ | ⟨-, e⟩ := updRecord_cases (s := s) h (Record.updLeaseCount g) <;> rw [e]
  · refine legal.withRecord cur noNotice_slotKind ?_
    have := legal.record cur
    cases r <;> exact this
  · exact legal

theorem SlotsLegal.notify {h : Handle} {x : Phase × Record} {f : NoticeSet} (legal : SlotsLegal s)
    (cur : s.current h = some x) (hf : f &&& 0xe007 = 0) : SlotsLegal (s.notify h.slot f) := by
  rw [State.notify_of_current f cur]
  exact legal.withRecord cur hf (legal.record cur)

/-- A CLOCK record's lease, ALIAS and wake counts are no part of what makes it legal. -/
theorem ClockRecord.legal_counts (ph : Phase) (c : ClockRecord) (l a w : Nat) :
    { c with leaseCount := l, aliasCount := a, wakeCount := w }.legal ph = c.legal ph := rfl

theorem SlotsLegal.raiseAliasCount (legal : SlotsLegal s) (h : Handle) : SlotsLegal (s.raiseAliasCount h) :=
  legal.updClock h fun ph c hc => (ClockRecord.legal_counts ph c _ _ _).trans hc

theorem SlotsLegal.lowerAliasCount (legal : SlotsLegal s) (h : Handle) : SlotsLegal (s.lowerAliasCount h) :=
  legal.updClock h fun ph c hc => (ClockRecord.legal_counts ph c _ _ _).trans hc

theorem SlotsLegal.lowerWakeCount (legal : SlotsLegal s) (h : Handle) : SlotsLegal (s.lowerWakeCount h) :=
  legal.updClock h fun ph c hc => (ClockRecord.legal_counts ph c _ _ _).trans hc

theorem SlotsLegal.lowerTarget (legal : SlotsLegal s) (r : Record) : SlotsLegal (s.lowerTarget r) := by
  cases r with
  | ofClock c => exact legal
  | ofAlias a => exact legal.lowerAliasCount _

/-! ## Slots in RETIRED (R15, R34) -/

theorem nextGen_ne_zero {g : Byte} (_ : g ≠ 0) : (if g = 255 then 1 else g + 1) ≠ 0 := by
  split
  · decide
  · bv_omega

/-- REVOKED and SPLICE_CANCELLED kept, and DRAINED set, are the notices of a RETIRED slot (R34, R182). -/
theorem retiredNotices_legal (n : NoticeSet) :
    noticed (n &&& 0x1800 ||| 0x2000) .drained = true ∧ (n &&& 0x1800 ||| 0x2000) &&& 0xc7ff = 0 := by
  refine ⟨?_, ?_⟩
  · change (n &&& 0x1800 ||| 0x2000).getLsbD 13 = true
    have drained : (0x2000 : NoticeSet).getLsbD 13 = true := by decide
    rw [BitVec.getLsbD_or, drained, Bool.or_true]
  · have dropped : (0x1800 : NoticeSet) &&& 0xc7ff = 0 := by decide
    have drained : (0x2000 : NoticeSet) &&& 0xc7ff = 0 := by decide
    rw [BitVec.and_or_distrib_right, BitVec.and_assoc, dropped, drained]
    simp

theorem Slot.legal_retiredAs {x : Slot} (gen : x.gen ≠ 0) (k : RecordKind) : (x.retiredAs k).legal = true :=
  (Slot.legal_retired rfl).2 ⟨nextGen_ne_zero gen, retiredNotices_legal x.notices⟩

theorem Slot.legal_retiredRevoked {x : Slot} (gen : x.gen ≠ 0) (k : RecordKind) : (x.retiredRevoked k).legal = true := by
  rw [← Slot.retiredAs_revoked (x := x) (y := { x with notices := x.notices ||| 0x1000 }) k rfl rfl]
  exact Slot.legal_retiredAs (x := { x with notices := x.notices ||| 0x1000 }) gen k

theorem SlotsLegal.enterRetired {h : Handle} {ph : Phase} {r : Record} (legal : SlotsLegal s)
    (cur : s.current h = some (ph, r)) : SlotsLegal (s.enterRetired h.slot) := by
  rw [enterRetired_of_current cur]
  exact (legal.lowerTarget r).putSlot (State.current_eq_some.1 cur).1 (Slot.legal_retiredAs (legal.gen_ne_zero _) _)

theorem SlotsLegal.revokeAll_enterRetired {h : Handle} {ph : Phase} {r : Record} (legal : SlotsLegal s)
    (cur : s.current h = some (ph, r)) : SlotsLegal ((s.revokeAll h).enterRetired h.slot) := by
  rw [Machine.revokeAll_enterRetired cur]
  exact ((legal.of_slots (State.slots_revoked h)).lowerTarget r).putSlot (State.current_eq_some.1 cur).1
    (Slot.legal_retiredRevoked (legal.gen_ne_zero _) _)

/-! ## Every stage keeps slots legal -/

theorem sourceSwitch_slotKind : NoticeKind.sourceSwitch.flag &&& 0xe007 = 0 := by decide

/-- An entry leaves the Binding Map: where its role was the active source, the record's source is settled anew (R68). -/
theorem removeBinding_cases (b : Binding) :
    (∃ ph c, s.current b.clock = some (ph, .ofClock c) ∧ c.active = some b.role ∧
      removeBinding b s = ({ s with bindings := s.bindings.erase b }).withRecord b.clock.slot ph (.ofClock
        { c with active := settledSource { s with bindings := s.bindings.erase b } b.clock b.role, rejectRun := 0 })
        (flagWhen (settledSource { s with bindings := s.bindings.erase b } b.clock b.role).isSome .sourceSwitch)) ∨
      (∀ ph c, s.current b.clock = some (ph, .ofClock c) → c.active ≠ some b.role) ∧
        removeBinding b s = { s with bindings := s.bindings.erase b } := by
  unfold removeBinding
  dsimp only
  split
  next active =>
    obtain ⟨c, clock, source⟩ := Option.bind_eq_some_iff.1 active
    obtain ⟨ph, cur⟩ := clock_eq_some clock
    refine .inl ⟨ph, c, cur, source, ?_⟩
    exact State.updClock_notify (s := { s with bindings := s.bindings.erase b }) _ _ cur
  next inactive =>
    refine .inr ⟨fun ph c cur source => inactive ?_, rfl⟩
    rw [State.activeOf, State.clock_of_current cur]
    exact source


theorem SlotsLegal.clockOp (legal : SlotsLegal s) (op : ClockOp s t) : SlotsLegal t := by
  cases op with
  | record cur hc counts source lock flags => exact legal.withRecord cur flags (hc (legal.record cur))
  | recordEnding x cur hc counts source flags =>
    rw [endWakes_eq x (State.current_withRecord_self cur _ _ _)]
    refine SlotsLegal.of_slots ?_ (State.slots_append _)
    refine SlotsLegal.of_slots ?_ rfl
    rw [State.withRecord_withRecord]
    exact legal.withRecord cur (or_slotKinds flags noNotice_slotKind) (hc (legal.record cur))
  | @bound i tag h role ph c cur drain key free room =>
    have bindings : SlotsLegal { s with bindings := { input := i, tag, clock := h, role } :: s.bindings } :=
      legal.of_slots rfl
    exact bindings.updClock h fun _ _ hc => hc
  | @unbound b mem =>
    have bindings : SlotsLegal { s with bindings := s.bindings.erase b } := legal.of_slots rfl
    obtain ⟨ph, c, cur, -, e⟩ | ⟨-, e⟩ := removeBinding_cases (s := s) b <;> rw [e]
    · obtain ⟨sound, silent, held⟩ := ClockRecord.legal_iff.1 (legal.record cur)
      exact bindings.withRecord cur (flagWhen_slotKind _ sourceSwitch_slotKind) (ClockRecord.legal_iff.2
        ⟨{ sound with rejectRun := (ClockConfig.limits_pos sound.cfg).2.2 }, silent, held⟩)
    · exact bindings

theorem SlotsLegal.listOp (legal : SlotsLegal s) (op : ListOp s t) : SlotsLegal t := by
  have slots (l : List DeadlineEntry) : SlotsLegal (s.putDeadlines l) := legal.of_slots rfl
  cases op with
  | aliasFields cur ha leases target pending => exact legal.withRecord cur noNotice_slotKind (ha (legal.record cur))
  | wakeMoved d before after work => exact slots _
  | wakeTaken before work => exact (slots _).lowerWakeCount _
  | @wakeArmed n tag named b p due ph c room cur live lock =>
    have armed : SlotsLegal (s.arm due (.wake n tag named b p)) := legal.of_slots rfl
    exact armed.updClock b fun ph c hc => (ClockRecord.legal_counts ph c _ _ _).trans hc
  | @spliceArmed o h n d a room checked =>
    have armed : SlotsLegal (s.arm d (.splice o h n)) := legal.of_slots rfl
    exact (armed.raiseAliasCount n).updAlias h fun _ ha => ha
  | @spliceDropped e rest o h h' n f before work named flags =>
    have dropped : SlotsLegal (((s.putDeadlines rest).lowerAliasCount n).updAlias h fun a =>
        { a with pendingSplice := none }) := ((slots rest).lowerAliasCount n).updAlias h fun _ ha => ha
    obtain rfl | ⟨rfl, ph, a, cur⟩ := flags
    · rw [notify_zero]
      exact dropped
    · have cur' : (s.putDeadlines rest).current h = some (ph, .ofAlias a) := cur
      exact dropped.notify (current_splice_withdrawn _ cur') (by decide)
  | @spliceExecuted e rest o h n ph a f list work cur flags =>
    have cur' : (s.putDeadlines rest).current h = some (ph, .ofAlias a) := cur
    have moved : SlotsLegal ((s.putDeadlines rest).updAlias h fun a => { a with target := n, pendingSplice := none }) :=
      (slots rest).updAlias h fun _ ha => ha
    have after : ((s.putDeadlines rest).updAlias h fun a => { a with target := n, pendingSplice := none }).current h =
        some (ph, .ofAlias { a with target := n, pendingSplice := none }) := by
      rw [State.updAlias_of_current _ cur']
      exact State.current_withRecord_self cur' _ _ _
    exact (moved.lowerAliasCount a.target).notify (current_updClock_ofAlias _ after) flags
  | spliceOrphaned list work cur => exact slots _
  | @moved h n a checked =>
    have retargeted : SlotsLegal ((s.raiseAliasCount n).updAlias h fun a => { a with target := n }) :=
      (legal.raiseAliasCount n).updAlias h fun _ ha => ha
    exact retargeted.lowerAliasCount a.target

end Sys2Proof.Machine
end

section
/-! SUPPORT. What a step can be, and the properties of the tables that every step keeps: it is enough that every stage of a
command keeps them and that they hold of empty tables. -/

namespace Sys2Proof.Machine

variable {s t : State} {cmd : Instr}

/-! ## Legal slots through the lifecycle -/

theorem freeSlot_eq_some {i : SlotNo} (e : s.freeSlot = some i) : i ≠ 0 ∧ (s.slot i).content = .free := by
  have := List.find?_some e
  simpa using this

theorem SlotsLegal.create {i : SlotNo} {r : Record} (legal : SlotsLegal s) (h0 : i ≠ 0) (hr : r.legal .reserved = true) :
    SlotsLegal (s.create i r) :=
  legal.putSlot h0 ((Slot.legal_active rfl).2 ⟨legal.gen_ne_zero i, BitVec.zero_and, hr⟩)

theorem Record.legal_enabled {r : Record} (now : LocalTime) (h : r.legal .reserved = true) :
    (r.enabled now).legal .live = true := by
  cases r with
  | ofAlias a => exact h
  | ofClock c =>
    obtain ⟨sound, silent, held⟩ := ClockRecord.legal_iff.1 h
    have lock := sound.reserved rfl
    have no_silence : c.silence = none := by
      cases q : c.silence with
      | none => rfl
      | some d => cases ((silenceLegal_iff.1 silent).1 d q).1
    have no_holdover : c.holdover = none := by
      cases q : c.holdover with
      | none => rfl
      | some d => cases ((holdoverLegal_iff.1 held).1 d q).1
    have held' : holdoverLegal .live c = true :=
      holdoverLegal_iff.2 ⟨by simp [no_holdover], fun _ _ q => by simp [q] at lock⟩
    have live : ClockRecord.BeforeSilence c :=
      { sound with reserved := nofun, mark := fun q => ⟨(sound.mark q).1, rfl⟩, held := held', quiet := fun _ _ => no_silence }
    have start := ClockRecord.legal_restartSilence now live
    unfold Record.enabled
    dsimp only
    split
    next q => rw [restartSilence_running now (.inl q)] at start; exact start
    next q =>
      rw [restartSilence_other now (not_or.2 ⟨q, fun w => by simp [w] at lock⟩)] at start
      exact start

/-- A record that drains has no timers and no mark left (R30, R31). -/
theorem Record.legal_draining {r : Record} {ph : Phase} (d : LocalTime) (h : r.legal ph = true) :
    (if ph.isDraining then r else r.detached).legal (.draining d) = true := by
  cases r with
  | ofAlias a => exact (congrArg (Record.legal _) (ite_self _)).trans h
  | ofClock c =>
    obtain ⟨sound, silent, held⟩ := ClockRecord.legal_iff.1 h
    have quiet (ph' : Phase) (c' : ClockRecord) (drains : ph'.isDraining = true) (none : c'.silence = none ∧ c'.holdover = none) :
        silenceLegal ph' c' = true ∧ holdoverLegal ph' c' = true :=
      ⟨silenceLegal_iff.2 ⟨by simp [none], by rintro - rfl; cases drains⟩,
        holdoverLegal_iff.2 ⟨by simp [none], by rintro - rfl; cases drains⟩⟩
    cases drains : ph.isDraining with
    | false =>
      exact ClockRecord.legal_iff.2 ⟨{ sound with reserved := nofun, mark := nofun }, quiet _ _ rfl ⟨rfl, rfl⟩⟩
    | true =>
      have no_silence : c.silence = none := by
        cases q : c.silence with
        | none => rfl
        | some t => have := ((silenceLegal_iff.1 silent).1 t q).1; simp [this, Phase.isDraining] at drains
      have no_holdover : c.holdover = none := by
        cases q : c.holdover with
        | none => rfl
        | some t => have := ((holdoverLegal_iff.1 held).1 t q).1; simp [this, Phase.isDraining] at drains
      exact ClockRecord.legal_iff.2 ⟨{ sound with
        reserved := nofun, mark := fun q => absurd (sound.mark q).2 (by simp [drains]) }, quiet _ _ rfl ⟨no_silence, no_holdover⟩⟩

theorem SlotsLegal.retireRecord {h : Handle} {ph : Phase} {r : Record} (mode : RetireMode) (legal : SlotsLegal s)
    (cur : s.current h = some (ph, r)) (idle : ∀ a, r = .ofAlias a → ph.isDraining = false → s.pendingEntry a = none) :
    SlotsLegal (retireRecord h ph r mode s).1 := by
  have detached : SlotsLegal (s.detachedFrom h ph r) := legal.of_slots (State.slots_detachedFrom h ph r)
  have h0 := (State.current_eq_some.1 cur).1
  rw [retireRecord_closed cur idle]
  dsimp only
  split
  · exact (detached.lowerTarget r).putSlot h0 (Slot.legal_retiredAs (legal.gen_ne_zero _) _)
  split
  · exact ((detached.of_slots (State.slots_revoked h)).lowerTarget r).putSlot h0
      (Slot.legal_retiredRevoked (legal.gen_ne_zero _) _)
  · exact detached.withRecord ((current_of_slots (State.slots_detachedFrom h ph r) h).trans cur) noNotice_slotKind
      (Record.legal_draining _ (legal.record cur))

theorem SlotsLegal.giveUpLease {k : LeaseNo} {l : Lease} (legal : SlotsLegal s) : SlotsLegal (s.giveUpLease k l) := by
  have freed : SlotsLegal ((s.putLease k none).updRecord l.named (Record.updLeaseCount (· - 1))) :=
    SlotsLegal.updRecord (s := s.putLease k none) (legal.of_slots rfl) _ _
  unfold State.giveUpLease
  dsimp only
  split
  next cur =>
    split
    · exact freed.enterRetired cur
    · exact freed
  all_goals exact freed

/-- A slot that holds a record has no DRAINED notice (R182). -/
theorem Slot.not_drained {x : Slot} {ph : Phase} {r : Record} (legal : x.legal = true) (e : x.content = .active ph r) :
    noticed x.notices .drained = false := by
  obtain ⟨-, flags, -⟩ := (Slot.legal_active e).1 legal
  have bit : (x.notices &&& 0xe007).getLsbD 13 = false := by rw [flags]; rfl
  have mask : (0xe007 : NoticeSet).getLsbD 13 = true := by decide
  rw [BitVec.getLsbD_and, mask, Bool.and_true] at bit
  exact bit

/-- Flags taken from a set of notices leave it without the kinds it did not have. -/
theorem NoticeSet.and_not_and {n f m : NoticeSet} (h : n &&& m = 0) : n &&& ~~~f &&& m = 0 := by
  rw [BitVec.and_assoc, BitVec.and_comm _ m, ← BitVec.and_assoc, h]
  exact BitVec.zero_and

/-- Notices collected, and a RETIRED slot with DRAINED among them made FREE, leave the slot legal (R35, R186). -/
theorem Slot.legal_collected {x : Slot} (flags : NoticeSet) (h : x.legal = true) : (x.collected flags).legal = true := by
  have gen := Slot.gen_ne_zero h
  unfold Slot.collected
  split
  · exact (Slot.legal_free rfl).2 ⟨gen, rfl⟩
  next kept =>
    match e : x.content with
    | .free =>
      obtain ⟨-, none⟩ := (Slot.legal_free e).1 h
      exact (Slot.legal_free rfl).2 ⟨gen, by simp [none]⟩
    | .active ph r =>
      obtain ⟨-, kinds, legal⟩ := (Slot.legal_active e).1 h
      exact (Slot.legal_active rfl).2 ⟨gen, NoticeSet.and_not_and kinds, legal⟩
    | .retired k =>
      obtain ⟨-, drained, kinds⟩ := (Slot.legal_retired e).1 h
      refine (Slot.legal_retired rfl).2 ⟨gen, ?_, NoticeSet.and_not_and kinds⟩
      unfold noticed at *
      have bound : NoticeKind.drained.bit < 16 := by decide
      rw [BitVec.getLsbD_and, BitVec.getLsbD_not, drained, Bool.eq_false_iff.2 kept, decide_eq_true bound]
      rfl

theorem SlotsLegal.tenureOp (legal : SlotsLegal s) (op : TenureOp s cmd t) : SlotsLegal t := by
  cases op with
  | clockCreated slot => exact legal.create (freeSlot_eq_some slot).1 (by decide)
  | aliasCreated slot cur drain => exact (legal.raiseAliasCount _).create (freeSlot_eq_some slot).1 rfl
  | enabled cur => exact legal.withRecord cur noNotice_slotKind (Record.legal_enabled _ (legal.record cur))
  | clockRetired mode cur alone notBusy => exact legal.retireRecord mode cur nofun
  | aliasRetired mode cur idle notBusy => exact legal.retireRecord mode cur fun a e => by cases e; exact idle
  | @drained i d r slot =>
    have h0 : i ≠ 0 := by
      rintro rfl
      simp [legal.2] at slot
    exact legal.revokeAll_enterRetired (current_handleOf h0 (legal.gen_ne_zero i) slot)
  | @granted k l ph r free cur live =>
    exact SlotsLegal.updRecord (s := s.putLease k (some l)) (legal.of_slots rfl) _ _
  | givenUp cmd held => exact legal.giveUpLease
  | collected slot flags own => exact legal.putSlot slot (Slot.legal_collected flags (legal.1 _))

/-! ## What a step can be -/

/-- While RST_N is low nothing but a reset is taken (R1, R38). -/
theorem exec_low (low : s.rstLow = true) (reset : cmd ≠ .hardReset) (release : ∀ a b m, cmd ≠ .resetRelease a b m) :
    exec cmd s = .next s := by
  cases cmd with
  | hardReset => exact absurd rfl reset
  | resetRelease a b m => exact absurd rfl (release a b m)
  | _ => exact taken_low low

/-- A command is a run of stages, a hard reset, the release from it, or a purge. -/
theorem exec_cases (e : exec cmd s = .next t) :
    Run cmd s t ∨ cmd = .hardReset ∧ t = hardReset s ∨
      (s.rstLow = true ∧ ∃ a b m, cmd = .resetRelease a b m ∧ t = releaseReset a b m s) ∨
      cmd = .purge ∧ s.asked .purge ∧ t = (purgeAll s).hold .purge (.ok (.time s.lt)) := by
  by_cases reset : cmd = .hardReset
  · subst reset
    cases e
    exact .inr (.inl ⟨rfl, rfl⟩)
  by_cases release : ∃ a b m, cmd = .resetRelease a b m ∧ s.rstLow = true
  · obtain ⟨a, b, m, rfl, low⟩ := release
    rw [exec_resetRelease_low a b m low] at e
    cases e
    exact .inr (.inr (.inl ⟨low, a, b, m, rfl, rfl⟩))
  by_cases purge : cmd = .purge ∧ s.asked .purge
  · obtain ⟨rfl, asked⟩ := purge
    have e : taken s (match s.inProgress with
      | some .purge => (purgeAll s).hold .purge (.ok (.time s.lt))
      | _ => s) = .next t := e
    rw [taken_high asked.1, inProgress_of_asked asked] at e
    cases e
    exact .inr (.inr (.inr ⟨rfl, asked, rfl⟩))
  · exact .inl (exec_run e reset (fun low a b m q => release ⟨a, b, m, q, low⟩) fun q asked => purge ⟨q, asked⟩)

/-- A step idles, or is the front command on the queue's rest. -/
theorem step_cases (e : step s = .next t) :
    t = s ∨ ∃ cmd rest, s.pending = cmd :: rest ∧ exec cmd { s with pending := rest } = .next t := by
  unfold step at e
  split at e
  · cases e
    exact .inl rfl
  next cmd rest q => exact .inr ⟨cmd, rest, q, e⟩

/-! ## Properties of the tables -/

/-- Every slot is FREE without notices, its generation not 0, and every other table is empty. -/
structure Cleared (t : State) : Prop where
  slot : ∀ i, (t.slot i).content = .free ∧ (t.slot i).notices = 0 ∧ (t.slot i).gen ≠ 0
  lease : ∀ k, t.lease k = none
  bindings : t.bindings = []
  deadlines : t.deadlines = []

theorem cleared_hardReset (s : State) : Cleared (hardReset s) where
  slot i := by simp [hardReset, State.reset, State.slot, Slot.initial]
  lease k := by simp [hardReset, State.reset, State.lease]
  bindings := rfl
  deadlines := rfl

theorem slot_purgeAll (i : SlotNo) : (purgeAll s).slot i = (s.slot i).purged := by
  simp [purgeAll, State.slot]

theorem cleared_purgeAll (legal : SlotsLegal s) : Cleared (purgeAll s) where
  slot i := by
    rw [slot_purgeAll]
    refine ⟨rfl, rfl, ?_⟩
    unfold Slot.purged
    dsimp only
    split
    · exact legal.gen_ne_zero i
    · exact nextGen_ne_zero (legal.gen_ne_zero i)
  lease k := by simp [purgeAll, State.lease]
  bindings := rfl
  deadlines := rfl

theorem Cleared.slotsLegal (h : Cleared t) : SlotsLegal t :=
  ⟨fun i => (Slot.legal_free (h.slot i).1).2 ⟨(h.slot i).2.2, (h.slot i).2.1⟩, (h.slot 0).1⟩

/-- A property of the tables that every stage keeps and empty tables have. -/
structure TableProperty (P : State → Prop) : Prop where
  legal : ∀ {s}, P s → SlotsLegal s
  same : ∀ {s t}, SameTable s t → P s → P t
  clock : ∀ {s t}, ClockOp s t → P s → P t
  list : ∀ {s t}, ListOp s t → P s → P t
  tenure : ∀ {s t cmd}, TenureOp s cmd t → P s → P t
  cleared : ∀ {t}, Cleared t → P t

theorem TableProperty.run {P : State → Prop} (h : TableProperty P) (r : Run cmd s t) (hs : P s) : P t := by
  induction r with
  | refl => exact hs
  | tail _ stage ih =>
    cases stage with
    | quiet q => exact h.same q.table ih
    | clock op => exact h.clock op ih
    | list op => exact h.list op ih
    | tenure op => exact h.tenure op ih

theorem TableProperty.exec {P : State → Prop} (h : TableProperty P) (e : exec cmd s = .next t) (hs : P s) : P t := by
  obtain run | ⟨-, rfl⟩ | ⟨-, a, b, m, -, rfl⟩ | ⟨-, -, rfl⟩ := exec_cases e
  · exact h.run run hs
  · exact h.cleared (cleared_hardReset s)
  · exact h.same (s := s) (t := releaseReset a b m s) ⟨rfl, rfl, rfl, rfl, rfl⟩ hs
  · exact h.same (quiet_hold _ _).table (h.cleared (cleared_purgeAll (h.legal hs)))

/-- Every step keeps such a property. -/
theorem TableProperty.step {P : State → Prop} (h : TableProperty P) (e : step s = .next t) (hs : P s) : P t := by
  obtain rfl | ⟨cmd, rest, -, e⟩ := step_cases e
  · exact hs
  · exact h.exec e (h.same (s := s) (t := { s with pending := rest }) ⟨rfl, rfl, rfl, rfl, rfl⟩ hs)

theorem slotsLegal_tableProperty : TableProperty SlotsLegal where
  legal := id
  same h legal := legal.of_slots h.slots
  clock op legal := legal.clockOp op
  list op legal := legal.listOp op
  tenure op legal := legal.tenureOp op
  cleared := Cleared.slotsLegal

end Sys2Proof.Machine
end

section
/-! SUPPORT. The pins: inputs, port levels, transactions and mask stay legal through every stage, and a low RST_N holds every
block in its initial state (R1, R38, R56, R71, R100, R114, R174, R183). With the slots, this settles O57. -/

namespace Sys2Proof.Machine

variable {s t : State} {cmd : Instr}

theorem SamePins.append (f : PortNo → List ResponseEntry) : SamePins s (s.append f) :=
  ⟨rfl, fun n => by rw [State.port_append]; exact ⟨rfl, rfl⟩, rfl, rfl, rfl⟩

theorem SamePins.freeLeases (p : LeaseNo → Bool) : SamePins s (s.freeLeases p) := by
  unfold State.freeLeases
  exact .of_eq rfl rfl rfl rfl rfl

theorem SamePins.revoked (h : Handle) : SamePins s (s.revoked h) := by
  unfold State.revoked
  exact (SamePins.freeLeases _).trans (.append _)

theorem SamePins.lowerTarget (r : Record) : SamePins s (s.lowerTarget r) := by
  cases r with
  | ofClock c => exact .refl s
  | ofAlias a => exact .updClock _ _

theorem SamePins.detachedFrom (h : Handle) (ph : Phase) (r : Record) : SamePins s (s.detachedFrom h ph r) := by
  unfold State.detachedFrom
  cases r with
  | ofAlias a => exact .refl s
  | ofClock c =>
    dsimp only
    split
    · exact .refl s
    · exact SamePins.trans (t := { s with
          bindings := s.bindings.filter fun b => b.clock != h
          deadlines := s.deadlines.filter fun e => !e.isWakeOf h }) (.of_eq rfl rfl rfl rfl rfl) (.append _)

theorem SamePins.updRecord (h : Handle) (f : Record → Record) : SamePins s (s.updRecord h f) :=
  .of_eq (by simp) (by simp) (by simp) (by simp) (by simp)

theorem SamePins.notify (i : SlotNo) (f : NoticeSet) : SamePins s (s.notify i f) := .putSlot _ _

theorem SamePins.withRecord (i : SlotNo) (ph : Phase) (r : Record) (f : NoticeSet) : SamePins s (s.withRecord i ph r f) :=
  .putSlot _ _

theorem SamePins.clockOp (op : ClockOp s t) : SamePins s t := by
  cases op with
  | record => exact .withRecord _ _ _ _
  | recordEnding x => exact (SamePins.withRecord _ _ _ _).trans (.endWakes _ x)
  | @bound i tag h role =>
    exact SamePins.trans (t := { s with bindings := { input := i, tag, clock := h, role } :: s.bindings })
      (.of_eq rfl rfl rfl rfl rfl) (.updClock _ _)
  | @unbound b =>
    have erased : SamePins s { s with bindings := s.bindings.erase b } := .of_eq rfl rfl rfl rfl rfl
    obtain ⟨ph, c, -, -, e⟩ | ⟨-, e⟩ := removeBinding_cases (s := s) b <;> rw [e]
    · exact erased.trans (.withRecord _ _ _ _)
    · exact erased

theorem SamePins.listOp (op : ListOp s t) : SamePins s t := by
  cases op with
  | aliasFields => exact .withRecord _ _ _ _
  | wakeMoved | spliceOrphaned => exact .deadlines _
  | wakeTaken => exact (SamePins.deadlines _).trans (.updClock _ _)
  | @wakeArmed n tag named b p due =>
    exact SamePins.trans (t := s.arm due (.wake n tag named b p)) (.of_eq rfl rfl rfl rfl rfl) (.updClock _ _)
  | @spliceArmed o h n d =>
    exact SamePins.trans (t := s.arm d (.splice o h n)) (.of_eq rfl rfl rfl rfl rfl)
      ((SamePins.updClock _ _).trans (.updAlias _ _))
  | spliceDropped f =>
    exact (SamePins.deadlines _).trans ((SamePins.updClock _ _).trans ((SamePins.updAlias _ _).trans (.notify _ f)))
  | spliceExecuted f =>
    exact (SamePins.deadlines _).trans ((SamePins.updAlias _ _).trans ((SamePins.updClock _ _).trans (.notify _ f)))
  | moved => exact (SamePins.updClock _ _).trans ((SamePins.updAlias _ _).trans (.updClock _ _))

theorem SamePins.retireRecord {h : Handle} {ph : Phase} {r : Record} (mode : RetireMode)
    (cur : s.current h = some (ph, r)) (idle : ∀ a, r = .ofAlias a → ph.isDraining = false → s.pendingEntry a = none) :
    SamePins s (retireRecord h ph r mode s).1 := by
  rw [retireRecord_closed cur idle]
  dsimp only
  refine (SamePins.detachedFrom h ph r).trans ?_
  split
  · exact (SamePins.lowerTarget r).trans (.putSlot _ _)
  split
  · exact (SamePins.revoked h).trans ((SamePins.lowerTarget r).trans (.putSlot _ _))
  · exact .withRecord _ _ _ _

theorem SamePins.giveUpLease (k : LeaseNo) (l : Lease) : SamePins s (s.giveUpLease k l) := by
  have freed : SamePins s ((s.putLease k none).updRecord l.named (Record.updLeaseCount (· - 1))) :=
    SamePins.trans (t := s.putLease k none) (.of_eq rfl rfl rfl rfl rfl) (.updRecord _ _)
  unfold State.giveUpLease
  dsimp only
  split
  · split
    · exact freed.trans (.enterRetired _)
    · exact freed
  all_goals exact freed

theorem SamePins.tenureOp (op : TenureOp s cmd t) : SamePins s t := by
  cases op with
  | clockCreated slot => exact .putSlot _ _
  | aliasCreated slot cur drain => exact (SamePins.updClock _ _).trans (.putSlot _ _)
  | enabled cur => exact .withRecord _ _ _ _
  | clockRetired mode cur alone notBusy => exact .retireRecord mode cur nofun
  | aliasRetired mode cur idle notBusy => exact .retireRecord mode cur fun a e => by cases e; exact idle
  | drained slot => exact (SamePins.revokeAll _).trans (.enterRetired _)
  | @granted k l ph r free cur live =>
    exact SamePins.trans (t := s.putLease k (some l)) (.of_eq rfl rfl rfl rfl rfl) (.updRecord _ _)
  | givenUp cmd held => exact .giveUpLease _ _
  | collected slot flags own => exact .putSlot _ _

/-- A run of stages keeps the pins legal and RST_N as it is. -/
theorem Run.pins (r : Run cmd s t) : t.rstLow = s.rstLow ∧ (PinsLegal s → PinsLegal t) := by
  induction r with
  | refl => exact ⟨rfl, id⟩
  | tail _ stage ih =>
    obtain ⟨low, legal⟩ := ih
    cases stage with
    | quiet q => exact ⟨q.rstLow.trans low, fun hs => q.pins (legal hs)⟩
    | clock op => exact ⟨(SamePins.clockOp op).rstLow.trans low, fun hs => (SamePins.clockOp op).pinsLegal (legal hs)⟩
    | list op => exact ⟨(SamePins.listOp op).rstLow.trans low, fun hs => (SamePins.listOp op).pinsLegal (legal hs)⟩
    | tenure op => exact ⟨(SamePins.tenureOp op).rstLow.trans low, fun hs => (SamePins.tenureOp op).pinsLegal (legal hs)⟩

/-! ## Resets and the purge -/

theorem Input.legal_received {i : Input} {r : Receiver} (legal : i.legal = true) (idle : r = .blocked ∨ r = .idle) :
    { i with receiver := r }.legal = true := by
  unfold Input.legal at *
  obtain rfl | rfl := idle <;> simp_all

theorem pinsLegal_hardReset (s : State) : PinsLegal (hardReset s) := by
  have input (i : InputNo) : (hardReset s).input i = Input.initial := by simp [hardReset, State.reset, State.input]
  have port (n : PortNo) : (hardReset s).port n = Port.initial := by simp [hardReset, State.reset, State.port]
  refine ⟨fun i => ?_, fun n => ?_, rfl, BitVec.zero_and⟩
  · rw [input]
    rfl
  · rw [port]
    exact ⟨by decide, rfl⟩

theorem pinsLegal_releaseReset (a b : BitVec 4) (m : Bool) (h : PinsLegal s) : PinsLegal (releaseReset a b m s) := by
  obtain ⟨inputs, ports, -, mask⟩ := h
  refine ⟨fun i => ?_, fun n => ?_, ?_, mask⟩
  · rw [input_releaseReset]
    refine Input.legal_received (inputs i) ?_
    split
    · exact .inl rfl
    · exact .inr rfl
  · rw [port_releaseReset]
    refine ⟨(ports n).1, ?_⟩
    dsimp only
    split <;> rfl
  · cases m <;> rfl

theorem Input.legal_purged {i : Input} (h : i.legal = true) : i.purged.legal = true := by
  unfold Input.legal at h ⊢
  simp only [Bool.and_eq_true] at h ⊢
  obtain ⟨⟨-, offset⟩, received⟩ := h
  exact ⟨⟨beq_iff_eq.2 BitVec.zero_and, offset⟩, received⟩

@[simp] theorem purgeAll_mgmt : (purgeAll s).mgmt = s.mgmt := by unfold purgeAll; rfl
@[simp] theorem purgeAll_mask : (purgeAll s).mask = s.mask := by unfold purgeAll; rfl
@[simp] theorem purgeAll_rstLow : (purgeAll s).rstLow = s.rstLow := by unfold purgeAll; rfl

theorem pinsLegal_purgeAll (h : PinsLegal s) : PinsLegal (purgeAll s) := by
  obtain ⟨inputs, ports, mgmt, mask⟩ := h
  have input (i : InputNo) : (purgeAll s).input i = (s.input i).purged := by simp [purgeAll, State.input]
  have port (n : PortNo) : (purgeAll s).port n = (s.port n).purgedOut := by simp [purgeAll, State.port]
  refine ⟨fun i => ?_, fun n => ?_, by rw [purgeAll_mgmt]; exact mgmt, by rw [purgeAll_mask]; exact mask⟩
  · rw [input]
    exact Input.legal_purged (inputs i)
  · rw [port]
    obtain ⟨level, tx⟩ := ports n
    obtain ⟨level', tx'⟩ := emptied_kept (s.port n)
    exact ⟨level'.symm ▸ level, tx' tx⟩

/-- The hard reset's state does not depend on the queue it leaves alone. -/
theorem resetHolds_pending (q : List Instr) (h : ResetHolds s) : ResetHolds { s with pending := q } :=
  fun low => congrArg (fun u : State => { u with pending := q }) (h low)

theorem partsLegal_exec (e : exec cmd s = .next t) (h : PartsLegal s) : PartsLegal t := by
  obtain ⟨pins, held⟩ := h
  obtain run | ⟨-, rfl⟩ | ⟨-, a, b, m, -, rfl⟩ | ⟨-, asked, rfl⟩ := exec_cases e
  · obtain ⟨same, legal⟩ := Run.pins run
    refine ⟨legal pins, fun low => ?_⟩
    have low_before : s.rstLow = true := same.symm.trans low
    by_cases reset : cmd = .hardReset
    · subst reset
      cases e
      rfl
    · by_cases release : ∃ a b m, cmd = .resetRelease a b m
      · obtain ⟨a, b, m, rfl⟩ := release
        rw [exec_resetRelease_low a b m low_before] at e
        cases e
        cases low
      · rw [exec_low low_before reset fun a b m q => release ⟨a, b, m, q⟩] at e
        cases e
        exact held low
  · exact ⟨pinsLegal_hardReset s, fun _ => rfl⟩
  · exact ⟨pinsLegal_releaseReset a b m pins, nofun⟩
  · refine ⟨(quiet_hold _ _).pins (pinsLegal_purgeAll pins), fun low => ?_⟩
    rw [State.hold_rstLow, purgeAll_rstLow, asked.1] at low
    cases low

/-- Settles O57: slots through the stages of a command, the pins likewise, and a low RST_N under `exec_low`. -/
theorem slotsAndPortsStayLegal : Obligations.SlotsAndPortsStayLegal := by
  refine ⟨fun s t legal e => slotsLegal_tableProperty.step e legal, fun s t legal e => ?_⟩
  obtain rfl | ⟨cmd, rest, -, e⟩ := step_cases e
  · exact legal
  · exact partsLegal_exec (s := { s with pending := rest }) e ⟨legal.1, resetHolds_pending rest legal.2⟩

end Sys2Proof.Machine
end

section
/-! SUPPORT. The Lease Table and the lease counts (R22, R31): what every stage does to the phase and the lease count a handle
names, and that both stay in agreement with the leases. -/

namespace Sys2Proof.Machine

variable {s t : State} {cmd : Instr}

/-! ## What a reader of the records sees -/

/-- What a reader of the phases and records sees of the record a handle names. -/
def State.view {α : Type} (V : Phase × Record → Option α) (s : State) (h : Handle) : Option α := (s.current h).bind V

section
variable {α : Type} {V : Phase × Record → Option α}

theorem view_of_current {h : Handle} {x : Phase × Record} (cur : s.current h = some x) : s.view V h = V x := by
  unfold State.view
  rw [cur, Option.bind_some]

theorem view_of_slots (e : t.slots = s.slots) : t.view V = s.view V := by
  funext k
  unfold State.view
  rw [current_of_slots e]

theorem view_withRecord {h : Handle} {x : Phase × Record} (cur : s.current h = some x) (ph : Phase) (r : Record)
    (f : NoticeSet) (k : Handle) : (s.withRecord h.slot ph r f).view V k = if k = h then V (ph, r) else s.view V k := by
  unfold State.view
  rw [current_withRecord cur]
  split <;> rfl

/-- A record written anew looks as before to a reader who does not see the difference. -/
theorem view_withRecord_same {h : Handle} {x : Phase × Record} {ph : Phase} {r : Record} (cur : s.current h = some x)
    (same : V (ph, r) = V x) (f : NoticeSet) : (s.withRecord h.slot ph r f).view V = s.view V := by
  funext k
  rw [view_withRecord cur]
  split
  next q => rw [q, view_of_current cur, same]
  · rfl

theorem view_updClock (h : Handle) (f : ClockRecord → ClockRecord)
    (same : ∀ ph c, V (ph, .ofClock (f c)) = V (ph, .ofClock c)) : (s.updClock h f).view V = s.view V := by
  obtain ⟨ph, c, cur, e⟩ | ⟨-, e⟩ := updClock_cases (s := s) h f <;> rw [e]
  exact view_withRecord_same cur (same ph c) 0

theorem view_updAlias (h : Handle) (f : AliasRecord → AliasRecord)
    (same : ∀ ph a, V (ph, .ofAlias (f a)) = V (ph, .ofAlias a)) : (s.updAlias h f).view V = s.view V := by
  obtain ⟨ph, a, cur, e⟩ | ⟨-, e⟩ := updAlias_cases (s := s) h f <;> rw [e]
  exact view_withRecord_same cur (same ph a) 0

theorem view_notify (i : SlotNo) (f : NoticeSet) : (s.notify i f).view V = s.view V := by
  funext k
  unfold State.view
  rw [current_notify]

/-- A slot made FREE or RETIRED ends what its handle named. -/
theorem view_putSlot_inactive {h : Handle} {x : Phase × Record} {y : Slot} (cur : s.current h = some x)
    (inactive : ∀ ph r, y.content ≠ .active ph r) (k : Handle) :
    (s.putSlot h.slot y).view V k = if k = h then none else s.view V k := by
  unfold State.view
  rw [current_putSlot_inactive inactive]
  by_cases q : k = h
  · simp [q]
  · rw [if_neg q]
    split
    next same =>
      cases e : s.current k with
      | none => rfl
      | some y => exact absurd (State.current_inj e cur same) q
    · rfl

theorem view_create {i : SlotNo} {r : Record} (h0 : i ≠ 0) (free : (s.slot i).content = .free) (gen : (s.slot i).gen ≠ 0)
    (k : Handle) : (s.create i r).view V k = if k = s.handleOf i then V (.reserved, r) else s.view V k := by
  unfold State.view
  rw [current_create h0 free gen]
  split <;> rfl

/-- The reader sees no ALIAS count and no wake count of a CLOCK, and of an ALIAS no more than its lease count. -/
structure CountBlind (V : Phase × Record → Option α) : Prop where
  ofClock : ∀ ph c a w, V (ph, .ofClock { c with aliasCount := a, wakeCount := w }) = V (ph, .ofClock c)
  ofAlias : ∀ ph (a a' : AliasRecord), a'.leaseCount = a.leaseCount → V (ph, .ofAlias a') = V (ph, .ofAlias a)

theorem view_raiseAliasCount (blind : CountBlind V) (h : Handle) : (s.raiseAliasCount h).view V = s.view V :=
  view_updClock h _ fun ph c => blind.ofClock ph c _ _

theorem view_lowerAliasCount (blind : CountBlind V) (h : Handle) : (s.lowerAliasCount h).view V = s.view V :=
  view_updClock h _ fun ph c => blind.ofClock ph c _ _

theorem view_lowerWakeCount (blind : CountBlind V) (h : Handle) : (s.lowerWakeCount h).view V = s.view V :=
  view_updClock h _ fun ph c => blind.ofClock ph c _ _

theorem view_lowerTarget (blind : CountBlind V) (r : Record) : (s.lowerTarget r).view V = s.view V := by
  cases r with
  | ofClock c => rfl
  | ofAlias a => exact view_lowerAliasCount blind _

/-- Such a reader sees nothing of a change of ALIAS records, counts and Deadline List. -/
theorem view_listOp (blind : CountBlind V) (op : ListOp s t) : t.view V = s.view V := by
  have list (l : List DeadlineEntry) : (s.putDeadlines l).view V = s.view V := view_of_slots rfl
  cases op with
  | aliasFields cur legal leases target pending => exact view_withRecord_same cur (blind.ofAlias _ _ _ leases) 0
  | wakeMoved | spliceOrphaned => exact list _
  | wakeTaken => exact (view_lowerWakeCount blind _).trans (list _)
  | @wakeArmed n tag named b p due ph c =>
    have armed : (s.arm due (.wake n tag named b p)).view V = s.view V := view_of_slots rfl
    rw [view_updClock, armed]
    exact fun ph c => blind.ofClock ph c _ _
  | @spliceArmed o h n d a =>
    have armed : (s.arm d (.splice o h n)).view V = s.view V := view_of_slots rfl
    unfold armSplice
    rw [view_updAlias, view_raiseAliasCount blind, armed]
    exact fun ph a => blind.ofAlias ph a _ rfl
  | spliceDropped f =>
    rw [view_notify, view_updAlias, view_lowerAliasCount blind, list]
    exact fun ph a => blind.ofAlias ph a _ rfl
  | spliceExecuted f =>
    rw [view_notify, view_lowerAliasCount blind, view_updAlias, list]
    exact fun ph a => blind.ofAlias ph a _ rfl
  | moved =>
    unfold moveAlias
    rw [view_lowerAliasCount blind, view_updAlias, view_raiseAliasCount blind]
    exact fun ph a => blind.ofAlias ph a _ rfl

end

theorem leases_listOp (op : ListOp s t) : t.leases = s.leases ∧ t.bindings = s.bindings := by
  cases op <;> simp [State.putDeadlines, armSplice, moveAlias, State.withRecord]

/-! ## The tenure of a handle -/

/-- The phase and the lease count of the record a handle names. -/
abbrev State.tenure (s : State) : Handle → Option (Phase × Nat) := s.view fun x => some (x.1, x.2.leaseCount)

theorem tenure_blind : CountBlind fun x => some (x.1, x.2.leaseCount) :=
  ⟨fun _ _ _ _ => rfl, fun _ _ _ same => congrArg some (Prod.ext rfl same)⟩

theorem tenure_eq_some {h : Handle} {ph : Phase} {n : Nat} :
    s.tenure h = some (ph, n) ↔ ∃ r, s.current h = some (ph, r) ∧ r.leaseCount = n := by
  unfold State.tenure State.view
  constructor
  · intro e
    obtain ⟨⟨p, r⟩, cur, q⟩ := Option.bind_eq_some_iff.1 e
    cases q
    exact ⟨r, cur, rfl⟩
  · rintro ⟨r, cur, rfl⟩
    rw [cur]
    rfl

theorem tenure_of_current {h : Handle} {ph : Phase} {r : Record} (cur : s.current h = some (ph, r)) :
    s.tenure h = some (ph, r.leaseCount) := tenure_eq_some.2 ⟨r, cur, rfl⟩

theorem tenure_withRecord {h : Handle} {x : Phase × Record} (cur : s.current h = some x) (ph : Phase) (r : Record)
    (f : NoticeSet) (k : Handle) :
    (s.withRecord h.slot ph r f).tenure k = if k = h then some (ph, r.leaseCount) else s.tenure k :=
  view_withRecord cur ph r f k

theorem tenure_of_slots (e : t.slots = s.slots) : t.tenure = s.tenure := view_of_slots e

/-- A change of a CLOCK record that keeps its counts keeps its tenure. -/
theorem tenure_countsKept {ph : Phase} {c c' : ClockRecord} (h : CountsKept c c') :
    (some (ph, (Record.ofClock c').leaseCount) : Option (Phase × Nat)) = some (ph, (Record.ofClock c).leaseCount) :=
  congrArg (fun n => some (ph, n)) h.leases

theorem tenure_clockOp (op : ClockOp s t) : t.tenure = s.tenure ∧ t.leases = s.leases := by
  cases op with
  | record cur legal counts source lock flags => exact ⟨view_withRecord_same cur (tenure_countsKept counts) _, rfl⟩
  | @recordEnding h ph c c' f x cur legal counts source flags =>
    rw [endWakes_eq x (State.current_withRecord_self cur ph (.ofClock c') f), State.withRecord_withRecord]
    refine ⟨?_, rfl⟩
    exact (view_of_slots (State.slots_append _)).trans
      (view_withRecord_same (r := .ofClock { c' with wakeCount := 0, updatePending := false }) cur
        (tenure_countsKept counts) (f ||| 0))
  | @bound i tag h role =>
    have entered : ({ s with bindings := { input := i, tag, clock := h, role } :: s.bindings } : State).tenure = s.tenure :=
      view_of_slots rfl
    refine ⟨Eq.trans (view_updClock _ _ ?_) entered, by simp⟩
    exact fun _ _ => rfl
  | @unbound b =>
    have left : ({ s with bindings := s.bindings.erase b } : State).tenure = s.tenure := view_of_slots rfl
    obtain ⟨ph, c, cur, -, e⟩ | ⟨-, e⟩ := removeBinding_cases (s := s) b <;> rw [e]
    · have cur' : ({ s with bindings := s.bindings.erase b } : State).current b.clock = some (ph, .ofClock c) := cur
      refine ⟨(view_withRecord_same cur' ?_ _).trans left, rfl⟩
      rfl
    · exact ⟨left, rfl⟩

/-! ## Leases and lease counts in agreement -/

theorem leasesNaming_eq (h : Handle) : s.leasesNaming h = (List.finRange 16).countP (s.leaseNames h) := by
  have : s.leases.toList = (List.finRange 16).map s.lease := by
    apply List.ext_getElem <;> simp [State.lease]
  unfold State.leasesNaming
  rw [this, List.countP_map]
  rfl

/-- Every record's lease count is the number of leases naming it, and every lease names a LIVE or DRAINING record. -/
structure LeasesCounted (s : State) : Prop where
  count : ∀ h ph n, s.tenure h = some (ph, n) → n = s.leasesNaming h
  named : ∀ k l, s.lease k = some l → ∃ ph n, s.tenure l.named = some (ph, n) ∧ ph ≠ .reserved

/-- A DRAINING record has a lease (R31). -/
def DrainingHeld (s : State) : Prop := ∀ h d n, s.tenure h = some (.draining d, n) → 1 ≤ n

theorem leasesTied_iff : LeasesTied s ↔ LeasesCounted s ∧ DrainingHeld s := by
  constructor
  · rintro ⟨counted, named⟩
    refine ⟨⟨fun h ph n e => ?_, fun k l held => ?_⟩, fun h d n e => ?_⟩
    · obtain ⟨r, cur, rfl⟩ := tenure_eq_some.1 e
      exact (counted h ph r cur).1
    · obtain ⟨ph, r, cur, active⟩ := named k l held
      exact ⟨ph, _, tenure_of_current cur, active⟩
    · obtain ⟨r, cur, rfl⟩ := tenure_eq_some.1 e
      exact (counted h _ r cur).2 rfl
  · rintro ⟨⟨count, named⟩, held⟩
    refine ⟨fun h ph r cur => ⟨count h ph _ (tenure_of_current cur), fun drains => ?_⟩, fun k l e => ?_⟩
    · cases ph with
      | draining d => exact held h d _ (tenure_of_current cur)
      | reserved | live => cases drains
    · obtain ⟨ph, n, e, active⟩ := named k l e
      obtain ⟨r, cur, -⟩ := tenure_eq_some.1 e
      exact ⟨ph, r, cur, active⟩

/-- No lease names a handle that is not current. -/
theorem LeasesCounted.none_naming {h : Handle} (counted : LeasesCounted s) (stale : s.tenure h = none) :
    s.leasesNaming h = 0 := by
  rw [leasesNaming_eq, List.countP_eq_zero]
  rintro k - names
  obtain ⟨l, held, named⟩ : ∃ l, s.lease k = some l ∧ l.named = h := by
    simpa [State.leaseNames, Option.any_eq_true] using names
  obtain ⟨ph, n, e, -⟩ := counted.named k l held
  rw [named, stale] at e
  cases e

theorem LeasesTied.of_tenure (tied : LeasesTied s) (tenure : t.tenure = s.tenure) (leases : t.leases = s.leases) :
    LeasesTied t := by
  obtain ⟨⟨count, named⟩, held⟩ := leasesTied_iff.1 tied
  have lease (k : LeaseNo) : t.lease k = s.lease k := by simp only [State.lease, leases]
  have naming (h : Handle) : t.leasesNaming h = s.leasesNaming h := by simp only [State.leasesNaming, leases]
  refine leasesTied_iff.2 ⟨⟨fun h ph n e => ?_, fun k l e => ?_⟩, fun h d n e => ?_⟩
  · rw [tenure] at e
    rw [naming]
    exact count h ph n e
  · rw [tenure]
    exact named k l (by rw [← lease]; exact e)
  · rw [tenure] at e
    exact held h d n e

/-- Leases and lease counts agree where one handle's tenure has changed, to what the leases and R31 say. -/
theorem LeasesCounted.changed {h : Handle} {x : Option (Phase × Nat)} (counted : LeasesCounted s) (leases : t.leases = s.leases)
    (tenure : ∀ k, t.tenure k = if k = h then x else s.tenure k) (count : ∀ ph n, x = some (ph, n) → n = s.leasesNaming h)
    (active : ∀ l k, s.lease k = some l → l.named = h → ∃ ph n, x = some (ph, n) ∧ ph ≠ .reserved) : LeasesCounted t := by
  have lease (k : LeaseNo) : t.lease k = s.lease k := by simp only [State.lease, leases]
  have naming (h : Handle) : t.leasesNaming h = s.leasesNaming h := by simp only [State.leasesNaming, leases]
  refine ⟨fun k ph n e => ?_, fun k l e => ?_⟩
  · rw [tenure] at e
    rw [naming]
    split at e
    next q => subst q; exact count ph n e
    · exact counted.count k ph n e
  · rw [lease] at e
    rw [tenure]
    split
    next q => exact active l k e q
    · exact counted.named k l e

/-- A record that ends with every lease on it freed leaves the others as they were (R33, R34). -/
theorem LeasesCounted.vacated {h : Handle} (counted : LeasesCounted s)
    (lease : ∀ k, t.lease k = if s.leaseNames h k then none else s.lease k)
    (tenure : ∀ k, t.tenure k = if k = h then none else s.tenure k) : LeasesCounted t := by
  have named_other {k : LeaseNo} {l : Lease} (e : t.lease k = some l) : s.lease k = some l ∧ l.named ≠ h := by
    rw [lease] at e
    split at e
    · cases e
    next q => exact ⟨e, fun named => q (by simp [State.leaseNames, e, named])⟩
  refine ⟨fun k ph n e => ?_, fun k l e => ?_⟩
  · rw [tenure] at e
    split at e
    · cases e
    next q =>
      rw [counted.count k ph n e, leasesNaming_eq, leasesNaming_eq]
      refine List.countP_congr fun j _ => ?_
      unfold State.leaseNames
      rw [lease]
      split
      next names =>
        obtain ⟨l, held, named⟩ : ∃ l, s.lease j = some l ∧ l.named = h := by
          simpa [State.leaseNames, Option.any_eq_true] using names
        simp [held, named, Ne.symm q]
      · rfl
  · obtain ⟨held, other⟩ := named_other e
    rw [tenure, if_neg other]
    exact counted.named k l held

theorem DrainingHeld.changed {h : Handle} {x : Option (Phase × Nat)} (held : DrainingHeld s)
    (tenure : ∀ k, t.tenure k = if k = h then x else s.tenure k) (here : ∀ d n, x = some (.draining d, n) → 1 ≤ n) :
    DrainingHeld t := by
  intro k d n e
  rw [tenure] at e
  split at e
  · exact here d n e
  · exact held k d n e

theorem LeasesTied.vacated {h : Handle} (tied : LeasesTied s)
    (lease : ∀ k, t.lease k = if s.leaseNames h k then none else s.lease k)
    (tenure : ∀ k, t.tenure k = if k = h then none else s.tenure k) : LeasesTied t := by
  obtain ⟨counted, held⟩ := leasesTied_iff.1 tied
  exact leasesTied_iff.2 ⟨counted.vacated lease tenure, held.changed tenure nofun⟩

/-! ## Retirement and the leases -/

theorem leases_detachedFrom (h : Handle) (ph : Phase) (r : Record) : (s.detachedFrom h ph r).leases = s.leases := by
  unfold State.detachedFrom
  cases r with
  | ofClock c => dsimp only; split <;> rfl
  | ofAlias a => rfl

@[simp] theorem leases_lowerTarget (r : Record) : (s.lowerTarget r).leases = s.leases := by
  cases r with
  | ofClock c => rfl
  | ofAlias a => exact State.lowerAliasCount_leases s a.target

@[simp] theorem State.leases_append (f : PortNo → List ResponseEntry) : (s.append f).leases = s.leases := rfl

theorem State.lease_congr (e : t.leases = s.leases) (k : LeaseNo) : t.lease k = s.lease k := by
  simp only [State.lease, e]

theorem lease_revoked (h : Handle) (k : LeaseNo) :
    (s.revoked h).lease k = if s.leaseNames h k then none else s.lease k := by
  unfold State.revoked
  exact (State.lease_congr (State.leases_append _) k).trans (State.lease_freeLeases _ k)

theorem State.leaseNames_congr (e : t.leases = s.leases) (h : Handle) : t.leaseNames h = s.leaseNames h := by
  funext k
  unfold State.leaseNames
  rw [State.lease_congr e]

/-- The record that enters RETIRED names the same slot after its target's count has fallen (R34). -/
theorem current_lowerTarget {h : Handle} {ph : Phase} {r : Record} (cur : s.current h = some (ph, r)) :
    (s.lowerTarget r).current h = some (ph, r) := by
  cases r with
  | ofClock c => exact cur
  | ofAlias a => exact current_updClock_ofAlias _ cur

/-- What a reader sees when a record enters RETIRED: its handle names nothing. -/
theorem view_entersRetired {α : Type} {V : Phase × Record → Option α} (blind : CountBlind V) {h : Handle} {ph : Phase}
    {r : Record} {y : Slot} (cur : s.current h = some (ph, r)) (retired : ∃ k, y.content = .retired k) (k : Handle) :
    ((s.lowerTarget r).putSlot h.slot y).view V k = if k = h then none else s.view V k := by
  obtain ⟨kind, content⟩ := retired
  rw [view_putSlot_inactive (current_lowerTarget cur) (fun ph r => by simp [content]), view_lowerTarget blind]

theorem view_enterRetired {α : Type} {V : Phase × Record → Option α} (blind : CountBlind V) {h : Handle} {ph : Phase}
    {r : Record} (cur : s.current h = some (ph, r)) (k : Handle) :
    (s.enterRetired h.slot).view V k = if k = h then none else s.view V k := by
  rw [enterRetired_of_current cur]
  exact view_entersRetired blind cur ⟨r.kind, rfl⟩ k

theorem LeasesCounted.leaseNames_of_zero {h : Handle} {ph : Phase} {r : Record} (counted : LeasesCounted s)
    (cur : s.current h = some (ph, r)) (zero : r.leaseCount = 0) (k : LeaseNo) : s.leaseNames h k = false := by
  have count := counted.count h ph _ (tenure_of_current cur)
  rw [zero, leasesNaming_eq] at count
  simpa using List.countP_eq_zero.1 count.symm k (List.mem_finRange k)

/-- A record without leases that enters RETIRED (R31, R34). -/
theorem LeasesTied.retired {h : Handle} {ph : Phase} {r : Record} {u : State} {y : Slot} (tied : LeasesTied s)
    (cur : s.current h = some (ph, r)) (zero : r.leaseCount = 0) (slots : u.slots = s.slots) (leases : u.leases = s.leases)
    (inactive : ∃ k, y.content = .retired k) : LeasesTied ((u.lowerTarget r).putSlot h.slot y) := by
  refine tied.vacated (h := h) (fun k => ?_) fun k => ?_
  · rw [(leasesTied_iff.1 tied).1.leaseNames_of_zero cur zero]
    exact State.lease_congr ((leases_lowerTarget r).trans leases) k
  · exact (view_entersRetired tenure_blind ((current_of_slots slots h).trans cur) inactive k).trans
      (by rw [view_of_slots slots])

/-- A record that enters RETIRED with its leases revoked (R33, R34). -/
theorem LeasesTied.retiredRevoked {h : Handle} {ph : Phase} {r : Record} {u : State} {y : Slot} (tied : LeasesTied s)
    (cur : s.current h = some (ph, r)) (slots : u.slots = s.slots) (leases : u.leases = s.leases)
    (inactive : ∃ k, y.content = .retired k) : LeasesTied (((u.revoked h).lowerTarget r).putSlot h.slot y) := by
  have slots' : (u.revoked h).slots = s.slots := (State.slots_revoked h).trans slots
  refine tied.vacated (h := h) (fun k => ?_) fun k => ?_
  · have same : (((u.revoked h).lowerTarget r).putSlot h.slot y).leases = (u.revoked h).leases := leases_lowerTarget r
    rw [State.lease_congr same, lease_revoked, State.leaseNames_congr leases, State.lease_congr leases]
  · exact (view_entersRetired tenure_blind ((current_of_slots slots' h).trans cur) inactive k).trans
      (by rw [view_of_slots slots'])

theorem LeasesTied.retireRecord {h : Handle} {ph : Phase} {r : Record} (mode : RetireMode) (tied : LeasesTied s)
    (cur : s.current h = some (ph, r)) (idle : ∀ a, r = .ofAlias a → ph.isDraining = false → s.pendingEntry a = none) :
    LeasesTied (retireRecord h ph r mode s).1 := by
  have slots := State.slots_detachedFrom (s := s) h ph r
  have leases := leases_detachedFrom (s := s) h ph r
  rw [retireRecord_closed cur idle]
  dsimp only
  split
  next zero => exact tied.retired cur zero slots leases ⟨_, rfl⟩
  next leased =>
    split
    · exact tied.retiredRevoked cur slots leases ⟨_, rfl⟩
    · obtain ⟨counted, held⟩ := leasesTied_iff.1 tied
      have count : (if ph.isDraining then r else r.detached).leaseCount = r.leaseCount := by
        split
        · rfl
        · cases r <;> rfl
      have drains (d : LocalTime) (k : Handle) :
          ((s.detachedFrom h ph r).withRecord h.slot (.draining d) (if ph.isDraining then r else r.detached) 0).tenure k =
            if k = h then some (.draining d, r.leaseCount) else s.tenure k := by
        rw [tenure_withRecord ((current_of_slots slots h).trans cur), count, tenure_of_slots slots]
      refine leasesTied_iff.2 ⟨counted.changed (x := some (.draining _, r.leaseCount)) leases (drains _) ?_ ?_,
        held.changed (drains _) ?_⟩
      · rintro _ n ⟨⟩
        exact counted.count h ph _ (tenure_of_current cur)
      · exact fun l k e named => ⟨_, _, rfl, nofun⟩
      · rintro d n ⟨⟩
        omega

/-! ## The other changes of leases and lifecycle -/

/-- A change to a CLOCK record leaves a FREE slot as it is. -/
theorem slot_updClock_free {i : SlotNo} (h : Handle) (f : ClockRecord → ClockRecord) (free : (s.slot i).content = .free) :
    (s.updClock h f).slot i = s.slot i := by
  obtain ⟨ph, c, cur, e⟩ | ⟨-, e⟩ := updClock_cases (s := s) h f <;> rw [e]
  rw [State.slot_withRecord, if_neg]
  rintro rfl
  rw [(State.current_eq_some.1 cur).2.2.2] at free
  cases free

theorem content_updClock_free {i : SlotNo} (h : Handle) (f : ClockRecord → ClockRecord) (free : (s.slot i).content = .free) :
    ((s.updClock h f).slot i).content = .free := by rw [slot_updClock_free h f free, free]

theorem LeasesTied.create {i : SlotNo} {r : Record} (legal : SlotsLegal s) (tied : LeasesTied s) (h0 : i ≠ 0)
    (free : (s.slot i).content = .free) (zero : r.leaseCount = 0) : LeasesTied (s.create i r) := by
  obtain ⟨counted, held⟩ := leasesTied_iff.1 tied
  have stale : s.tenure (s.handleOf i) = none := by
    unfold State.tenure State.view
    rw [current_handleOf_free free, Option.bind_none]
  have tenure (k : Handle) : (s.create i r).tenure k = if k = s.handleOf i then some (.reserved, 0) else s.tenure k := by
    rw [← zero]
    exact view_create h0 free (legal.gen_ne_zero i) k
  refine leasesTied_iff.2 ⟨counted.changed rfl tenure ?_ fun l k e named => ?_, held.changed tenure nofun⟩
  · rintro ph n ⟨⟩
    exact (counted.none_naming stale).symm
  · obtain ⟨ph, n, current, -⟩ := counted.named k l e
    rw [named, stale] at current
    cases current

theorem tenure_updLeaseCount {h : Handle} {ph : Phase} {r : Record} (g : Nat → Nat) (cur : s.current h = some (ph, r))
    (k : Handle) :
    (s.updRecord h (Record.updLeaseCount g)).tenure k = if k = h then some (ph, g r.leaseCount) else s.tenure k := by
  rw [State.updRecord_of_current _ cur, tenure_withRecord cur]
  have count : (r.updLeaseCount g).leaseCount = g r.leaseCount := by cases r <;> rfl
  rw [count]

theorem LeasesTied.granted {k : LeaseNo} {l : Lease} {r : Record} (tied : LeasesTied s) (free : s.lease k = none)
    (cur : s.current l.named = some (.live, r)) :
    LeasesTied ((s.putLease k (some l)).updRecord l.named (Record.updLeaseCount (· + 1))) := by
  obtain ⟨counted, held⟩ := leasesTied_iff.1 tied
  have tenure := tenure_updLeaseCount (s := s.putLease k (some l)) (h := l.named) (· + 1) cur
  have naming (h : Handle) :
      ((s.putLease k (some l)).updRecord l.named (Record.updLeaseCount (· + 1))).leasesNaming h =
        s.leasesNaming h + (l.named == h).toNat := by
    have := leasesNaming_putLease (s := s) k (some l) h
    simpa [free, State.leasesNaming] using this
  refine leasesTied_iff.2 ⟨⟨fun h ph n e => ?_, fun j m e => ?_⟩, held.changed (s := s) tenure nofun⟩
  · rw [tenure] at e
    rw [naming]
    split at e
    next q =>
      cases e
      rw [q, ← counted.count _ _ _ (tenure_of_current cur)]
      simp
    next q =>
      rw [counted.count h ph n e]
      simp [Ne.symm q]
  · have e : (s.putLease k (some l)).lease j = some m := by simpa [State.lease] using e
    rw [State.lease_putLease] at e
    rw [tenure]
    split
    · exact ⟨_, _, rfl, nofun⟩
    next q =>
      split at e
      · cases e
        exact absurd rfl q
      · exact counted.named j m e

/-- The record's lease count falls with the lease. -/
theorem LeasesCounted.lowered {k : LeaseNo} {l : Lease} {ph : Phase} {r : Record} (counted : LeasesCounted s)
    (e : s.lease k = some l) (cur : s.current l.named = some (ph, r)) (active : ph ≠ .reserved) :
    LeasesCounted ((s.putLease k none).updRecord l.named (Record.updLeaseCount (· - 1))) := by
  have tenure := tenure_updLeaseCount (s := s.putLease k none) (h := l.named) (· - 1) cur
  have naming (h : Handle) :
      ((s.putLease k none).updRecord l.named (Record.updLeaseCount (· - 1))).leasesNaming h + (l.named == h).toNat =
        s.leasesNaming h := by
    have := leasesNaming_putLease (s := s) k none h
    simpa [e, State.leasesNaming] using this
  refine ⟨fun h p n q => ?_, fun j m q => ?_⟩
  · rw [tenure] at q
    have := naming h
    split at q
    next here =>
      cases q
      have := counted.count _ _ _ (tenure_of_current cur)
      simp [here] at *
      omega
    next other =>
      have apart : (l.named == h) = false := by simpa using Ne.symm other
      rw [apart, Bool.toNat_false, Nat.add_zero] at this
      rw [this]
      exact counted.count h p n q
  · have q : (s.putLease k none).lease j = some m := by simpa [State.lease] using q
    rw [State.lease_putLease] at q
    rw [tenure]
    split
    · exact ⟨ph, _, rfl, active⟩
    · split at q
      · cases q
      · exact counted.named j m q

/-- A lease given up lowers its record's count, and the last one of a DRAINING record ends it (R40, R160). -/
theorem LeasesTied.givenUp {k : LeaseNo} {l : Lease} (tied : LeasesTied s) (e : s.lease k = some l) :
    LeasesTied (s.giveUpLease k l) := by
  obtain ⟨counted, held⟩ := leasesTied_iff.1 tied
  obtain ⟨ph, n, named, active⟩ := counted.named k l e
  obtain ⟨r, cur, rfl⟩ := tenure_eq_some.1 named
  have counted' := counted.lowered e cur active
  have tenure := tenure_updLeaseCount (s := s.putLease k none) (h := l.named) (· - 1) cur
  have cur' : ((s.putLease k none).updRecord l.named (Record.updLeaseCount (· - 1))).current l.named =
      some (ph, r.updLeaseCount (· - 1)) := by
    rw [State.updRecord_of_current (s := s.putLease k none) _ cur]
    exact State.current_withRecord_self (s := s.putLease k none) cur _ _ _
  have count : (r.updLeaseCount (· - 1)).leaseCount = r.leaseCount - 1 := by cases r <;> rfl
  have stays (here : ∀ d, ph = .draining d → r.leaseCount - 1 ≠ 0) :
      LeasesTied ((s.putLease k none).updRecord l.named (Record.updLeaseCount (· - 1))) :=
    leasesTied_iff.2 ⟨counted', held.changed (s := s) tenure fun d n q => by cases q; exact Nat.pos_of_ne_zero (here d rfl)⟩
  unfold State.giveUpLease
  dsimp only
  rw [cur']
  cases ph with
  | reserved | live => exact stays nofun
  | draining d =>
    dsimp only
    split
    next zero =>
      have gone := view_enterRetired tenure_blind cur'
      refine leasesTied_iff.2 ⟨counted'.vacated (h := l.named) (fun j => ?_) gone, fun j d' n q => ?_⟩
      · rw [counted'.leaseNames_of_zero cur' zero]
        exact State.lease_congr (State.enterRetired_leases _ _) j
      · rw [State.tenure, gone j] at q
        split at q
        · cases q
        next other =>
          have q := (tenure j).symm.trans q
          rw [if_neg other] at q
          exact held j d' n q
    next left => exact stays fun _ _ => by rw [count] at left; exact left

/-- Collected notices leave every record where it was (R35, R186). -/
theorem current_collected {i : SlotNo} {flags : NoticeSet} (legal : SlotsLegal s)
    (own : noticed flags .drained = true → noticed (s.slot i).notices .drained = true) (k : Handle) :
    (s.putSlot i ((s.slot i).collected flags)).current k = s.current k := by
  unfold Slot.collected
  split
  next drained =>
    rw [current_putSlot_inactive (by simp)]
    split
    next q =>
      refine (Option.eq_none_iff_forall_ne_some.2 fun ⟨ph, r⟩ cur => ?_).symm
      have none := Slot.not_drained (legal.1 k.slot) (State.current_eq_some.1 cur).2.2.2
      rw [q, own drained] at none
      cases none
    · rfl
  · unfold State.current
    by_cases q : i = k.slot
    · subst q; simp
    · simp [q]

theorem LeasesTied.tenureOp (legal : SlotsLegal s) (tied : LeasesTied s) (op : TenureOp s cmd t) : LeasesTied t := by
  cases op with
  | clockCreated slot =>
    obtain ⟨h0, free⟩ := freeSlot_eq_some slot
    exact tied.create legal h0 free rfl
  | @aliasCreated i h ph c slot cur drain =>
    have raised : LeasesTied (s.raiseAliasCount h) :=
      tied.of_tenure (view_raiseAliasCount tenure_blind h) (State.raiseAliasCount_leases s h)
    obtain ⟨h0, free⟩ := freeSlot_eq_some slot
    exact raised.create (legal.raiseAliasCount h) h0 (content_updClock_free h _ free) rfl
  | @enabled h r cur =>
    obtain ⟨counted, held⟩ := leasesTied_iff.1 tied
    have count : (r.enabled s.lt).leaseCount = r.leaseCount := by
      unfold Record.enabled
      cases r with
      | ofAlias a => rfl
      | ofClock c => dsimp only; split <;> rfl
    have tenure (k : Handle) : (s.withRecord h.slot .live (r.enabled s.lt) 0).tenure k =
        if k = h then some (.live, r.leaseCount) else s.tenure k := by
      rw [tenure_withRecord cur, count]
    refine leasesTied_iff.2 ⟨counted.changed rfl tenure ?_ fun l k e named => ⟨_, _, rfl, nofun⟩, held.changed tenure nofun⟩
    rintro ph n ⟨⟩
    exact counted.count h _ _ (tenure_of_current cur)
  | clockRetired mode cur alone notBusy => exact tied.retireRecord mode cur nofun
  | aliasRetired mode cur idle notBusy => exact tied.retireRecord mode cur fun a e => by cases e; exact idle
  | @drained i d r slot =>
    have h0 : i ≠ 0 := by
      rintro rfl
      simp [legal.2] at slot
    have cur := current_handleOf h0 (legal.gen_ne_zero i) slot
    have := tied.retiredRevoked (y := (s.slot (s.handleOf i).slot).retiredRevoked r.kind) cur rfl rfl ⟨_, rfl⟩
    rw [← revokeAll_enterRetired cur] at this
    exact this
  | @granted k l ph r free cur live => exact tied.granted free (live ▸ cur)
  | givenUp cmd held => exact tied.givenUp held
  | collected slot flags own =>
    refine tied.of_tenure ?_ rfl
    funext k
    unfold State.tenure State.view
    rw [current_collected legal own]

theorem leasesTied_tableProperty : TableProperty fun s => SlotsLegal s ∧ LeasesTied s where
  legal := And.left
  same h hs := ⟨hs.1.of_slots h.slots, hs.2.of_tenure (tenure_of_slots h.slots) h.leases⟩
  clock op hs := ⟨hs.1.clockOp op, hs.2.of_tenure (tenure_clockOp op).1 (tenure_clockOp op).2⟩
  list op hs := ⟨hs.1.listOp op, hs.2.of_tenure (view_listOp tenure_blind op) (leases_listOp op).1⟩
  tenure op hs := ⟨hs.1.tenureOp op, hs.2.tenureOp hs.1 op⟩
  cleared h := by
    refine ⟨h.slotsLegal, fun k ph r cur => ?_, fun k l e => ?_⟩
    · have := (State.current_eq_some.1 cur).2.2.2
      rw [(h.slot _).1] at this
      cases this
    · rw [h.lease k] at e
      cases e

end Sys2Proof.Machine
end

section
/-! SUPPORT. The Binding Map and the active sources (R65 to R70): what every stage does to them, and that both stay in
agreement. With the leases, this settles O59. -/

namespace Sys2Proof.Machine

variable {s t : State} {cmd : Instr}

/-! ## The source of a handle -/

/-- Of a CLOCK record: whether it is DRAINING, its active source and its reject run. -/
def sourceOf (x : Phase × Record) : Option (Bool × Option Role × Nat) :=
  match x.2 with
  | .ofClock c => some (x.1.isDraining, c.active, c.rejectRun)
  | .ofAlias _ => none

/-- The source of the CLOCK record a handle names. -/
abbrev State.source (s : State) : Handle → Option (Bool × Option Role × Nat) := s.view sourceOf

theorem source_blind : CountBlind sourceOf := ⟨fun _ _ _ _ => rfl, fun _ _ _ _ => rfl⟩

theorem source_of_current {h : Handle} {ph : Phase} {c : ClockRecord} (cur : s.current h = some (ph, .ofClock c)) :
    s.source h = some (ph.isDraining, c.active, c.rejectRun) := view_of_current cur

theorem source_eq_some {h : Handle} {d : Bool} {a : Option Role} {n : Nat} (e : s.source h = some (d, a, n)) :
    ∃ ph c, s.current h = some (ph, .ofClock c) ∧ ph.isDraining = d ∧ c.active = a ∧ c.rejectRun = n := by
  obtain ⟨⟨ph, r⟩, cur, q⟩ := Option.bind_eq_some_iff.1 e
  cases r with
  | ofAlias => cases q
  | ofClock c => cases q; exact ⟨ph, c, cur, rfl, rfl, rfl⟩

theorem source_of_slots (e : t.slots = s.slots) : t.source = s.source := view_of_slots e

theorem source_withRecord {h : Handle} {x : Phase × Record} (cur : s.current h = some x) (ph : Phase) (c : ClockRecord)
    (f : NoticeSet) (k : Handle) : (s.withRecord h.slot ph (.ofClock c) f).source k =
      if k = h then some (ph.isDraining, c.active, c.rejectRun) else s.source k :=
  view_withRecord cur ph (.ofClock c) f k

/-! ## Bindings and sources in agreement -/

/-- What R67 and R70 ask of a source, given the bound roles. -/
structure SourceTied (roles : Role → Bool) (d : Bool) (a : Option Role) (n : Nat) : Prop where
  bound : ∀ r, a = some r → roles r = true
  unbound : a = none → ∀ r, roles r = false
  fresh : a = none → d = false → n = 0

/-- No two entries of the Binding Map have one key, or one clock and role (R65). -/
def KeysApart (l : List Binding) : Prop :=
  l.Pairwise (fun a b => ¬(a.input = b.input ∧ a.tag = b.tag)) ∧ l.Pairwise fun a b => ¬(a.clock = b.clock ∧ a.role = b.role)

theorem bindingsTied_iff : BindingsTied s ↔ s.bindings.length ≤ Config.bindingCapacity ∧ KeysApart s.bindings ∧
    (∀ b ∈ s.bindings, ∃ a n, s.source b.clock = some (false, a, n)) ∧
    ∀ h d a n, s.source h = some (d, a, n) → SourceTied (s.roleBound h) d a n := by
  constructor
  · rintro ⟨room, keys, roles, clocks, sources⟩
    refine ⟨room, ⟨keys, roles⟩, fun b mem => ?_, fun h d a n e => ?_⟩
    · obtain ⟨ph, c, cur, drain⟩ := clocks b mem
      exact ⟨c.active, c.rejectRun, by rw [source_of_current cur, drain]⟩
    · obtain ⟨ph, c, cur, rfl, rfl, rfl⟩ := source_eq_some e
      obtain ⟨bound, unbound, fresh⟩ := sources h ph c cur
      exact ⟨bound, unbound, fresh⟩
  · rintro ⟨room, ⟨keys, roles⟩, clocks, sources⟩
    refine ⟨room, keys, roles, fun b mem => ?_, fun h ph c cur => ?_⟩
    · obtain ⟨a, n, e⟩ := clocks b mem
      obtain ⟨ph, c, cur, drain, -, -⟩ := source_eq_some e
      exact ⟨ph, c, cur, drain⟩
    · obtain ⟨bound, unbound, fresh⟩ := sources h _ _ _ (source_of_current cur)
      exact ⟨bound, unbound, fresh⟩

theorem roleBound_congr (e : t.bindings = s.bindings) : t.roleBound = s.roleBound := by
  funext h r
  simp only [State.roleBound, e]

theorem BindingsTied.of_source (tied : BindingsTied s) (source : t.source = s.source) (bindings : t.bindings = s.bindings) :
    BindingsTied t := by
  rw [bindingsTied_iff, bindings, source, roleBound_congr bindings]
  exact bindingsTied_iff.1 tied

/-- Bindings and sources agree where one source has changed, to what its bound roles allow. -/
theorem BindingsTied.changed {h : Handle} {d : Bool} {a a' : Option Role} {n n' : Nat} (tied : BindingsTied s)
    (before : s.source h = some (d, a, n)) (bindings : t.bindings = s.bindings)
    (source : ∀ k, t.source k = if k = h then some (d, a', n') else s.source k)
    (here : SourceTied (s.roleBound h) d a n → SourceTied (s.roleBound h) d a' n') : BindingsTied t := by
  obtain ⟨room, apart, clocks, sources⟩ := bindingsTied_iff.1 tied
  rw [bindingsTied_iff, bindings, roleBound_congr bindings]
  refine ⟨room, apart, fun b mem => ?_, fun k d' x m e => ?_⟩
  · obtain ⟨x, m, e⟩ := clocks b mem
    rw [source]
    split
    next q =>
      rw [q, before] at e
      cases e
      exact ⟨_, _, rfl⟩
    · exact ⟨x, m, e⟩
  · rw [source] at e
    split at e
    next q => cases e; rw [q]; exact here (sources h _ _ _ before)
    · exact sources k d' x m e

/-- No entry of the Binding Map names a handle that names no CLOCK, or a DRAINING one. -/
theorem BindingsTied.unnamed {h : Handle} (tied : BindingsTied s) (gone : ∀ a n, s.source h ≠ some (false, a, n)) :
    ∀ b ∈ s.bindings, b.clock ≠ h := by
  rintro b mem rfl
  obtain ⟨a, n, e⟩ := (bindingsTied_iff.1 tied).2.2.1 b mem
  exact gone a n e

/-- A CLOCK loses its bindings, and is DRAINING without an active source or no record any more (R30, R69). -/
theorem BindingsTied.vacated {h : Handle} {x : Option (Bool × Option Role × Nat)} (tied : BindingsTied s)
    (bindings : t.bindings = s.bindings.filter fun b => b.clock != h)
    (source : ∀ k, t.source k = if k = h then x else s.source k) (ended : ∀ d a n, x = some (d, a, n) → d = true ∧ a = none) :
    BindingsTied t := by
  obtain ⟨room, ⟨keys, roles⟩, clocks, sources⟩ := bindingsTied_iff.1 tied
  have bound (k : Handle) (r : Role) : t.roleBound k r = if k = h then false else s.roleBound k r := by
    unfold State.roleBound
    rw [bindings]
    split
    next q => subst q; simp +contextual
    next q =>
      rw [List.any_filter]
      congr 1
      funext b
      by_cases at_k : b.clock = k
      · simp [at_k, q]
      · simp [at_k]
  rw [bindingsTied_iff, bindings]
  refine ⟨(List.length_filter_le _ _).trans room, ⟨keys.filter _, roles.filter _⟩, fun b mem => ?_, fun k d a n e => ?_⟩
  · obtain ⟨mem, other⟩ := List.mem_filter.1 mem
    rw [source, if_neg (by simpa using other)]
    exact clocks b mem
  · rw [source] at e
    split at e
    next q =>
      obtain ⟨rfl, rfl⟩ := ended d a n e
      exact ⟨nofun, fun _ r => by rw [bound, if_pos q], nofun⟩
    next q =>
      obtain ⟨b, u, f⟩ := sources k d a n e
      have same : t.roleBound k = s.roleBound k := by
        funext r
        rw [bound, if_neg q]
      rw [same]
      exact ⟨b, u, f⟩

/-- A handle that no entry names may come to name a CLOCK without an active source, or nothing. -/
theorem BindingsTied.unbound_changed {h : Handle} {x : Option (Bool × Option Role × Nat)} (tied : BindingsTied s)
    (gone : ∀ a n, s.source h ≠ some (false, a, n)) (bindings : t.bindings = s.bindings)
    (source : ∀ k, t.source k = if k = h then x else s.source k)
    (fresh : ∀ d a n, x = some (d, a, n) → a = none ∧ n = 0) : BindingsTied t := by
  obtain ⟨room, apart, clocks, sources⟩ := bindingsTied_iff.1 tied
  have unnamed := tied.unnamed gone
  rw [bindingsTied_iff, bindings, roleBound_congr bindings]
  refine ⟨room, apart, fun b mem => ?_, fun k d a n e => ?_⟩
  · rw [source, if_neg (unnamed b mem)]
    exact clocks b mem
  · rw [source] at e
    split at e
    next q =>
      obtain ⟨rfl, rfl⟩ := fresh d a n e
      have none (r : Role) : s.roleBound k r = false := by
        unfold State.roleBound
        rw [List.any_eq_false]
        intro b mem
        simp [q, unnamed b mem]
      exact ⟨nofun, fun _ => none, fun _ _ => rfl⟩
    · exact sources k d a n e

/-! ## Changes of a CLOCK record -/

theorem SourceTied.kept {h : Handle} {c c' : ClockRecord} {d : Bool} (kept : SourceKept s h c c')
    (tied : SourceTied (s.roleBound h) d c.active c.rejectRun) : SourceTied (s.roleBound h) d c'.active c'.rejectRun := by
  obtain ⟨bound, unbound, fresh⟩ := tied
  refine ⟨fun r e => ?_, fun e r => ?_, fun e q => ?_⟩
  · obtain same | ⟨r', e', b⟩ := kept.active
    · exact bound r (same.symm.trans e)
    · cases e.symm.trans e'
      exact b
  · obtain same | ⟨r', e', b⟩ := kept.active
    · exact unbound (same.symm.trans e) r
    · cases e.symm.trans e'
  · obtain same | ⟨r', e', b⟩ := kept.active
    · exact kept.rejectRun e (fresh (same.symm.trans e) q)
    · cases e.symm.trans e'

/-- A new entry, under a free key and a free role, whose role becomes the source of a CLOCK without one (R66, R67). -/
theorem BindingsTied.bound {i : InputNo} {tag : StreamTag} {h : Handle} {role : Role} {ph : Phase} {c : ClockRecord}
    (tied : BindingsTied s) (cur : s.current h = some (ph, .ofClock c)) (drain : ph.isDraining = false)
    (key : s.binding i tag = none) (free : s.roleBound h role = false)
    (room : s.bindings.length < Config.bindingCapacity) :
    BindingsTied (({ s with bindings := { input := i, tag, clock := h, role } :: s.bindings }).updClock h fun c =>
      { c with active := c.active.or (some role) }) := by
  obtain ⟨-, ⟨keys, roles⟩, clocks, sources⟩ := bindingsTied_iff.1 tied
  have cur' : ({ s with bindings := { input := i, tag, clock := h, role } :: s.bindings } : State).current h =
      some (ph, .ofClock c) := cur
  have source_before := source_of_current cur
  rw [State.updClock_of_current _ cur']
  have source (k : Handle) := source_withRecord cur' ph { c with active := c.active.or (some role) } 0 k
  have bound (k : Handle) (r : Role) : State.roleBound (({ s with
      bindings := { input := i, tag, clock := h, role } :: s.bindings } : State).withRecord h.slot ph
        (.ofClock { c with active := c.active.or (some role) }) 0) k r = (h == k && role == r || s.roleBound k r) := rfl
  rw [bindingsTied_iff]
  refine ⟨room, ⟨List.pairwise_cons.2 ⟨fun b mem => ?_, keys⟩, List.pairwise_cons.2 ⟨fun b mem => ?_, roles⟩⟩, fun b mem => ?_,
    fun k d a n e => ?_⟩
  · rintro ⟨rfl, rfl⟩
    simpa using List.find?_eq_none.1 key b mem
  · rintro ⟨rfl, rfl⟩
    simpa using List.any_eq_false.1 free b mem
  · rw [source]
    obtain rfl | mem := List.mem_cons.1 mem
    · rw [if_pos rfl, drain]
      exact ⟨_, _, rfl⟩
    · split
      · rw [drain]
        exact ⟨_, _, rfl⟩
      · exact clocks b mem
  · rw [source] at e
    split at e
    next q =>
      subst q
      cases e
      obtain ⟨was, -, -⟩ := sources k _ _ _ source_before
      refine ⟨fun r active => ?_, fun none => ?_, fun none => ?_⟩
      · rw [bound]
        cases old : c.active with
        | none => rw [old] at active; cases active; simp
        | some r' => rw [old] at active; cases active; simp [was r old]
      all_goals cases old : c.active <;> simp [old] at none
    next other =>
      obtain ⟨b, u, f⟩ := sources k d a n e
      have same : State.roleBound _ k = s.roleBound k := funext fun r => by rw [bound]; simp [Ne.symm other]
      exact ⟨fun r q => by rw [same]; exact b r q, fun q r => by rw [same]; exact u q r, f⟩

/-- With an entry gone from a map without double keys, its role is unbound and every other as before. -/
theorem roleBound_erase {b : Binding} (apart : KeysApart s.bindings) (mem : b ∈ s.bindings) (h : Handle) (r : Role) :
    ({ s with bindings := s.bindings.erase b } : State).roleBound h r =
      if h = b.clock ∧ r = b.role then false else s.roleBound h r := by
  have split_off := List.perm_cons_erase mem
  have others := (List.pairwise_cons.1 ((split_off.pairwise_iff fun {x y} n q => n ⟨q.1.symm, q.2.symm⟩).1 apart.2)).1
  have whole : s.roleBound h r = (b.clock == h && b.role == r || (s.bindings.erase b).any fun x => x.clock == h && x.role == r) :=
    split_off.any_eq
  split
  next q =>
    obtain ⟨rfl, rfl⟩ := q
    refine List.any_eq_false.2 fun x m => ?_
    have := others x m
    simp only [Bool.and_eq_true, beq_iff_eq]
    exact fun e => this ⟨e.1.symm, e.2.symm⟩
  next q =>
    have off : (b.clock == h && b.role == r) = false := by
      rw [Bool.eq_false_iff]
      simp only [ne_eq, Bool.and_eq_true, beq_iff_eq]
      exact fun e => q ⟨e.1.symm, e.2.symm⟩
    rw [whole, off, Bool.false_or]
    rfl

theorem Role.eq_or_other (r b : Role) : r = b ∨ r = b.other := by cases r <;> cases b <;> simp [Role.other]

theorem Role.other_ne (b : Role) : b.other ≠ b := by cases b <;> simp [Role.other]

/-- An entry leaves the map, and its record's source is settled (R68). -/
theorem BindingsTied.unbound {b : Binding} (tied : BindingsTied s) (mem : b ∈ s.bindings) :
    BindingsTied (removeBinding b s) := by
  obtain ⟨room, apart, clocks, sources⟩ := bindingsTied_iff.1 tied
  have roles := roleBound_erase apart mem
  have own : s.roleBound b.clock b.role = true := List.any_eq_true.2 ⟨b, mem, by simp⟩
  have keys : KeysApart (s.bindings.erase b) :=
    ⟨apart.1.sublist List.erase_sublist, apart.2.sublist List.erase_sublist⟩
  have room' : (s.bindings.erase b).length ≤ Config.bindingCapacity := List.length_erase_le.trans room
  have other_roles {k : Handle} (q : k ≠ b.clock) :
      ({ s with bindings := s.bindings.erase b } : State).roleBound k = s.roleBound k :=
    funext fun r => by rw [roles, if_neg fun e => q e.1]
  obtain ⟨ph, c, cur, active, e⟩ | ⟨inactive, e⟩ := removeBinding_cases (s := s) b <;> rw [e]
  · have cur' : ({ s with bindings := s.bindings.erase b } : State).current b.clock = some (ph, .ofClock c) := cur
    have source (k : Handle) := source_withRecord cur' ph
      { c with active := settledSource { s with bindings := s.bindings.erase b } b.clock b.role, rejectRun := 0 }
      (flagWhen (settledSource { s with bindings := s.bindings.erase b } b.clock b.role).isSome .sourceSwitch) k
    rw [bindingsTied_iff]
    refine ⟨room', keys, fun x m => ?_, fun k d a n q => ?_⟩
    · obtain ⟨a, n, q⟩ := clocks x (List.mem_of_mem_erase m)
      rw [source]
      split
      next here =>
        rw [here, source_of_current cur] at q
        simp only [Option.some.injEq, Prod.mk.injEq] at q
        rw [q.1]
        exact ⟨_, _, rfl⟩
      · exact ⟨a, n, q⟩
    · rw [source] at q
      split at q
      next here =>
        cases q
        have settled (r : Role) : ({ s with bindings := s.bindings.erase b } : State).roleBound k r =
            (r == b.role.other && s.roleBound b.clock b.role.other) := by
          rw [here, roles]
          obtain rfl | rfl := Role.eq_or_other r b.role
          · simp [Ne.symm (Role.other_ne b.role)]
          · simp [Role.other_ne]
        have value : settledSource { s with bindings := s.bindings.erase b } b.clock b.role =
            if s.roleBound b.clock b.role.other then some b.role.other else none := by
          unfold settledSource
          rw [← here, settled, here]
          simp
        change SourceTied (State.roleBound { s with bindings := s.bindings.erase b } k) _ _ _
        rw [value]
        split
        next left => exact ⟨by rintro r ⟨⟩; rw [settled, left, beq_self_eq_true, Bool.and_true], nofun, nofun⟩
        next left =>
          exact ⟨nofun, fun _ r => by rw [settled, Bool.eq_false_iff.2 left, Bool.and_false], fun _ _ => rfl⟩
      next other =>
        obtain ⟨u, v, w⟩ := sources k d a n q
        have same : State.roleBound _ k = s.roleBound k := other_roles other
        exact ⟨fun r q => by rw [← same] at u; exact u r q, fun q r => by rw [← same] at v; exact v q r, w⟩
  · rw [bindingsTied_iff]
    refine ⟨room', keys, fun x m => clocks x (List.mem_of_mem_erase m), fun k d a n q => ?_⟩
    obtain ⟨u, v, w⟩ := sources k d a n q
    by_cases here : k = b.clock
    · subst here
      obtain ⟨ph, c, cur, -, source, -⟩ := source_eq_some q
      refine ⟨fun r active => ?_, fun none => ?_, w⟩
      · rw [roles, if_neg]
        · exact u r active
        · rintro ⟨-, rfl⟩
          exact inactive ph c cur (source.trans active)
      · rw [v none] at own
        cases own
    · rw [other_roles here]
      exact ⟨u, v, w⟩

/-! ## Every stage -/

theorem BindingsTied.clockOp (tied : BindingsTied s) (op : ClockOp s t) : BindingsTied t := by
  cases op with
  | @record h ph c c' f cur legal counts kept lock flags =>
    exact tied.changed (source_of_current cur) rfl (source_withRecord cur ph c' f) (SourceTied.kept kept)
  | @recordEnding h ph c c' f x cur legal counts kept flags =>
    rw [endWakes_eq x (State.current_withRecord_self cur ph (.ofClock c') f), State.withRecord_withRecord]
    refine BindingsTied.of_source (s := s.withRecord h.slot ph (.ofClock { c' with wakeCount := 0, updatePending := false }) (f ||| 0))
      ?_ (source_of_slots (State.slots_append _)) rfl
    exact tied.changed (source_of_current cur) rfl
      (source_withRecord cur ph { c' with wakeCount := 0, updatePending := false } (f ||| 0))
      (SourceTied.kept ⟨kept.active, kept.rejectRun⟩)
  | bound cur drain key free room => exact tied.bound cur drain key free room
  | unbound mem => exact tied.unbound mem

theorem bindings_detachedFrom (h : Handle) (ph : Phase) (r : Record) : (s.detachedFrom h ph r).bindings =
    match r with
    | .ofClock _ => if ph.isDraining then s.bindings else s.bindings.filter fun b => b.clock != h
    | .ofAlias _ => s.bindings := by
  unfold State.detachedFrom
  cases r with
  | ofClock c => dsimp only; split <;> rfl
  | ofAlias a => rfl

/-- A current handle names a DRAINING CLOCK, or one of another kind, where no entry may name it. -/
theorem source_not_bindable {h : Handle} {ph : Phase} {r : Record} (cur : s.current h = some (ph, r))
    (ended : ph.isDraining = true ∨ ∃ a, r = .ofAlias a) (a : Option Role) (n : Nat) : s.source h ≠ some (false, a, n) := by
  intro e
  obtain ⟨ph', c, cur', drain, -⟩ := source_eq_some e
  rw [cur] at cur'
  cases cur'
  obtain q | ⟨a, q⟩ := ended
  · rw [drain] at q; cases q
  · cases q

/-- A retirement ends what its record had bound (R30, R69). -/
theorem BindingsTied.retired {h : Handle} {ph : Phase} {r : Record} {x : Option (Bool × Option Role × Nat)}
    (tied : BindingsTied s) (cur : s.current h = some (ph, r)) (bindings : t.bindings = (s.detachedFrom h ph r).bindings)
    (source : ∀ k, t.source k = if k = h then x else s.source k) (ended : ∀ d a n, x = some (d, a, n) → d = true ∧ a = none) :
    BindingsTied t := by
  refine tied.vacated ?_ source ended
  rw [bindings, bindings_detachedFrom]
  have unnamed (e : ph.isDraining = true ∨ ∃ a, r = .ofAlias a) : s.bindings = s.bindings.filter fun b => b.clock != h :=
    (List.filter_eq_self.2 fun b mem => by simpa using tied.unnamed (source_not_bindable cur e) b mem).symm
  cases r with
  | ofAlias a => exact unnamed (.inr ⟨a, rfl⟩)
  | ofClock c =>
    dsimp only
    split
    next drains => exact unnamed (.inl drains)
    · rfl

@[simp] theorem bindings_lowerTarget (r : Record) : (s.lowerTarget r).bindings = s.bindings := by
  cases r with
  | ofClock c => rfl
  | ofAlias a => exact State.lowerAliasCount_bindings s a.target

@[simp] theorem bindings_revoked (h : Handle) : (s.revoked h).bindings = s.bindings := by
  unfold State.revoked State.append State.freeLeases
  rfl

theorem BindingsTied.retireRecord {h : Handle} {ph : Phase} {r : Record} (mode : RetireMode) (tied : BindingsTied s)
    (cur : s.current h = some (ph, r)) (notBusy : ¬(ph.isDraining = true ∧ mode = .normal))
    (idle : ∀ a, r = .ofAlias a → ph.isDraining = false → s.pendingEntry a = none) :
    BindingsTied (retireRecord h ph r mode s).1 := by
  have slots := State.slots_detachedFrom (s := s) h ph r
  have cur' := (current_of_slots slots h).trans cur
  have slots' := (State.slots_revoked (s := s.detachedFrom h ph r) h).trans slots
  rw [retireRecord_closed cur idle]
  dsimp only
  split
  · refine tied.retired (x := none) cur (bindings_lowerTarget r) (fun k => ?_) nofun
    exact (view_entersRetired source_blind cur' ⟨_, rfl⟩ k).trans (by rw [view_of_slots slots])
  split
  · refine tied.retired (x := none) cur ((bindings_lowerTarget r).trans (bindings_revoked h)) (fun k => ?_) nofun
    exact (view_entersRetired source_blind ((current_of_slots slots' h).trans cur) ⟨_, rfl⟩ k).trans
      (by rw [view_of_slots slots'])
  next leased normal =>
    have normal : mode = .normal := by cases mode <;> simp at normal ⊢
    have live : ph.isDraining = false := Bool.eq_false_iff.2 fun q => notBusy ⟨q, normal⟩
    rw [live]
    refine tied.retired (x := sourceOf (.draining (addTicks s.lt (msTicks r.drainMs)), r.detached)) cur rfl (fun k => ?_)
      fun d a n e => ?_
    · exact (view_withRecord cur' _ r.detached 0 k).trans (by rw [view_of_slots slots])
    · cases r with
      | ofClock c => cases e; exact ⟨rfl, rfl⟩
      | ofAlias a => cases e

theorem BindingsTied.create {i : SlotNo} {r : Record} (legal : SlotsLegal s) (tied : BindingsTied s) (h0 : i ≠ 0)
    (free : (s.slot i).content = .free) (fresh : ∀ d a n, sourceOf (.reserved, r) = some (d, a, n) → a = none ∧ n = 0) :
    BindingsTied (s.create i r) := by
  have stale (a : Option Role) (n : Nat) : s.source (s.handleOf i) ≠ some (false, a, n) := by
    unfold State.source State.view
    rw [current_handleOf_free free]
    nofun
  exact tied.unbound_changed stale rfl (view_create h0 free (legal.gen_ne_zero i)) fresh

theorem source_updLeaseCount (h : Handle) (g : Nat → Nat) :
    (s.updRecord h (Record.updLeaseCount g)).source = s.source := by
  obtain ⟨ph, r, cur, e⟩ | ⟨-, e⟩ := updRecord_cases (s := s) h (Record.updLeaseCount g) <;> rw [e]
  exact view_withRecord_same cur (by cases r <;> rfl) 0

theorem BindingsTied.givenUp {k : LeaseNo} {l : Lease} (tied : BindingsTied s) : BindingsTied (s.giveUpLease k l) := by
  have lowered : BindingsTied ((s.putLease k none).updRecord l.named (Record.updLeaseCount (· - 1))) :=
    tied.of_source ((source_updLeaseCount _ _).trans (source_of_slots rfl)) (by simp)
  unfold State.giveUpLease
  dsimp only
  split
  next d r cur =>
    split
    · exact lowered.unbound_changed (x := none) (source_not_bindable cur (.inl rfl)) (State.enterRetired_bindings _ _)
        (view_enterRetired source_blind cur) nofun
    · exact lowered
  all_goals exact lowered

theorem BindingsTied.tenureOp (legal : SlotsLegal s) (tied : BindingsTied s) (op : TenureOp s cmd t) : BindingsTied t := by
  cases op with
  | clockCreated slot =>
    obtain ⟨h0, free⟩ := freeSlot_eq_some slot
    exact tied.create legal h0 free (by rintro d a n ⟨⟩; exact ⟨rfl, rfl⟩)
  | @aliasCreated i h ph c slot cur drain =>
    have raised : BindingsTied (s.raiseAliasCount h) :=
      tied.of_source (view_raiseAliasCount source_blind h) (State.raiseAliasCount_bindings s h)
    obtain ⟨h0, free⟩ := freeSlot_eq_some slot
    exact raised.create (legal.raiseAliasCount h) h0 (content_updClock_free h _ free) nofun
  | @enabled h r cur =>
    refine tied.of_source (view_withRecord_same cur ?_ 0) rfl
    unfold Record.enabled
    cases r with
    | ofAlias a => rfl
    | ofClock c => dsimp only; split <;> rfl
  | clockRetired mode cur alone notBusy => exact tied.retireRecord mode cur notBusy nofun
  | aliasRetired mode cur idle notBusy =>
    exact tied.retireRecord mode cur notBusy fun a e => by cases e; exact idle
  | @drained i d r slot =>
    have h0 : i ≠ 0 := by
      rintro rfl
      simp [legal.2] at slot
    have cur := current_handleOf h0 (legal.gen_ne_zero i) slot
    have slots := State.slots_revoked (s := s) (s.handleOf i)
    have ended := view_entersRetired source_blind ((current_of_slots slots _).trans cur)
      (y := (s.slot i).retiredRevoked r.kind) ⟨_, rfl⟩
    have closed := revokeAll_enterRetired cur
    change (s.revokeAll (s.handleOf i)).enterRetired i = _ at closed
    rw [closed]
    refine tied.unbound_changed (x := none) (source_not_bindable cur (.inl rfl)) ((bindings_lowerTarget r).trans (bindings_revoked _))
      (fun k => (ended k).trans (by rw [view_of_slots slots])) nofun
  | @granted k l ph r free cur live =>
    exact tied.of_source ((source_updLeaseCount _ _).trans (source_of_slots rfl)) (by simp)
  | givenUp cmd held => exact tied.givenUp
  | collected slot flags own =>
    refine tied.of_source ?_ rfl
    funext k
    unfold State.source State.view
    rw [current_collected legal own]

theorem bindingsTied_tableProperty : TableProperty fun s => SlotsLegal s ∧ BindingsTied s where
  legal := And.left
  same h hs := ⟨hs.1.of_slots h.slots, hs.2.of_source (source_of_slots h.slots) h.bindings⟩
  clock op hs := ⟨hs.1.clockOp op, hs.2.clockOp op⟩
  list op hs := ⟨hs.1.listOp op, hs.2.of_source (view_listOp source_blind op) (leases_listOp op).2⟩
  tenure op hs := ⟨hs.1.tenureOp op, hs.2.tenureOp hs.1 op⟩
  cleared h := by
    refine ⟨h.slotsLegal, bindingsTied_iff.2 ?_⟩
    rw [h.bindings]
    refine ⟨Nat.zero_le _, ⟨.nil, .nil⟩, nofun, fun k d a n e => ?_⟩
    obtain ⟨ph, c, cur, -⟩ := source_eq_some e
    have := (State.current_eq_some.1 cur).2.2.2
    rw [(h.slot _).1] at this
    cases this

/-- Settles O59: leases and lease counts, bindings and sources, each a property of the tables that every stage keeps. -/
theorem leasesAndBindingsStayTied : Obligations.LeasesAndBindingsStayTied :=
  ⟨fun _ _ legal tied e => (leasesTied_tableProperty.step e ⟨legal, tied⟩).2,
    fun _ _ legal tied e => (bindingsTied_tableProperty.step e ⟨legal, tied⟩).2⟩

end Sys2Proof.Machine
end

section
/-! SUPPORT. The Deadline List and what refers to it, handle by handle (R19, R20, R22, R137): of a CLOCK, the wakes bound to it
and the ALIAS records and splices that lead to it, each against its count; of an ALIAS, the splices that name it, against the one
it has pending. -/

namespace Sys2Proof.Machine

variable {s t : State} {cmd : Instr}

/-! ## The links of a handle -/

/-- Of a CLOCK: whether a wake may be bound to it (R137), and its wake count. -/
def wakeLinkOf (x : Phase × Record) : Option (Bool × Nat) :=
  match x.2 with
  | .ofClock c => some (x.1 == .live && !c.lock.timeless, c.wakeCount)
  | .ofAlias _ => none

/-- Of a CLOCK: whether an ALIAS or a splice may lead to it (R20, R30), and its ALIAS count. -/
def aliasLinkOf (x : Phase × Record) : Option (Bool × Nat) :=
  match x.2 with
  | .ofClock c => some (!x.1.isDraining, c.aliasCount)
  | .ofAlias _ => none

/-- Of an ALIAS: whether it is not DRAINING, and the place of its pending splice (R19). -/
def spliceLinkOf (x : Phase × Record) : Option (Bool × Option Nat) :=
  match x.2 with
  | .ofAlias a => some (!x.1.isDraining, a.pendingSplice)
  | .ofClock _ => none

def State.wakeLink (s : State) : Handle → Option (Bool × Nat) := s.view wakeLinkOf
def State.aliasLink (s : State) : Handle → Option (Bool × Nat) := s.view aliasLinkOf
def State.spliceLink (s : State) : Handle → Option (Bool × Option Nat) := s.view spliceLinkOf

/-- The entry is a SPLICE of the ALIAS (R144). -/
def DeadlineEntry.isSpliceOf (h : Handle) (e : DeadlineEntry) : Bool :=
  match e.work with
  | .splice _ k _ => k == h
  | .wake .. => false

/-- The places in arming order of the SPLICE entries of an ALIAS. -/
def splicePlaces (l : List DeadlineEntry) (h : Handle) : List Nat := (l.filter (DeadlineEntry.isSpliceOf h)).map (·.order)

/-- A count agrees with what it counts: the record holds it, and there is nothing to count where nothing may lead. -/
def CountAgrees (v : Option (Bool × Nat)) (n : Nat) : Prop :=
  match v with
  | some (admits, m) => m = n ∧ (admits = false → n = 0)
  | none => n = 0

/-- A pending splice agrees with the splices that name the ALIAS: it is the only one, and a DRAINING ALIAS has none. -/
def SpliceAgrees (v : Option (Bool × Option Nat)) (l : List Nat) : Prop :=
  match v with
  | some (admits, some o) => admits = true ∧ l = [o]
  | some (_, none) | none => l = []

/-- The Deadline List has room, and its entries their own places in arming order, all before the next (R136, R137). -/
structure ListSound (s : State) : Prop where
  room : s.deadlines.length ≤ Config.deadlineCapacity
  apart : s.deadlines.Pairwise fun a b => a.order ≠ b.order
  early : ∀ e ∈ s.deadlines, e.order < s.nextOrder

/-- The wakes bound to each handle are its wake count (R22, R137). -/
def WakesAgree (s : State) : Prop := ∀ h, CountAgrees (s.wakeLink h) (s.deadlines.countP (DeadlineEntry.isWakeOf h))

/-- The ALIAS records and the splices that lead to each handle are its ALIAS count (R20). -/
def AliasesAgree (s : State) : Prop :=
  ∀ h, CountAgrees (s.aliasLink h) (s.aliasesOf h + s.deadlines.countP (DeadlineEntry.isSpliceTo h))

/-- The splices of each handle are the one it has pending (R19). -/
def SplicesAgree (s : State) : Prop := ∀ h, SpliceAgrees (s.spliceLink h) (splicePlaces s.deadlines h)

/-- The Deadline List, and its counts and references handle by handle. -/
structure Linked (s : State) : Prop where
  list : ListSound s
  wakes : WakesAgree s
  aliases : AliasesAgree s
  splices : SplicesAgree s

/-! ## Agreement -/

theorem CountAgrees.admits {v : Option (Bool × Nat)} {n : Nat} (h : CountAgrees v n) (pos : 0 < n) : v = some (true, n) := by
  unfold CountAgrees at h
  match v with
  | none => simp only at h; omega
  | some (true, m) => simp only at h; rw [h.1]
  | some (false, m) => have := h.2 rfl; omega

theorem CountAgrees.moved {v : Option (Bool × Nat)} {n n' x y : Nat} (h : CountAgrees v n) (e : n' + y = n + x)
    (ok : x = 0 ∨ ∃ m, v = some (true, m)) : CountAgrees (v.map fun p => (p.1, p.2 + x - y)) n' := by
  unfold CountAgrees at *
  match v with
  | none =>
    simp only [Option.map_none] at *
    obtain rfl | ⟨m, q⟩ := ok
    · omega
    · cases q
  | some (a, m) =>
    obtain ⟨rfl, none⟩ := h
    refine ⟨by dsimp only; omega, fun q => ?_⟩
    obtain rfl | ⟨m, q'⟩ := ok
    · have := none q
      omega
    · cases q'; cases q

theorem SpliceAgrees.nil_of_idle {l : List Nat} {v : Option (Bool × Option Nat)} (h : SpliceAgrees v l)
    (idle : ∀ o, v ≠ some (true, some o)) : l = [] := by
  unfold SpliceAgrees at h
  match v with
  | none => exact h
  | some (_, none) => exact h
  | some (false, some o) => cases h.1
  | some (true, some o) => exact absurd rfl (idle o)

theorem SpliceAgrees.some_of_mem {l : List Nat} {v : Option (Bool × Option Nat)} {o : Nat} (h : SpliceAgrees v l)
    (mem : o ∈ l) : v = some (true, some o) ∧ l = [o] := by
  unfold SpliceAgrees at h
  match v with
  | none => simp_all
  | some (_, none) => simp_all
  | some (a, some p) =>
    obtain ⟨rfl, rfl⟩ := h
    simp_all

/-! ## Links and the records -/

theorem wakeLink_of_current {h : Handle} {ph : Phase} {c : ClockRecord} (cur : s.current h = some (ph, .ofClock c)) :
    s.wakeLink h = some (ph == .live && !c.lock.timeless, c.wakeCount) := view_of_current cur

theorem aliasLink_of_current {h : Handle} {ph : Phase} {c : ClockRecord} (cur : s.current h = some (ph, .ofClock c)) :
    s.aliasLink h = some (!ph.isDraining, c.aliasCount) := view_of_current cur

theorem spliceLink_of_current {h : Handle} {ph : Phase} {a : AliasRecord} (cur : s.current h = some (ph, .ofAlias a)) :
    s.spliceLink h = some (!ph.isDraining, a.pendingSplice) := view_of_current cur

theorem wakeLink_eq_some {h : Handle} {b : Bool} {n : Nat} (e : s.wakeLink h = some (b, n)) :
    ∃ ph c, s.current h = some (ph, .ofClock c) ∧ (ph == .live && !c.lock.timeless) = b ∧ c.wakeCount = n := by
  obtain ⟨⟨ph, r⟩, cur, q⟩ := Option.bind_eq_some_iff.1 e
  cases r with
  | ofAlias => cases q
  | ofClock c => cases q; exact ⟨ph, c, cur, rfl, rfl⟩

theorem aliasLink_eq_some {h : Handle} {b : Bool} {n : Nat} (e : s.aliasLink h = some (b, n)) :
    ∃ ph c, s.current h = some (ph, .ofClock c) ∧ (!ph.isDraining) = b ∧ c.aliasCount = n := by
  obtain ⟨⟨ph, r⟩, cur, q⟩ := Option.bind_eq_some_iff.1 e
  cases r with
  | ofAlias => cases q
  | ofClock c => cases q; exact ⟨ph, c, cur, rfl, rfl⟩

theorem spliceLink_eq_some {h : Handle} {b : Bool} {p : Option Nat} (e : s.spliceLink h = some (b, p)) :
    ∃ ph a, s.current h = some (ph, .ofAlias a) ∧ (!ph.isDraining) = b ∧ a.pendingSplice = p := by
  obtain ⟨⟨ph, r⟩, cur, q⟩ := Option.bind_eq_some_iff.1 e
  cases r with
  | ofClock => cases q
  | ofAlias a => cases q; exact ⟨ph, a, cur, rfl, rfl⟩

theorem aliasesOf_eq_countP (h : Handle) : s.aliasesOf h = (List.finRange 256).countP fun i => (s.slot i).targets h := by
  have : s.slots.toList = (List.finRange 256).map s.slot := by
    apply List.ext_getElem <;> simp [State.slot]
  rw [aliasesOf_eq, this, List.countP_map]
  rfl

/-- A current ALIAS is one of the ALIAS records of its target (R20). -/
theorem aliasesOf_pos {h : Handle} {ph : Phase} {a : AliasRecord} (cur : s.current h = some (ph, .ofAlias a)) :
    0 < s.aliasesOf a.target := by
  rw [aliasesOf_eq_countP, List.countP_pos_iff]
  exact ⟨h.slot, List.mem_finRange _, by simp [Slot.targets, (State.current_eq_some.1 cur).2.2.2]⟩

/-- Every ALIAS record of a clock is named by a current handle (R14, R20). -/
theorem exists_alias {h : Handle} (legal : SlotsLegal s) (pos : 0 < s.aliasesOf h) :
    ∃ k ph a, s.current k = some (ph, .ofAlias a) ∧ a.target = h := by
  rw [aliasesOf_eq_countP, List.countP_pos_iff] at pos
  obtain ⟨i, -, names⟩ := pos
  unfold Slot.targets at names
  split at names
  next ph a content =>
    have h0 : i ≠ 0 := by
      rintro rfl
      simp [legal.2] at content
    exact ⟨s.handleOf i, ph, a, current_handleOf h0 (legal.gen_ne_zero i) content, by simpa using names⟩
  all_goals cases names

theorem isWakeOf_of_work {e : DeadlineEntry} {n : PortNo} {tag : Byte} {named b : Handle} {p : RefValue}
    (work : e.work = .wake n tag named b p) (h : Handle) : e.isWakeOf h = (b == h) := by
  simp [DeadlineEntry.isWakeOf, work]

theorem isSpliceTo_of_work {e : DeadlineEntry} {o : Origin} {k n : Handle} (work : e.work = .splice o k n) (h : Handle) :
    e.isSpliceTo h = (n == h) := by
  simp [DeadlineEntry.isSpliceTo, work]

theorem isSpliceOf_of_work {e : DeadlineEntry} {o : Origin} {k n : Handle} (work : e.work = .splice o k n) (h : Handle) :
    e.isSpliceOf h = (k == h) := by
  simp [DeadlineEntry.isSpliceOf, work]

theorem mem_splicePlaces {l : List DeadlineEntry} {h : Handle} {p : Nat} :
    p ∈ splicePlaces l h ↔ ∃ e ∈ l, e.order = p ∧ ∃ o n, e.work = .splice o h n := by
  unfold splicePlaces
  simp only [List.mem_map, List.mem_filter]
  constructor
  · rintro ⟨e, ⟨mem, names⟩, rfl⟩
    refine ⟨e, mem, rfl, ?_⟩
    unfold DeadlineEntry.isSpliceOf at names
    split at names
    next o k n work => exact ⟨o, n, by rw [work, eq_of_beq names]⟩
    · cases names
  · rintro ⟨e, mem, rfl, o, n, work⟩
    exact ⟨e, ⟨mem, by simp [isSpliceOf_of_work work]⟩, rfl⟩

theorem DeadlinesTied.wakes_agree (tied : DeadlinesTied s) : WakesAgree s := by
  intro h
  obtain ⟨-, -, entries, clocks, -⟩ := tied
  have bound (pos : 0 < s.deadlines.countP (DeadlineEntry.isWakeOf h)) :
      ∃ c, s.current h = some (.live, .ofClock c) ∧ c.lock.timeless = false := by
    obtain ⟨e, mem, names⟩ := List.countP_pos_iff.1 pos
    obtain ⟨n, tag, named, p, work⟩ := isWakeOf_iff.1 names
    have := (entries e mem).2
    unfold DeadlineEntry.tied at this
    rw [work] at this
    exact this
  cases v : s.wakeLink h with
  | none =>
    by_contra pos
    obtain ⟨c, cur, -⟩ := bound (Nat.pos_of_ne_zero pos)
    rw [wakeLink_of_current cur] at v
    cases v
  | some x =>
    obtain ⟨ph, c, cur, ready, count⟩ := wakeLink_eq_some v
    refine ⟨count ▸ (clocks h ph c cur).1.2, fun unready => ?_⟩
    by_contra pos
    obtain ⟨c', cur', lock⟩ := bound (Nat.pos_of_ne_zero pos)
    rw [cur] at cur'
    cases cur'
    rw [unready, lock] at ready
    cases ready

theorem DeadlinesTied.aliases_agree (legal : SlotsLegal s) (tied : DeadlinesTied s) : AliasesAgree s := by
  intro h
  obtain ⟨-, -, entries, clocks, followers⟩ := tied
  have led (pos : 0 < s.aliasesOf h + s.deadlines.countP (DeadlineEntry.isSpliceTo h)) :
      ∃ ph c, s.current h = some (ph, .ofClock c) ∧ ph.isDraining = false := by
    rcases Nat.eq_zero_or_pos (s.aliasesOf h) with zero | pos'
    · obtain ⟨e, mem, names⟩ := List.countP_pos_iff.1 (show 0 < s.deadlines.countP (DeadlineEntry.isSpliceTo h) by omega)
      have := (entries e mem).2
      unfold DeadlineEntry.tied at this
      unfold DeadlineEntry.isSpliceTo at names
      split at names
      next o k n work =>
        rw [work, eq_of_beq names] at this
        exact this.2
      · cases names
    · obtain ⟨k, ph, a, cur, rfl⟩ := exists_alias legal pos'
      exact (followers k ph a cur).1
  cases v : s.aliasLink h with
  | none =>
    by_contra pos
    obtain ⟨ph, c, cur, -⟩ := led (Nat.pos_of_ne_zero pos)
    rw [aliasLink_of_current cur] at v
    cases v
  | some x =>
    obtain ⟨ph, c, cur, admits, count⟩ := aliasLink_eq_some v
    obtain ⟨⟨counted, -⟩, alone⟩ := clocks h ph c cur
    refine ⟨count ▸ counted, fun drains => ?_⟩
    rw [← counted]
    exact alone (by simpa [drains] using admits)

theorem DeadlinesTied.splices_agree (tied : DeadlinesTied s) : SplicesAgree s := by
  intro h
  obtain ⟨-, apart, entries, -, followers⟩ := tied
  have pending {p : Nat} (mem : p ∈ splicePlaces s.deadlines h) : s.spliceLink h = some (true, some p) := by
    obtain ⟨e, listed, rfl, o, n, work⟩ := mem_splicePlaces.1 mem
    have := (entries e listed).2
    unfold DeadlineEntry.tied at this
    rw [work] at this
    obtain ⟨⟨ph, a, cur, live, pending⟩, -⟩ := this
    rw [spliceLink_of_current cur, live, pending]
    rfl
  have distinct : (splicePlaces s.deadlines h).Nodup := List.pairwise_map.2 (apart.filter _)
  match v : s.spliceLink h with
  | none => exact List.eq_nil_iff_forall_not_mem.2 fun p mem => by rw [pending mem] at v; cases v
  | some (_, none) => exact List.eq_nil_iff_forall_not_mem.2 fun p mem => by rw [pending mem] at v; cases v
  | some (admits, some p) =>
    obtain ⟨ph, a, cur, q, place⟩ := spliceLink_eq_some v
    obtain ⟨live, found⟩ := (followers h ph a cur).2 p place
    have all {p' : Nat} (m : p' ∈ splicePlaces s.deadlines h) : p' = p := by
      cases (pending m).symm.trans v
      rfl
    refine ⟨by rw [← q, live]; rfl, ?_⟩
    exact List.perm_singleton.1 ((List.perm_ext_iff_of_nodup distinct (List.nodup_singleton p)).2 fun p' =>
      ⟨fun m => List.mem_singleton.2 (all m), fun m => List.mem_singleton.1 m ▸ mem_splicePlaces.2 found⟩)

theorem DeadlinesTied.linked (legal : SlotsLegal s) (tied : DeadlinesTied s) : Linked s where
  list := ⟨tied.1, tied.2.1, fun e mem => (tied.2.2.1 e mem).1⟩
  wakes := tied.wakes_agree
  aliases := tied.aliases_agree legal
  splices := tied.splices_agree

theorem Linked.deadlinesTied (linked : Linked s) : DeadlinesTied s := by
  obtain ⟨⟨room, apart, early⟩, wakes, aliases, splices⟩ := linked
  have standing {h : Handle} (pos : 0 < s.aliasesOf h + s.deadlines.countP (DeadlineEntry.isSpliceTo h)) :
      ∃ ph c, s.current h = some (ph, .ofClock c) ∧ ph.isDraining = false := by
    obtain ⟨ph, c, cur, admits, -⟩ := aliasLink_eq_some ((aliases h).admits pos)
    exact ⟨ph, c, cur, by simpa using admits⟩
  refine ⟨room, apart, fun e mem => ⟨early e mem, ?_⟩, fun h ph c cur => ?_, fun h ph a cur => ⟨?_, fun p pending => ?_⟩⟩
  · unfold DeadlineEntry.tied
    cases work : e.work with
    | wake n tag named b p =>
      have pos : 0 < s.deadlines.countP (DeadlineEntry.isWakeOf b) :=
        List.countP_pos_iff.2 ⟨e, mem, by simp [isWakeOf_of_work work]⟩
      obtain ⟨ph, c, cur, ready, -⟩ := wakeLink_eq_some ((wakes b).admits pos)
      simp only [Bool.and_eq_true, beq_iff_eq, Bool.not_eq_true'] at ready
      exact ⟨c, by rw [cur, ready.1], ready.2⟩
    | splice o h n =>
      have pos : 0 < s.deadlines.countP (DeadlineEntry.isSpliceTo n) :=
        List.countP_pos_iff.2 ⟨e, mem, by simp [isSpliceTo_of_work work]⟩
      obtain ⟨link, -⟩ := (splices h).some_of_mem (mem_splicePlaces.2 ⟨e, mem, rfl, o, n, work⟩)
      obtain ⟨ph, a, cur, live, pending⟩ := spliceLink_eq_some link
      exact ⟨⟨ph, a, cur, by simpa using live, pending⟩, standing (by omega)⟩
  · have w := wakes h
    have a := aliases h
    rw [wakeLink_of_current cur] at w
    rw [aliasLink_of_current cur] at a
    obtain ⟨wakeCount, -⟩ := w
    obtain ⟨aliasCount, drains⟩ := a
    exact ⟨⟨aliasCount, wakeCount⟩, fun q => by rw [aliasCount]; exact drains (by simp [q])⟩
  · have := aliasesOf_pos cur
    exact standing (by omega)
  · have agrees := splices h
    rw [spliceLink_of_current cur, pending] at agrees
    obtain ⟨live, places⟩ := agrees
    exact ⟨by simpa using live, mem_splicePlaces.1 (by rw [places]; exact List.mem_singleton_self p)⟩

end Sys2Proof.Machine
end

section
/-! SUPPORT. What every stage does to the links of a handle, to the ALIAS records of a clock and to the Deadline List, and that
they stay in agreement. This settles O60. -/

namespace Sys2Proof.Machine

variable {s t : State} {cmd : Instr}

/-! ## Views under an operation on one record -/

section
variable {α : Type} {V : Phase × Record → Option α} {g : α → α}

/-- An operation on the CLOCK record of a handle, to a reader of CLOCK records alone. -/
theorem view_updClock_map (h : Handle) (f : ClockRecord → ClockRecord) (aliases : ∀ ph a, V (ph, .ofAlias a) = none)
    (map : ∀ ph c, V (ph, .ofClock (f c)) = (V (ph, .ofClock c)).map g) (k : Handle) :
    (s.updClock h f).view V k = if k = h then (s.view V k).map g else s.view V k := by
  obtain ⟨ph, c, cur, e⟩ | ⟨none, e⟩ := updClock_cases (s := s) h f <;> rw [e]
  · rw [view_withRecord cur]
    split
    next q => rw [q, view_of_current cur, map]
    · rfl
  · split
    next q =>
      subst q
      match cur : s.current k with
      | some (ph, .ofClock c) => exact absurd cur (none ph c)
      | some (ph, .ofAlias a) => rw [view_of_current cur, aliases]; rfl
      | .none => unfold State.view; rw [cur]; rfl
    · rfl

/-- An operation on the ALIAS record of a handle, to a reader of ALIAS records alone. -/
theorem view_updAlias_map (h : Handle) (f : AliasRecord → AliasRecord) (clocks : ∀ ph c, V (ph, .ofClock c) = none)
    (map : ∀ ph a, V (ph, .ofAlias (f a)) = (V (ph, .ofAlias a)).map g) (k : Handle) :
    (s.updAlias h f).view V k = if k = h then (s.view V k).map g else s.view V k := by
  obtain ⟨ph, a, cur, e⟩ | ⟨none, e⟩ := updAlias_cases (s := s) h f <;> rw [e]
  · rw [view_withRecord cur]
    split
    next q => rw [q, view_of_current cur, map]
    · rfl
  · split
    next q =>
      subst q
      match cur : s.current k with
      | some (ph, .ofAlias a) => exact absurd cur (none ph a)
      | some (ph, .ofClock c) => rw [view_of_current cur, clocks]; rfl
      | .none => unfold State.view; rw [cur]; rfl
    · rfl

end

/-- A count raised and lowered by what happens at one handle. -/
def stepCount (up down : Nat) (v : Option (Bool × Nat)) : Option (Bool × Nat) := v.map fun p => (p.1, p.2 + up - down)

theorem stepCount_zero (v : Option (Bool × Nat)) : stepCount 0 0 v = v := by
  unfold stepCount
  cases v <;> rfl

/-- One at the handle, zero elsewhere. -/
def oneAt (h k : Handle) : Nat := if k = h then 1 else 0

theorem stepCount_oneAt (h k : Handle) (up : Bool) (v : Option (Bool × Nat)) :
    (if k = h then v.map fun p => (p.1, if up then p.2 + 1 else p.2 - 1) else v) =
      if up then stepCount (oneAt h k) 0 v else stepCount 0 (oneAt h k) v := by
  unfold oneAt
  split
  · cases up <;> rfl
  · rw [stepCount_zero, ite_self]

theorem aliasLink_raise (h k : Handle) : (s.raiseAliasCount h).aliasLink k = stepCount (oneAt h k) 0 (s.aliasLink k) :=
  (view_updClock_map (V := aliasLinkOf) (g := fun p => (p.1, p.2 + 1)) h (fun c => { c with aliasCount := c.aliasCount + 1 })
    (fun _ _ => rfl) (fun _ _ => rfl) k).trans (stepCount_oneAt h k true _)

theorem aliasLink_lower (h k : Handle) : (s.lowerAliasCount h).aliasLink k = stepCount 0 (oneAt h k) (s.aliasLink k) :=
  (view_updClock_map (V := aliasLinkOf) (g := fun p => (p.1, p.2 - 1)) h (fun c => { c with aliasCount := c.aliasCount - 1 })
    (fun _ _ => rfl) (fun _ _ => rfl) k).trans (stepCount_oneAt h k false _)

theorem wakeLink_lower (h k : Handle) : (s.lowerWakeCount h).wakeLink k = stepCount 0 (oneAt h k) (s.wakeLink k) :=
  (view_updClock_map (V := wakeLinkOf) (g := fun p => (p.1, p.2 - 1)) h (fun c => { c with wakeCount := c.wakeCount - 1 })
    (fun _ _ => rfl) (fun _ _ => rfl) k).trans (stepCount_oneAt h k false _)

theorem wakeLink_raise (h k : Handle) :
    (s.updClock h fun c => { c with wakeCount := c.wakeCount + 1 }).wakeLink k = stepCount (oneAt h k) 0 (s.wakeLink k) :=
  (view_updClock_map (V := wakeLinkOf) (g := fun p => (p.1, p.2 + 1)) h (fun c => { c with wakeCount := c.wakeCount + 1 })
    (fun _ _ => rfl) (fun _ _ => rfl) k).trans (stepCount_oneAt h k true _)

/-- The splice an ALIAS has pending is set. -/
theorem spliceLink_pending (h : Handle) (f : AliasRecord → AliasRecord) (p : Option Nat) (k : Handle)
    (set : ∀ a, (f a).pendingSplice = p) :
    (s.updAlias h f).spliceLink k = if k = h then (s.spliceLink k).map fun q => (q.1, p) else s.spliceLink k :=
  view_updAlias_map h f (fun _ _ => rfl) (fun ph a => by unfold spliceLinkOf; simp [set]) k

/-! ### What a link does not see -/

theorem wakeLink_of_slots (e : t.slots = s.slots) : t.wakeLink = s.wakeLink := view_of_slots e
theorem aliasLink_of_slots (e : t.slots = s.slots) : t.aliasLink = s.aliasLink := view_of_slots e
theorem spliceLink_of_slots (e : t.slots = s.slots) : t.spliceLink = s.spliceLink := view_of_slots e

theorem wakeLink_notify (i : SlotNo) (f : NoticeSet) : (s.notify i f).wakeLink = s.wakeLink := view_notify i f
theorem aliasLink_notify (i : SlotNo) (f : NoticeSet) : (s.notify i f).aliasLink = s.aliasLink := view_notify i f
theorem spliceLink_notify (i : SlotNo) (f : NoticeSet) : (s.notify i f).spliceLink = s.spliceLink := view_notify i f

theorem spliceLink_updClock (h : Handle) (f : ClockRecord → ClockRecord) : (s.updClock h f).spliceLink = s.spliceLink :=
  view_updClock h f fun _ _ => rfl

theorem spliceLink_raise (h : Handle) : (s.raiseAliasCount h).spliceLink = s.spliceLink := spliceLink_updClock h _
theorem spliceLink_lower (h : Handle) : (s.lowerAliasCount h).spliceLink = s.spliceLink := spliceLink_updClock h _

theorem spliceLink_retargeted (h n : Handle) : (s.updAlias h fun a => { a with target := n }).spliceLink = s.spliceLink :=
  view_updAlias h (fun a => { a with target := n }) fun _ _ => rfl

theorem wakeLink_updAlias (h : Handle) (f : AliasRecord → AliasRecord) : (s.updAlias h f).wakeLink = s.wakeLink :=
  view_updAlias h f fun _ _ => rfl

theorem aliasLink_updAlias (h : Handle) (f : AliasRecord → AliasRecord) : (s.updAlias h f).aliasLink = s.aliasLink :=
  view_updAlias h f fun _ _ => rfl

theorem wakeLink_raiseAliasCount (h : Handle) : (s.raiseAliasCount h).wakeLink = s.wakeLink :=
  view_updClock h (fun c => { c with aliasCount := c.aliasCount + 1 }) fun _ _ => rfl

theorem wakeLink_lowerAliasCount (h : Handle) : (s.lowerAliasCount h).wakeLink = s.wakeLink :=
  view_updClock h (fun c => { c with aliasCount := c.aliasCount - 1 }) fun _ _ => rfl

theorem aliasLink_wakeCount (h : Handle) (g : Nat → Nat) :
    (s.updClock h fun c => { c with wakeCount := g c.wakeCount }).aliasLink = s.aliasLink :=
  view_updClock h (fun c => { c with wakeCount := g c.wakeCount }) fun _ _ => rfl

/-! ## The ALIAS records of a clock under an operation -/

theorem aliasesOf_of_slots (e : t.slots = s.slots) (k : Handle) : t.aliasesOf k = s.aliasesOf k := by
  rw [aliasesOf_eq, aliasesOf_eq, e]

theorem aliasesOf_updClock (h : Handle) (f : ClockRecord → ClockRecord) (k : Handle) :
    (s.updClock h f).aliasesOf k = s.aliasesOf k :=
  aliasesOf_congr (SlotsRel.updClock (R := fun x y => y.targets k = x.targets k) (fun _ => rfl) fun x ph c e => by simp [Slot.targets, e])

theorem aliasesOf_raise (h k : Handle) : (s.raiseAliasCount h).aliasesOf k = s.aliasesOf k := aliasesOf_updClock h _ k
theorem aliasesOf_lower (h k : Handle) : (s.lowerAliasCount h).aliasesOf k = s.aliasesOf k := aliasesOf_updClock h _ k

theorem aliasesOf_updAlias (h : Handle) (f : AliasRecord → AliasRecord) (k : Handle) (same : ∀ a, (f a).target = a.target) :
    (s.updAlias h f).aliasesOf k = s.aliasesOf k :=
  aliasesOf_congr (SlotsRel.updAlias (R := fun x y => y.targets k = x.targets k) (fun _ => rfl) fun x ph a e => by simp [Slot.targets, e, same])

theorem aliasesOf_notify (i : SlotNo) (f : NoticeSet) (k : Handle) : (s.notify i f).aliasesOf k = s.aliasesOf k :=
  aliasesOf_congr (SlotsRel.notify (R := fun x y => y.targets k = x.targets k) (fun _ => rfl) rfl)

/-- The target of the record, if it is an ALIAS. -/
def Record.leadsTo (r : Record) (k : Handle) : Nat :=
  match r with
  | .ofClock _ => 0
  | .ofAlias a => oneAt a.target k

theorem toNat_beq (h k : Handle) : (h == k).toNat = oneAt h k := by
  unfold oneAt
  by_cases q : k = h
  · rw [q, beq_self_eq_true, if_pos rfl]
    rfl
  · rw [beq_false_of_ne (Ne.symm q), if_neg q]
    rfl

theorem targets_active {x : Slot} {ph : Phase} {r : Record} (e : x.content = .active ph r) (k : Handle) :
    (x.targets k).toNat = r.leadsTo k := by
  unfold Slot.targets Record.leadsTo
  rw [e]
  cases r with
  | ofClock c => rfl
  | ofAlias a => exact toNat_beq _ _

/-- A record written anew leads where it now leads, and no longer where it led. -/
theorem aliasesOf_withRecord {h : Handle} {ph : Phase} {r : Record} (cur : s.current h = some (ph, r)) (ph' : Phase) (r' : Record)
    (f : NoticeSet) (k : Handle) :
    (s.withRecord h.slot ph' r' f).aliasesOf k + r.leadsTo k = s.aliasesOf k + r'.leadsTo k := by
  have := aliasesOf_putSlot (s := s) h.slot
    { gen := (s.slot h.slot).gen, content := .active ph' r', notices := (s.slot h.slot).notices ||| f } k
  rw [targets_active (State.current_eq_some.1 cur).2.2.2, targets_active rfl] at this
  exact this

theorem aliasesOf_withRecord_same {h : Handle} {ph : Phase} {r : Record} (cur : s.current h = some (ph, r)) (ph' : Phase)
    (r' : Record) (f : NoticeSet) (same : r'.leadsTo = r.leadsTo) (k : Handle) :
    (s.withRecord h.slot ph' r' f).aliasesOf k = s.aliasesOf k := by
  have := aliasesOf_withRecord cur ph' r' f k
  rw [same] at this
  omega

/-- A record that ends leads nowhere. -/
theorem aliasesOf_putSlot_inactive {h : Handle} {ph : Phase} {r : Record} {y : Slot} (cur : s.current h = some (ph, r))
    (inactive : ∀ k, y.targets k = false) (k : Handle) :
    (s.putSlot h.slot y).aliasesOf k + r.leadsTo k = s.aliasesOf k := by
  have := aliasesOf_putSlot (s := s) h.slot y k
  rw [targets_active (State.current_eq_some.1 cur).2.2.2, inactive] at this
  exact this

/-! ## The Deadline List under an operation -/

/-- A list with an entry taken from it or moved in it is sound. -/
theorem ListSound.of_sublist {l : List DeadlineEntry} (sound : ListSound s) (perm : t.deadlines.Perm l)
    (sub : l.Sublist s.deadlines) (next : t.nextOrder = s.nextOrder) : ListSound t := by
  refine ⟨?_, ?_, fun e mem => ?_⟩
  · rw [perm.length_eq]
    exact sub.length_le.trans sound.room
  · exact (perm.pairwise_iff fun {a b} n => n.symm).2 (sound.apart.sublist sub)
  · rw [next]
    exact sound.early e (sub.subset (perm.subset mem))

theorem ListSound.of_eq (sound : ListSound s) (list : t.deadlines = s.deadlines) (next : t.nextOrder = s.nextOrder) :
    ListSound t := sound.of_sublist (.of_eq list) (List.Sublist.refl _) next

/-- A list that has lost its head, up to order, is sound. -/
theorem ListSound.taken {e : DeadlineEntry} (sound : ListSound s) (before : s.deadlines.Perm (e :: t.deadlines))
    (next : t.nextOrder = s.nextOrder) : ListSound t := by
  have apart := (before.pairwise_iff fun {a b} n => Ne.symm n).1 sound.apart
  refine ⟨?_, (List.pairwise_cons.1 apart).2, fun x mem => ?_⟩
  · have := before.length_eq
    have := sound.room
    simp only [List.length_cons] at *
    omega
  · rw [next]
    exact sound.early x (before.symm.subset (List.mem_cons_of_mem e mem))

/-- An entry armed joins a list with room (R137, R141). -/
theorem ListSound.armed {e : DeadlineEntry} (sound : ListSound s) (room : s.listFull = false)
    (after : t.deadlines.Perm (e :: s.deadlines)) (place : e.order = s.nextOrder) (next : t.nextOrder = s.nextOrder + 1) :
    ListSound t := by
  have len : s.deadlines.length < Config.deadlineCapacity := by simpa [State.listFull] using room
  refine ⟨?_, ?_, fun x mem => ?_⟩
  · rw [after.length_eq]
    exact len
  · refine (after.pairwise_iff fun {a b} n => Ne.symm n).2 (List.pairwise_cons.2 ⟨fun x mem => ?_, sound.apart⟩)
    rw [place]
    exact Nat.ne_of_gt (sound.early x mem)
  · rw [next]
    obtain rfl | mem := List.mem_cons.1 (after.subset mem)
    · omega
    · have := sound.early x mem
      omega

theorem countP_perm_cons {l m : List DeadlineEntry} {e : DeadlineEntry} (p : DeadlineEntry → Bool) (perm : l.Perm (e :: m)) :
    l.countP p = m.countP p + (p e).toNat := by
  rw [perm.countP_eq, List.countP_cons]
  cases p e <;> rfl

theorem splicePlaces_perm {l m : List DeadlineEntry} (perm : l.Perm m) (h : Handle) :
    (splicePlaces l h).Perm (splicePlaces m h) := (perm.filter _).map _

theorem splicePlaces_cons (e : DeadlineEntry) (l : List DeadlineEntry) (h : Handle) :
    splicePlaces (e :: l) h = if e.isSpliceOf h then e.order :: splicePlaces l h else splicePlaces l h := by
  unfold splicePlaces
  rw [List.filter_cons]
  split <;> rfl

theorem SpliceAgrees.of_perm {v : Option (Bool × Option Nat)} {l m : List Nat} (h : SpliceAgrees v l) (perm : l.Perm m) :
    SpliceAgrees v m := by
  unfold SpliceAgrees at *
  split at h
  · obtain ⟨admits, rfl⟩ := h
    exact ⟨admits, (List.singleton_perm.1 perm).symm⟩
  · subst h; exact List.nil_perm.1 perm
  · subst h; exact List.nil_perm.1 perm

/-! ### Entries of one kind do not count for the other -/

section
variable {e : DeadlineEntry} {l m : List DeadlineEntry}

theorem wake_not_splice {n : PortNo} {tag : Byte} {named b : Handle} {p : RefValue} (work : e.work = .wake n tag named b p)
    (h : Handle) : e.isSpliceTo h = false ∧ e.isSpliceOf h = false := by
  simp [DeadlineEntry.isSpliceTo, DeadlineEntry.isSpliceOf, work]

theorem splice_not_wake {o : Origin} {k n : Handle} (work : e.work = .splice o k n) (h : Handle) : e.isWakeOf h = false := by
  simp [DeadlineEntry.isWakeOf, work]

/-- A list with one wake more has the same splices. -/
theorem splices_perm_wake {n : PortNo} {tag : Byte} {named b : Handle} {p : RefValue} (work : e.work = .wake n tag named b p)
    (perm : l.Perm (e :: m)) (h : Handle) : l.countP (DeadlineEntry.isSpliceTo h) = m.countP (DeadlineEntry.isSpliceTo h) ∧
      (splicePlaces l h).Perm (splicePlaces m h) := by
  obtain ⟨led, own⟩ := wake_not_splice work h
  refine ⟨by rw [countP_perm_cons _ perm, led]; rfl, ?_⟩
  have := splicePlaces_perm perm h
  rwa [splicePlaces_cons, own, if_neg Bool.false_ne_true] at this

theorem wakes_perm_wake {n : PortNo} {tag : Byte} {named b : Handle} {p : RefValue} (work : e.work = .wake n tag named b p)
    (perm : l.Perm (e :: m)) (h : Handle) :
    l.countP (DeadlineEntry.isWakeOf h) = m.countP (DeadlineEntry.isWakeOf h) + oneAt b h := by
  rw [countP_perm_cons _ perm, isWakeOf_of_work work, toNat_beq]

theorem wakes_perm_splice {o : Origin} {k n : Handle} (work : e.work = .splice o k n) (perm : l.Perm (e :: m)) (h : Handle) :
    l.countP (DeadlineEntry.isWakeOf h) = m.countP (DeadlineEntry.isWakeOf h) := by
  rw [countP_perm_cons _ perm, splice_not_wake work]
  rfl

theorem splices_perm_splice {o : Origin} {k n : Handle} (work : e.work = .splice o k n) (perm : l.Perm (e :: m)) (h : Handle) :
    l.countP (DeadlineEntry.isSpliceTo h) = m.countP (DeadlineEntry.isSpliceTo h) + oneAt n h ∧
      (splicePlaces l h).Perm (if h = k then e.order :: splicePlaces m h else splicePlaces m h) := by
  refine ⟨by rw [countP_perm_cons _ perm, isSpliceTo_of_work work, toNat_beq], ?_⟩
  have := splicePlaces_perm perm h
  rw [splicePlaces_cons, isSpliceOf_of_work work] at this
  by_cases q : h = k
  · rw [if_pos q]
    rwa [if_pos (beq_iff_eq.2 q.symm)] at this
  · rw [if_neg q]
    rwa [if_neg (by simpa using Ne.symm q)] at this

end

/-! ## Agreement kept -/

theorem WakesAgree.congr (agree : WakesAgree s) (links : t.wakeLink = s.wakeLink)
    (counts : ∀ h, t.deadlines.countP (DeadlineEntry.isWakeOf h) = s.deadlines.countP (DeadlineEntry.isWakeOf h)) :
    WakesAgree t := by
  intro h
  rw [links, counts]
  exact agree h

theorem AliasesAgree.congr (agree : AliasesAgree s) (links : t.aliasLink = s.aliasLink)
    (aliases : ∀ h, t.aliasesOf h = s.aliasesOf h)
    (counts : ∀ h, t.deadlines.countP (DeadlineEntry.isSpliceTo h) = s.deadlines.countP (DeadlineEntry.isSpliceTo h)) :
    AliasesAgree t := by
  intro h
  rw [links, aliases, counts]
  exact agree h

theorem SplicesAgree.congr (agree : SplicesAgree s) (links : t.spliceLink = s.spliceLink)
    (places : ∀ h, (splicePlaces s.deadlines h).Perm (splicePlaces t.deadlines h)) : SplicesAgree t := by
  intro h
  rw [links]
  exact (agree h).of_perm (places h)

/-- Counts moved up and down by what they count agree with it. -/
theorem AliasesAgree.moved {up down : Handle → Nat} (agree : AliasesAgree s)
    (links : ∀ h, t.aliasLink h = stepCount (up h) (down h) (s.aliasLink h))
    (counts : ∀ h, t.aliasesOf h + t.deadlines.countP (DeadlineEntry.isSpliceTo h) + down h =
      s.aliasesOf h + s.deadlines.countP (DeadlineEntry.isSpliceTo h) + up h)
    (admits : ∀ h, up h = 0 ∨ ∃ m, s.aliasLink h = some (true, m)) : AliasesAgree t := by
  intro h
  rw [links]
  exact (agree h).moved (counts h) (admits h)

theorem WakesAgree.moved {up down : Handle → Nat} (agree : WakesAgree s)
    (links : ∀ h, t.wakeLink h = stepCount (up h) (down h) (s.wakeLink h))
    (counts : ∀ h, t.deadlines.countP (DeadlineEntry.isWakeOf h) + down h =
      s.deadlines.countP (DeadlineEntry.isWakeOf h) + up h)
    (admits : ∀ h, up h = 0 ∨ ∃ m, s.wakeLink h = some (true, m)) : WakesAgree t := by
  intro h
  rw [links]
  exact (agree h).moved (counts h) (admits h)

theorem stepCount_stepCount (u d d' : Nat) (v : Option (Bool × Nat)) :
    stepCount 0 d' (stepCount u d v) = stepCount u (d + d') v := by
  unfold stepCount
  cases v with
  | none => rfl
  | some p => simp [Nat.sub_sub]

/-- A CLOCK that may be led to, at its own handle. -/
theorem admits_oneAt {h : Handle} {ph : Phase} {c : ClockRecord} (cur : s.current h = some (ph, .ofClock c))
    (live : ph.isDraining = false) (k : Handle) : oneAt h k = 0 ∨ ∃ m, s.aliasLink k = some (true, m) := by
  unfold oneAt
  split
  next q => exact .inr ⟨c.aliasCount, by rw [q, aliasLink_of_current cur, live]; rfl⟩
  · exact .inl rfl

end Sys2Proof.Machine
end

section
/-! SUPPORT. Every stage keeps the Deadline List, its counts and its references in agreement. This settles O60. -/

namespace Sys2Proof.Machine

variable {s t : State} {cmd : Instr}

theorem Linked.of_same (linked : Linked s) (slots : t.slots = s.slots) (list : t.deadlines = s.deadlines)
    (next : t.nextOrder = s.nextOrder) : Linked t where
  list := linked.list.of_eq list next
  wakes := linked.wakes.congr (wakeLink_of_slots slots) fun _ => by rw [list]
  aliases := linked.aliases.congr (aliasLink_of_slots slots) (aliasesOf_of_slots slots) fun _ => by rw [list]
  splices := linked.splices.congr (spliceLink_of_slots slots) fun _ => .of_eq (by rw [list])

/-! ## Records written anew -/

theorem CountAgrees.admitting {a a' : Bool} {m n : Nat} (h : CountAgrees (some (a, m)) n) (more : a = true → a' = true) :
    CountAgrees (some (a', m)) n := by
  obtain ⟨count, none⟩ := h
  exact ⟨count, fun q => none (by cases a with
    | false => rfl
    | true => rw [more rfl] at q; cases q)⟩

theorem wakeLink_withRecord {h : Handle} {x : Phase × Record} (cur : s.current h = some x) (ph : Phase) (r : Record)
    (f : NoticeSet) (k : Handle) :
    (s.withRecord h.slot ph r f).wakeLink k = if k = h then wakeLinkOf (ph, r) else s.wakeLink k := view_withRecord cur ph r f k

theorem aliasLink_withRecord {h : Handle} {x : Phase × Record} (cur : s.current h = some x) (ph : Phase) (r : Record)
    (f : NoticeSet) (k : Handle) :
    (s.withRecord h.slot ph r f).aliasLink k = if k = h then aliasLinkOf (ph, r) else s.aliasLink k :=
  view_withRecord cur ph r f k

theorem spliceLink_withRecord {h : Handle} {x : Phase × Record} (cur : s.current h = some x) (ph : Phase) (r : Record)
    (f : NoticeSet) (k : Handle) :
    (s.withRecord h.slot ph r f).spliceLink k = if k = h then spliceLinkOf (ph, r) else s.spliceLink k :=
  view_withRecord cur ph r f k

/-- A CLOCK written anew with its counts, still able to be led to and to have wakes where it was. -/
theorem Linked.clockWritten {h : Handle} {ph ph' : Phase} {c c' : ClockRecord} (f : NoticeSet) (linked : Linked s)
    (cur : s.current h = some (ph, .ofClock c)) (counts : CountsKept c c') (drains : ph'.isDraining = ph.isDraining)
    (ready : (ph == .live && !c.lock.timeless) = true → (ph' == .live && !c'.lock.timeless) = true) :
    Linked (s.withRecord h.slot ph' (.ofClock c') f) where
  list := linked.list.of_eq rfl rfl
  wakes k := by
    rw [wakeLink_withRecord cur]
    split
    next q =>
      have := linked.wakes k
      rw [q, wakeLink_of_current cur] at this
      rw [q]
      unfold wakeLinkOf
      dsimp only
      rw [counts.wakes]
      exact this.admitting ready
    · exact linked.wakes k
  aliases := linked.aliases.congr
    (view_withRecord_same cur (by unfold aliasLinkOf; dsimp only; rw [counts.aliases, drains]) f)
    (aliasesOf_withRecord_same cur ph' (.ofClock c') f rfl) fun _ => rfl
  splices := linked.splices.congr (view_withRecord_same cur (by rfl) f) fun _ => .refl _

/-- An ALIAS written anew with its target and its pending splice. -/
theorem Linked.aliasWritten {h : Handle} {ph ph' : Phase} {a a' : AliasRecord} (f : NoticeSet) (linked : Linked s)
    (cur : s.current h = some (ph, .ofAlias a)) (target : a'.target = a.target) (pending : a'.pendingSplice = a.pendingSplice)
    (drains : a.pendingSplice = none ∨ ph'.isDraining = ph.isDraining) :
    Linked (s.withRecord h.slot ph' (.ofAlias a') f) where
  list := linked.list.of_eq rfl rfl
  wakes := linked.wakes.congr (view_withRecord_same cur (by rfl) f) fun _ => rfl
  aliases := linked.aliases.congr (view_withRecord_same cur (by rfl) f)
    (aliasesOf_withRecord_same cur ph' (.ofAlias a') f (by unfold Record.leadsTo; simp only [target])) fun _ => rfl
  splices k := by
    rw [spliceLink_withRecord cur]
    have agrees := linked.splices k
    split
    next q =>
      rw [q, spliceLink_of_current cur] at agrees
      rw [q]
      unfold spliceLinkOf
      dsimp only
      rw [pending]
      obtain none | same := drains
      · rw [none] at agrees ⊢
        exact agrees
      · rw [same]
        exact agrees
    · exact agrees

/-- A CLOCK that has lost its wakes (R150). -/
theorem Linked.wakesEnded {h : Handle} {ph ph' : Phase} {c c' : ClockRecord} (f : NoticeSet) (linked : Linked s)
    (cur : s.current h = some (ph, .ofClock c)) (aliases : c'.aliasCount = c.aliasCount) (wakes : c'.wakeCount = 0)
    (drains : c.aliasCount = 0 ∨ ph'.isDraining = ph.isDraining)
    (list : t.deadlines = s.deadlines.filter fun e => !e.isWakeOf h) (next : t.nextOrder = s.nextOrder)
    (slots : t.slots = (s.withRecord h.slot ph' (.ofClock c') f).slots) : Linked t where
  list := linked.list.of_sublist (.of_eq list) List.filter_sublist next
  wakes k := by
    rw [wakeLink_of_slots slots, list, List.countP_filter, wakeLink_withRecord cur]
    split
    next q =>
      have none : s.deadlines.countP (fun e => e.isWakeOf k && !e.isWakeOf h) = 0 := by
        rw [q]; simp
      rw [none]
      unfold wakeLinkOf
      dsimp only
      rw [wakes]
      exact ⟨rfl, fun _ => rfl⟩
    next q =>
      have same : s.deadlines.countP (fun e => e.isWakeOf k && !e.isWakeOf h) = s.deadlines.countP (DeadlineEntry.isWakeOf k) :=
        List.countP_congr fun e _ => by
          simp only [Bool.and_eq_true, Bool.not_eq_true', and_iff_left_iff_imp]
          intro at_k
          obtain ⟨n, tag, named, p, work⟩ := isWakeOf_iff.1 at_k
          rw [isWakeOf_of_work work]
          simpa using q
      rw [same]
      exact linked.wakes k
  aliases k := by
    have list' : t.deadlines.countP (DeadlineEntry.isSpliceTo k) = s.deadlines.countP (DeadlineEntry.isSpliceTo k) := by
      rw [list, List.countP_filter]
      refine List.countP_congr fun e _ => ?_
      cases work : e.work with
      | wake n tag named b p => simp [(wake_not_splice work k).1]
      | splice o j n => simp [splice_not_wake work]
    rw [aliasLink_of_slots slots, aliasesOf_of_slots slots, list',
      aliasesOf_withRecord_same cur ph' (.ofClock c') f rfl, aliasLink_withRecord cur]
    have agrees := linked.aliases k
    split
    next q =>
      rw [q, aliasLink_of_current cur] at agrees
      rw [q]
      unfold aliasLinkOf
      dsimp only
      rw [aliases]
      obtain none | same := drains
      · rw [none] at agrees ⊢
        exact ⟨agrees.1, fun _ => agrees.1.symm⟩
      · rw [same]
        exact agrees
    · exact agrees
  splices := by
    refine linked.splices.congr ((spliceLink_of_slots slots).trans (view_withRecord_same cur (by rfl) f)) fun k => .of_eq ?_
    unfold splicePlaces
    rw [list, List.filter_filter]
    congr 1
    refine List.filter_congr fun e _ => ?_
    cases work : e.work with
    | wake n tag named b p => simp [(wake_not_splice work k).2]
    | splice o j n => simp [splice_not_wake work]

theorem Linked.clockOp (linked : Linked s) (op : ClockOp s t) : Linked t := by
  cases op with
  | record cur legal counts source lock flags =>
    refine linked.clockWritten _ cur counts rfl fun ready => ?_
    simp only [Bool.and_eq_true, Bool.not_eq_true'] at ready ⊢
    exact ⟨ready.1, Bool.eq_false_iff.2 fun q => by rw [lock q] at ready; cases ready.2⟩
  | @recordEnding h ph c c' f x cur legal counts source flags =>
    rw [endWakes_eq x (State.current_withRecord_self cur ph (.ofClock c') f), State.withRecord_withRecord]
    exact linked.wakesEnded (ph' := ph) (c' := { c' with wakeCount := 0, updatePending := false }) (f ||| 0) cur counts.aliases rfl
      (.inr rfl) rfl rfl rfl
  | @bound i tag h role ph c cur drain key free room =>
    have entered : Linked { s with bindings := { input := i, tag, clock := h, role } :: s.bindings } :=
      linked.of_same rfl rfl rfl
    have cur' : ({ s with bindings := { input := i, tag, clock := h, role } :: s.bindings } : State).current h =
        some (ph, .ofClock c) := cur
    rw [State.updClock_of_current _ cur']
    exact entered.clockWritten 0 cur' ⟨rfl, rfl, rfl⟩ rfl id
  | @unbound b =>
    have left : Linked { s with bindings := s.bindings.erase b } := linked.of_same rfl rfl rfl
    obtain ⟨ph, c, cur, -, e⟩ | ⟨-, e⟩ := removeBinding_cases (s := s) b <;> rw [e]
    · have cur' : ({ s with bindings := s.bindings.erase b } : State).current b.clock = some (ph, .ofClock c) := cur
      exact left.clockWritten _ cur' ⟨rfl, rfl, rfl⟩ rfl id
    · exact left

/-! ## Wakes -/

theorem Linked.wakeMoved {e : DeadlineEntry} {rest l : List DeadlineEntry} (linked : Linked s) (d : LocalTime)
    (before : s.deadlines.Perm (e :: rest)) (after : l.Perm ({ e with due := d } :: rest))
    (work : ∃ n tag named b p, e.work = .wake n tag named b p) : Linked (s.putDeadlines l) := by
  obtain ⟨n, tag, named, b, p, work⟩ := work
  have work' : ({ e with due := d } : DeadlineEntry).work = .wake n tag named b p := work
  have orders : (l.map (·.order)).Perm (s.deadlines.map (·.order)) := by
    have := before.map (·.order)
    exact (after.map (·.order)).trans this.symm
  refine ⟨⟨?_, ?_, fun x mem => ?_⟩, ?_, ?_, ?_⟩
  · exact (List.Perm.length_eq after).trans (before.length_eq).symm ▸ linked.list.room
  · have apart : (s.deadlines.map (·.order)).Pairwise (· ≠ ·) := List.pairwise_map.2 linked.list.apart
    exact List.pairwise_map.1 ((orders.pairwise_iff fun {a b} n => Ne.symm n).2 apart)
  · obtain ⟨y, mem, same⟩ := List.mem_map.1 (orders.subset (List.mem_map.2 ⟨x, mem, rfl⟩))
    exact same ▸ linked.list.early y mem
  · exact linked.wakes.congr (wakeLink_of_slots rfl) fun h =>
      (wakes_perm_wake work' after h).trans (wakes_perm_wake work before h).symm
  · exact linked.aliases.congr (aliasLink_of_slots rfl) (aliasesOf_of_slots rfl) fun h =>
      (splices_perm_wake work' after h).1.trans (splices_perm_wake work before h).1.symm
  · exact linked.splices.congr (spliceLink_of_slots rfl) fun h =>
      (splices_perm_wake work before h).2.trans (splices_perm_wake work' after h).2.symm

theorem Linked.wakeTaken {e : DeadlineEntry} {rest : List DeadlineEntry} {n : PortNo} {tag : Byte} {named b : Handle}
    {p : RefValue} (linked : Linked s) (before : s.deadlines.Perm (e :: rest)) (work : e.work = .wake n tag named b p) :
    Linked ((s.putDeadlines rest).lowerWakeCount b) := by
  have list : ((s.putDeadlines rest).lowerWakeCount b).deadlines = rest := State.updClock_deadlines _ _ _
  have next : ((s.putDeadlines rest).lowerWakeCount b).nextOrder = s.nextOrder := State.updClock_nextOrder _ _ _
  have slots : (s.putDeadlines rest).slots = s.slots := rfl
  refine ⟨linked.list.taken (by rw [list]; exact before) next, ?_, ?_, ?_⟩
  · refine linked.wakes.moved (up := fun _ => 0) (down := oneAt b) (fun h => ?_) (fun h => ?_) fun _ => .inl rfl
    · rw [wakeLink_lower, wakeLink_of_slots slots]
    · rw [list, wakes_perm_wake work before]
      rfl
  · refine linked.aliases.congr ((aliasLink_wakeCount b (· - 1)).trans (aliasLink_of_slots slots)) (fun h => ?_) fun h => ?_
    · exact (aliasesOf_updClock b _ h).trans (aliasesOf_of_slots slots h)
    · rw [list]
      exact (splices_perm_wake work before h).1.symm
  · refine linked.splices.congr ((spliceLink_updClock b _).trans (spliceLink_of_slots slots)) fun h => ?_
    rw [list]
    exact (splices_perm_wake work before h).2

/-- A wake is armed on a LIVE clock that keeps time (R137, R141). -/
theorem Linked.wakeArmed {n : PortNo} {tag : Byte} {named b : Handle} {p : RefValue} {due : LocalTime} {ph : Phase}
    {c : ClockRecord} (linked : Linked s) (room : s.listFull = false) (cur : s.current b = some (ph, .ofClock c))
    (live : ph = .live ∨ ph ≠ .reserved ∧ ∃ k pk a, s.current k = some (pk, .ofAlias a) ∧ a.target = b)
    (lock : c.lock.timeless = false) :
    Linked ((s.arm due (.wake n tag named b p)).updClock b fun c => { c with wakeCount := c.wakeCount + 1 }) := by
  have list := insertEntry_perm s.lt { due, order := s.nextOrder, work := .wake n tag named b p } s.deadlines
  have list' : (((s.arm due (.wake n tag named b p)).updClock b fun c => { c with wakeCount := c.wakeCount + 1 })).deadlines.Perm
      ({ due, order := s.nextOrder, work := .wake n tag named b p } :: s.deadlines) := by
    rw [State.updClock_deadlines]
    exact list
  have slots : (s.arm due (.wake n tag named b p)).slots = s.slots := rfl
  have live : ph = .live := by
    obtain rfl | ⟨enabled, k, pk, a, curk, rfl⟩ := live
    · rfl
    · have pos := aliasesOf_pos curk
      have admits := (linked.aliases a.target).admits (by omega)
      rw [aliasLink_of_current cur] at admits
      cases ph with
      | live => rfl
      | reserved => exact absurd rfl enabled
      | draining d => cases admits
  refine ⟨linked.list.armed room list' rfl (State.updClock_nextOrder _ _ _), ?_, ?_, ?_⟩
  · refine linked.wakes.moved (up := oneAt b) (down := fun _ => 0) (fun h => ?_) (fun h => ?_) fun h => ?_
    · rw [wakeLink_raise, wakeLink_of_slots slots]
    · exact wakes_perm_wake rfl list' h
    · unfold oneAt
      split
      next q => exact .inr ⟨c.wakeCount, by rw [q, wakeLink_of_current cur, live, lock]; rfl⟩
      · exact .inl rfl
  · refine linked.aliases.congr ((aliasLink_wakeCount b (· + 1)).trans (aliasLink_of_slots slots)) (fun h => ?_) fun h => ?_
    · exact (aliasesOf_updClock b _ h).trans (aliasesOf_of_slots slots h)
    · exact (splices_perm_wake rfl list' h).1
  · exact linked.splices.congr ((spliceLink_updClock b _).trans (spliceLink_of_slots slots)) fun h =>
      (splices_perm_wake rfl list' h).2.symm

/-! ## Splices and targets -/

/-- Two entries at one place in arming order are one entry (R136). -/
theorem ListSound.same_entry {e x : DeadlineEntry} (sound : ListSound s) (he : e ∈ s.deadlines) (hx : x ∈ s.deadlines)
    (place : e.order = x.order) : e = x :=
  List.inj_on_of_nodup_map (f := (·.order)) (List.pairwise_map.2 sound.apart) he hx place

/-- A SPLICE entry leaves the list, and its ALIAS has none pending (R144, R151). -/
theorem Linked.splices_withdrawn {e : DeadlineEntry} {rest : List DeadlineEntry} {o : Origin} {h n : Handle} (linked : Linked s)
    (before : s.deadlines.Perm (e :: rest)) (work : e.work = .splice o h n) (list : t.deadlines = rest)
    (links : ∀ k, t.spliceLink k = if k = h then (s.spliceLink k).map fun q => (q.1, none) else s.spliceLink k) :
    SplicesAgree t := by
  intro k
  have places := (splices_perm_splice work before k).2
  have agrees := (linked.splices k).of_perm places
  rw [links, list]
  split
  next q =>
    rw [if_pos q] at agrees
    obtain ⟨link, only⟩ := agrees.some_of_mem (List.mem_cons_self ..)
    rw [link, Option.map_some]
    exact (List.cons.inj only).2
  next q =>
    rw [if_neg q] at agrees
    exact agrees

/-- The ALIAS a SPLICE entry names has it pending (R19). -/
theorem Linked.pending {e : DeadlineEntry} {o : Origin} {h n : Handle} (linked : Linked s) (mem : e ∈ s.deadlines)
    (work : e.work = .splice o h n) : s.spliceLink h = some (true, some e.order) :=
  ((linked.splices h).some_of_mem (mem_splicePlaces.2 ⟨e, mem, rfl, o, n, work⟩)).1

/-- The SPLICE entry an ALIAS has pending names it (R19). -/
theorem Linked.named {e : DeadlineEntry} {o : Origin} {h h' n : Handle} (linked : Linked s) (mem : e ∈ s.deadlines)
    (work : e.work = .splice o h' n)
    (named : h' = h ∨ ∃ ph a, s.current h = some (ph, .ofAlias a) ∧ a.pendingSplice = some e.order) : h' = h := by
  obtain rfl | ⟨ph, a, cur, pending⟩ := named
  · rfl
  · have agrees := linked.splices h
    rw [spliceLink_of_current cur, pending] at agrees
    obtain ⟨x, mem', place, o', n', work'⟩ := mem_splicePlaces.1 (agrees.2 ▸ List.mem_singleton_self _)
    cases linked.list.same_entry mem' mem place
    rw [work] at work'
    cases work'
    rfl

theorem Linked.spliceDropped {e : DeadlineEntry} {rest : List DeadlineEntry} {o : Origin} {h h' n : Handle} (f : NoticeSet)
    (linked : Linked s) (before : s.deadlines.Perm (e :: rest)) (work : e.work = .splice o h' n)
    (named : h' = h ∨ ∃ ph a, s.current h = some (ph, .ofAlias a) ∧ a.pendingSplice = some e.order) :
    Linked ((((s.putDeadlines rest).lowerAliasCount n).updAlias h fun a => { a with pendingSplice := none }).notify h.slot f) := by
  obtain rfl := linked.named (before.symm.subset (List.mem_cons_self ..)) work named
  have list : ((((s.putDeadlines rest).lowerAliasCount n).updAlias h' fun a =>
      { a with pendingSplice := none }).notify h'.slot f).deadlines = rest := by simp [State.putDeadlines]
  have slots : (s.putDeadlines rest).slots = s.slots := rfl
  refine ⟨linked.list.taken (by rw [list]; exact before) (by simp [State.putDeadlines]), ?_, ?_, ?_⟩
  · refine linked.wakes.congr ?_ fun k => ?_
    · rw [wakeLink_notify, wakeLink_updAlias, wakeLink_lowerAliasCount, wakeLink_of_slots slots]
    · rw [list, wakes_perm_splice work before]
  · refine linked.aliases.moved (up := fun _ => 0) (down := oneAt n) (fun k => ?_) (fun k => ?_) fun _ => .inl rfl
    · rw [aliasLink_notify, aliasLink_updAlias, aliasLink_lower, aliasLink_of_slots slots]
    · rw [list, (splices_perm_splice work before k).1, aliasesOf_notify, aliasesOf_updAlias, aliasesOf_lower,
        aliasesOf_of_slots slots]
      · omega
      · exact fun _ => rfl
  · refine linked.splices_withdrawn before work list fun k => ?_
    rw [spliceLink_notify, spliceLink_pending h' _ none, spliceLink_lower, spliceLink_of_slots slots]
    exact fun _ => rfl

/-- An ALIAS leads to another clock (R144, R165). -/
theorem aliasesOf_retargeted {h n : Handle} {ph : Phase} {a : AliasRecord} (f : AliasRecord → AliasRecord)
    (cur : s.current h = some (ph, .ofAlias a)) (target : (f a).target = n) (k : Handle) :
    (s.updAlias h f).aliasesOf k + oneAt a.target k = s.aliasesOf k + oneAt n k := by
  rw [State.updAlias_of_current f cur, ← target]
  exact aliasesOf_withRecord cur ph (.ofAlias (f a)) 0 k

theorem Linked.spliceExecuted {e : DeadlineEntry} {rest : List DeadlineEntry} {o : Origin} {h n : Handle} {ph : Phase}
    {a : AliasRecord} (f : NoticeSet) (linked : Linked s) (before : s.deadlines.Perm (e :: rest)) (work : e.work = .splice o h n)
    (cur : s.current h = some (ph, .ofAlias a)) :
    Linked ((((s.putDeadlines rest).updAlias h fun a =>
      { a with target := n, pendingSplice := none }).lowerAliasCount a.target).notify h.slot f) := by
  have list : ((((s.putDeadlines rest).updAlias h fun a =>
      { a with target := n, pendingSplice := none }).lowerAliasCount a.target).notify h.slot f).deadlines = rest := by
    simp [State.putDeadlines]
  have slots : (s.putDeadlines rest).slots = s.slots := rfl
  have cur' := (current_of_slots slots h).trans cur
  refine ⟨linked.list.taken (by rw [list]; exact before) (by simp [State.putDeadlines]), ?_, ?_, ?_⟩
  · refine linked.wakes.congr ?_ fun k => ?_
    · rw [wakeLink_notify, wakeLink_lowerAliasCount, wakeLink_updAlias, wakeLink_of_slots slots]
    · rw [list, wakes_perm_splice work before]
  · refine linked.aliases.moved (up := fun _ => 0) (down := oneAt a.target) (fun k => ?_) (fun k => ?_) fun _ => .inl rfl
    · rw [aliasLink_notify, aliasLink_lower, aliasLink_updAlias, aliasLink_of_slots slots]
    · have moved := aliasesOf_retargeted (n := n) (fun a => { a with target := n, pendingSplice := none }) cur' rfl k
      rw [aliasesOf_of_slots slots] at moved
      rw [list, (splices_perm_splice work before k).1, aliasesOf_notify, aliasesOf_lower]
      omega
  · refine linked.splices_withdrawn before work list fun k => ?_
    rw [spliceLink_notify, spliceLink_lower, spliceLink_pending h _ none, spliceLink_of_slots slots]
    exact fun _ => rfl

theorem Linked.moved {h n : Handle} {a : AliasRecord} (linked : Linked s) (checked : MoveChecked s h n a) :
    Linked (moveAlias h a n s) := by
  obtain ⟨⟨ph, cur, live⟩, idle, pn, c, curn, liven⟩ := checked
  have list : (moveAlias h a n s).deadlines = s.deadlines := by simp [moveAlias]
  have next : (moveAlias h a n s).nextOrder = s.nextOrder := by simp [moveAlias]
  have cur' : (s.raiseAliasCount n).current h = some (ph, .ofAlias a) := current_updClock_ofAlias _ cur
  refine ⟨linked.list.of_eq list next, ?_, ?_, ?_⟩
  · refine linked.wakes.congr ?_ fun k => by rw [list]
    unfold moveAlias
    rw [wakeLink_lowerAliasCount, wakeLink_updAlias, wakeLink_raiseAliasCount]
  · refine linked.aliases.moved (up := oneAt n) (down := oneAt a.target) (fun k => ?_) (fun k => ?_) (admits_oneAt curn liven)
    · unfold moveAlias
      rw [aliasLink_lower, aliasLink_updAlias, aliasLink_raise, stepCount_stepCount, Nat.zero_add]
    · have moved := aliasesOf_retargeted (n := n) (fun a => { a with target := n }) cur' rfl k
      rw [aliasesOf_raise] at moved
      rw [list]
      unfold moveAlias
      rw [aliasesOf_lower]
      omega
  · refine linked.splices.congr ?_ fun k => .of_eq (by rw [list])
    unfold moveAlias
    rw [spliceLink_lower, spliceLink_retargeted, spliceLink_raise]

theorem Linked.spliceArmed {o : Origin} {h n : Handle} {d : LocalTime} {a : AliasRecord} (linked : Linked s)
    (room : s.listFull = false) (checked : MoveChecked s h n a) : Linked (armSplice o h n d s) := by
  obtain ⟨⟨ph, cur, live⟩, idle, pn, c, curn, liven⟩ := checked
  have list : (armSplice o h n d s).deadlines.Perm
      ({ due := d, order := s.nextOrder, work := .splice o h n } :: s.deadlines) := by
    have := insertEntry_perm s.lt { due := d, order := s.nextOrder, work := .splice o h n } s.deadlines
    simpa [armSplice, State.arm] using this
  have next : (armSplice o h n d s).nextOrder = s.nextOrder + 1 := by simp [armSplice, State.arm]
  have slots : (s.arm d (.splice o h n)).slots = s.slots := rfl
  refine ⟨linked.list.armed room list rfl next, ?_, ?_, ?_⟩
  · refine linked.wakes.congr ?_ fun k => wakes_perm_splice rfl list k
    unfold armSplice
    rw [wakeLink_updAlias, wakeLink_raiseAliasCount, wakeLink_of_slots slots]
  · refine linked.aliases.moved (up := oneAt n) (down := fun _ => 0) (fun k => ?_) (fun k => ?_) (admits_oneAt curn liven)
    · unfold armSplice
      rw [aliasLink_updAlias, aliasLink_raise, aliasLink_of_slots slots]
    · rw [(splices_perm_splice rfl list k).1]
      unfold armSplice
      rw [aliasesOf_updAlias, aliasesOf_raise, aliasesOf_of_slots slots]
      · omega
      · exact fun _ => rfl
  · intro k
    have places := (splices_perm_splice rfl list k).2
    have links : (armSplice o h n d s).spliceLink k =
        if k = h then (s.spliceLink k).map fun q => (q.1, some s.nextOrder) else s.spliceLink k := by
      unfold armSplice
      rw [spliceLink_pending h _ (some s.nextOrder), spliceLink_raise, spliceLink_of_slots slots]
      exact fun _ => rfl
    refine SpliceAgrees.of_perm ?_ places.symm
    have agrees := linked.splices k
    rw [links]
    split
    next q =>
      rw [q, spliceLink_of_current cur, idle] at agrees
      rw [q, spliceLink_of_current cur, Option.map_some, live, show splicePlaces s.deadlines h = [] from agrees]
      exact ⟨rfl, rfl⟩
    · exact agrees

theorem Linked.listOp (linked : Linked s) (op : ListOp s t) : Linked t := by
  cases op with
  | aliasFields cur legal leases target pending => exact linked.aliasWritten 0 cur target pending (.inr rfl)
  | wakeMoved d before after work => exact linked.wakeMoved d before after work
  | wakeTaken before work => exact linked.wakeTaken before work
  | wakeArmed room cur live lock => exact linked.wakeArmed room cur live lock
  | spliceArmed room checked => exact linked.spliceArmed room checked
  | spliceDropped f before work named flags => exact linked.spliceDropped f before work named
  | spliceExecuted f list work cur flags => exact linked.spliceExecuted f (.of_eq list) work cur
  | @spliceOrphaned e rest o h n list work cur =>
    obtain ⟨ph, a, named, -⟩ := spliceLink_eq_some (linked.pending (list ▸ List.mem_cons_self ..) work)
    exact absurd named (cur ph a)
  | moved checked => exact linked.moved checked

end Sys2Proof.Machine
end

section
/-! SUPPORT. Creation, retirement and the leases keep the Deadline List, its counts and its references in agreement. This settles
O60. -/

namespace Sys2Proof.Machine

variable {s t : State} {cmd : Instr}

/-! ## Creation -/

theorem aliasesOf_create {i : SlotNo} (free : (s.slot i).content = .free) (r : Record) (k : Handle) :
    (s.create i r).aliasesOf k = s.aliasesOf k + r.leadsTo k := by
  have := aliasesOf_putSlot (s := s) i { gen := (s.slot i).gen, content := .active .reserved r, notices := 0 } k
  have none : (s.slot i).targets k = false := by unfold Slot.targets; rw [free]
  rw [none, targets_active (x := { gen := (s.slot i).gen, content := .active .reserved r, notices := 0 }) rfl] at this
  exact this

/-- A CLOCK is created: nothing leads to its handle yet (R23). -/
theorem Linked.clockCreated {i : SlotNo} (legal : SlotsLegal s) (linked : Linked s) (h0 : i ≠ 0)
    (free : (s.slot i).content = .free) : Linked (s.create i (.ofClock ClockRecord.created)) := by
  have stale := current_handleOf_free free
  have new {α : Type} (V : Phase × Record → Option α) (k : Handle) :
      (s.create i (.ofClock ClockRecord.created)).view V k =
        if k = s.handleOf i then V (.reserved, .ofClock ClockRecord.created) else s.view V k :=
    view_create h0 free (legal.gen_ne_zero i) k
  have none {α : Type} (V : Phase × Record → Option α) : s.view V (s.handleOf i) = none := by
    unfold State.view
    rw [stale, Option.bind_none]
  refine ⟨linked.list.of_eq rfl rfl, fun k => ?_, fun k => ?_, fun k => ?_⟩
  · have agrees := linked.wakes k
    rw [State.wakeLink] at agrees
    rw [State.wakeLink, new]
    split
    next q =>
      rw [q, none] at agrees
      rw [q]
      exact ⟨agrees.symm, fun _ => agrees⟩
    · exact agrees
  · have agrees := linked.aliases k
    rw [State.aliasLink] at agrees
    rw [State.aliasLink, new, aliasesOf_create free]
    split
    next q =>
      rw [q, none] at agrees
      rw [q]
      exact ⟨agrees.symm, fun _ => agrees⟩
    · exact agrees
  · have agrees := linked.splices k
    rw [State.spliceLink] at agrees
    rw [State.spliceLink, new]
    split
    next q =>
      rw [q, none] at agrees
      rw [q]
      exact agrees
    · exact agrees

/-- An ALIAS is created: it leads to its target, and no splice names it yet (R24). -/
theorem Linked.aliasCreated {i : SlotNo} {h : Handle} {ph : Phase} {c : ClockRecord} (legal : SlotsLegal s) (linked : Linked s)
    (h0 : i ≠ 0) (free : (s.slot i).content = .free) (cur : s.current h = some (ph, .ofClock c)) (live : ph.isDraining = false) :
    Linked ((s.raiseAliasCount h).create i (.ofAlias (AliasRecord.created h))) := by
  have slot := slot_updClock_free h (fun c => { c with aliasCount := c.aliasCount + 1 }) free
  have free' : ((s.raiseAliasCount h).slot i).content = .free := by
    rw [show (s.raiseAliasCount h).slot i = s.slot i from slot, free]
  have stale : (s.raiseAliasCount h).current ((s.raiseAliasCount h).handleOf i) = none := current_handleOf_free free'
  have new {α : Type} (V : Phase × Record → Option α) (k : Handle) :
      ((s.raiseAliasCount h).create i (.ofAlias (AliasRecord.created h))).view V k =
        if k = (s.raiseAliasCount h).handleOf i then V (.reserved, .ofAlias (AliasRecord.created h))
        else (s.raiseAliasCount h).view V k :=
    view_create h0 free' ((legal.raiseAliasCount h).gen_ne_zero i) k
  have none {α : Type} (V : Phase × Record → Option α) :
      (s.raiseAliasCount h).view V ((s.raiseAliasCount h).handleOf i) = none := by
    unfold State.view
    rw [stale, Option.bind_none]
  have list : ((s.raiseAliasCount h).create i (.ofAlias (AliasRecord.created h))).deadlines = s.deadlines :=
    State.raiseAliasCount_deadlines s h
  refine ⟨linked.list.of_eq list (State.raiseAliasCount_nextOrder s h), ?_, ?_, fun k => ?_⟩
  · refine linked.wakes.congr (funext fun k => ?_) fun k => by rw [list]
    rw [State.wakeLink, new, ← wakeLink_raiseAliasCount (s := s) h, State.wakeLink]
    split
    next q => rw [q, none]; rfl
    · rfl
  · refine linked.aliases.moved (up := oneAt h) (down := fun _ => 0) (fun k => ?_) (fun k => ?_) (admits_oneAt cur live)
    · rw [State.aliasLink, new, ← aliasLink_raise, State.aliasLink]
      split
      next q => rw [q, none]; rfl
      · rfl
    · rw [aliasesOf_create free', aliasesOf_raise, list]
      unfold Record.leadsTo AliasRecord.created
      dsimp only
      omega
  · have agrees := linked.splices k
    rw [← spliceLink_raise (s := s) h, State.spliceLink] at agrees
    rw [State.spliceLink, new, list]
    split
    next q =>
      rw [q, none] at agrees
      rw [q]
      exact agrees
    · exact agrees

/-! ## Retirement -/

/-- A CLOCK no wake may be bound to has none. -/
theorem Linked.no_wakes {h : Handle} {ph : Phase} {c : ClockRecord} (linked : Linked s)
    (cur : s.current h = some (ph, .ofClock c)) (drains : ph.isDraining = true) :
    c.wakeCount = 0 ∧ s.deadlines.filter (fun e => !e.isWakeOf h) = s.deadlines := by
  have agrees := linked.wakes h
  rw [wakeLink_of_current cur] at agrees
  have unready : (ph == .live && !c.lock.timeless) = false := by cases ph <;> simp_all [Phase.isDraining]
  obtain ⟨count, none⟩ := agrees
  have zero := none unready
  refine ⟨count.trans zero, List.filter_eq_self.2 fun e mem => ?_⟩
  simpa using List.countP_eq_zero.1 zero e mem

/-- Nothing leads to a DRAINING CLOCK (R20, R30). -/
theorem Linked.no_aliases {h : Handle} {ph : Phase} {c : ClockRecord} (linked : Linked s)
    (cur : s.current h = some (ph, .ofClock c)) (drains : ph.isDraining = true) : c.aliasCount = 0 := by
  have agrees := linked.aliases h
  rw [aliasLink_of_current cur] at agrees
  exact agrees.1.trans (agrees.2 (by rw [drains]; rfl))

/-- A DRAINING ALIAS has no splice pending (R30). -/
theorem Linked.no_splice {h : Handle} {ph : Phase} {a : AliasRecord} (linked : Linked s)
    (cur : s.current h = some (ph, .ofAlias a)) (drains : ph.isDraining = true) : a.pendingSplice = none := by
  have agrees := linked.splices h
  rw [spliceLink_of_current cur, drains] at agrees
  cases q : a.pendingSplice with
  | none => rfl
  | some o => rw [q] at agrees; cases agrees.1

/-- An ALIAS without a pending entry has no pending splice (R19). -/
theorem Linked.idle {h : Handle} {ph : Phase} {a : AliasRecord} (linked : Linked s)
    (cur : s.current h = some (ph, .ofAlias a)) (absent : s.pendingEntry a = none) : a.pendingSplice = none := by
  have agrees := linked.splices h
  rw [spliceLink_of_current cur] at agrees
  cases q : a.pendingSplice with
  | none => rfl
  | some p =>
    rw [q] at agrees
    obtain ⟨e, mem, place, o, n, work⟩ := mem_splicePlaces.1 (agrees.2 ▸ List.mem_singleton_self p)
    obtain ⟨x, found⟩ : ∃ x, s.entryAt p = some x :=
      Option.isSome_iff_exists.1 (List.find?_isSome.2 ⟨e, mem, by simp [place]⟩)
    have here : x.order = p := by simpa using List.find?_some found
    obtain rfl := linked.list.same_entry mem (List.mem_of_find?_eq_some found) (place.trans here.symm)
    unfold State.pendingEntry at absent
    simp [q, found, work] at absent

theorem targets_retired {y : Slot} (retired : ∃ k, y.content = .retired k) (k : Handle) : y.targets k = false := by
  obtain ⟨kind, content⟩ := retired
  unfold Slot.targets
  rw [content]

/-- A record ends that has no wakes, that nothing leads to and that no splice names; where it led is told (R20, R34). -/
theorem Linked.recordEnded {h : Handle} {ph : Phase} {r : Record} {y : Slot} (linked : Linked s)
    (cur : s.current h = some (ph, r)) (no_wakes : s.deadlines.countP (DeadlineEntry.isWakeOf h) = 0)
    (no_aliases : s.aliasesOf h + s.deadlines.countP (DeadlineEntry.isSpliceTo h) = 0)
    (no_splices : splicePlaces s.deadlines h = []) (retired : ∃ k, y.content = .retired k) :
    Linked ((s.lowerTarget r).putSlot h.slot y) := by
  have inactive : ∀ ph r, y.content ≠ .active ph r := by
    obtain ⟨kind, content⟩ := retired
    simp [content]
  have ended {α : Type} (V : Phase × Record → Option α) (k : Handle) :
      ((s.lowerTarget r).putSlot h.slot y).view V k = if k = h then none else (s.lowerTarget r).view V k :=
    view_putSlot_inactive (current_lowerTarget cur) inactive k
  have list : ((s.lowerTarget r).putSlot h.slot y).deadlines = s.deadlines := by
    cases r with
    | ofClock c => rfl
    | ofAlias a => exact State.lowerAliasCount_deadlines s a.target
  have next : ((s.lowerTarget r).putSlot h.slot y).nextOrder = s.nextOrder := by
    cases r with
    | ofClock c => rfl
    | ofAlias a => exact State.lowerAliasCount_nextOrder s a.target
  have wakeLinks : (s.lowerTarget r).wakeLink = s.wakeLink := by
    cases r with
    | ofClock c => rfl
    | ofAlias a => exact wakeLink_lowerAliasCount _
  have spliceLinks : (s.lowerTarget r).spliceLink = s.spliceLink := by
    cases r with
    | ofClock c => rfl
    | ofAlias a => exact spliceLink_lower _
  have aliasLinks (k : Handle) : (s.lowerTarget r).aliasLink k = stepCount 0 (r.leadsTo k) (s.aliasLink k) := by
    cases r with
    | ofClock c => exact (stepCount_zero _).symm
    | ofAlias a => exact aliasLink_lower _ _
  have aliases (k : Handle) : ((s.lowerTarget r).putSlot h.slot y).aliasesOf k + r.leadsTo k = s.aliasesOf k := by
    rw [aliasesOf_putSlot_inactive (current_lowerTarget cur) (targets_retired retired)]
    cases r with
    | ofClock c => rfl
    | ofAlias a => exact aliasesOf_lower _ _
  refine ⟨linked.list.of_eq list next, fun k => ?_, fun k => ?_, fun k => ?_⟩
  · rw [State.wakeLink, ended, list]
    split
    next q => rw [q]; exact no_wakes
    · change CountAgrees ((s.lowerTarget r).wakeLink k) _
      rw [wakeLinks]
      exact linked.wakes k
  · rw [State.aliasLink, ended, list]
    have moved := aliases k
    split
    next q =>
      rw [q] at moved ⊢
      change _ = 0
      omega
    · have agrees := (linked.aliases k).moved (x := 0) (y := r.leadsTo k)
        (n' := ((s.lowerTarget r).putSlot h.slot y).aliasesOf k + s.deadlines.countP (DeadlineEntry.isSpliceTo k)) (by omega)
        (.inl rfl)
      change CountAgrees ((s.lowerTarget r).aliasLink k) _
      rw [aliasLinks]
      exact agrees
  · rw [State.spliceLink, ended, list]
    split
    next q => rw [q]; exact no_splices
    · change SpliceAgrees ((s.lowerTarget r).spliceLink k) _
      rw [spliceLinks]
      exact linked.splices k

/-- A DRAINING record ends (R33, R34). -/
theorem Linked.drainingEnded {h : Handle} {ph : Phase} {r : Record} {y : Slot} (linked : Linked s)
    (cur : s.current h = some (ph, r)) (ended : (ph.isDraining = true) ∨ ∃ a, r = .ofAlias a ∧ a.pendingSplice = none)
    (retired : ∃ k, y.content = .retired k) : Linked ((s.lowerTarget r).putSlot h.slot y) := by
  have wakes := linked.wakes h
  have aliases := linked.aliases h
  have splices := linked.splices h
  cases r with
  | ofAlias a =>
    have idle : a.pendingSplice = none := by
      obtain drains | ⟨_, ⟨⟩, idle⟩ := ended
      · exact linked.no_splice cur drains
      · exact idle
    rw [State.wakeLink, view_of_current cur] at wakes
    rw [State.aliasLink, view_of_current cur] at aliases
    rw [spliceLink_of_current cur, idle] at splices
    exact linked.recordEnded cur wakes aliases splices retired
  | ofClock c =>
    obtain drains | ⟨_, ⟨⟩, -⟩ := ended
    rw [wakeLink_of_current cur] at wakes
    rw [aliasLink_of_current cur] at aliases
    rw [State.spliceLink, view_of_current cur] at splices
    exact linked.recordEnded cur (wakes.1.symm.trans (linked.no_wakes cur drains).1)
      (aliases.1.symm.trans (linked.no_aliases cur drains)) splices retired

/-- A CLOCK that nothing leads to ends, with its wakes (R30, R34). -/
theorem Linked.clockEnded {h : Handle} {ph : Phase} {c : ClockRecord} {y : Slot} (linked : Linked s)
    (cur : s.current h = some (ph, .ofClock c)) (alone : c.aliasCount = 0) (retired : ∃ k, y.content = .retired k)
    (slots : t.slots = (s.putSlot h.slot y).slots) (list : t.deadlines = s.deadlines.filter fun e => !e.isWakeOf h)
    (next : t.nextOrder = s.nextOrder) : Linked t := by
  have drained : Linked ((s.withRecord h.slot (.draining 0) (.ofClock { c with wakeCount := 0 }) 0).putDeadlines
      (s.deadlines.filter fun e => !e.isWakeOf h)) :=
    linked.wakesEnded (ph' := .draining 0) (c' := { c with wakeCount := 0 }) 0 cur rfl rfl (.inl alone) rfl rfl rfl
  have cur' : ((s.withRecord h.slot (.draining 0) (.ofClock { c with wakeCount := 0 }) 0).putDeadlines
      (s.deadlines.filter fun e => !e.isWakeOf h)).current h = some (.draining 0, .ofClock { c with wakeCount := 0 }) :=
    State.current_withRecord_self cur _ _ _
  refine (drained.drainingEnded cur' (.inl rfl) retired).of_same ?_ list next
  rw [slots]
  change _ = ((s.withRecord h.slot (.draining 0) (.ofClock { c with wakeCount := 0 }) 0).putSlot h.slot y).slots
  rw [State.putSlot_withRecord]

theorem deadlines_detachedFrom (h : Handle) (ph : Phase) (c : ClockRecord) : (s.detachedFrom h ph (.ofClock c)).deadlines =
    if ph.isDraining then s.deadlines else s.deadlines.filter fun e => !e.isWakeOf h := by
  unfold State.detachedFrom
  dsimp only
  split <;> rfl

theorem nextOrder_detachedFrom (h : Handle) (ph : Phase) (r : Record) : (s.detachedFrom h ph r).nextOrder = s.nextOrder := by
  unfold State.detachedFrom
  cases r with
  | ofClock c => dsimp only; split <;> rfl
  | ofAlias a => rfl

@[simp] theorem deadlines_revoked (h : Handle) : (s.revoked h).deadlines = s.deadlines := by
  unfold State.revoked State.append State.freeLeases
  rfl

@[simp] theorem nextOrder_revoked (h : Handle) : (s.revoked h).nextOrder = s.nextOrder := by
  unfold State.revoked State.append State.freeLeases
  rfl

theorem Linked.revoked (linked : Linked s) (h : Handle) : Linked (s.revoked h) :=
  linked.of_same (State.slots_revoked h) (deadlines_revoked h) (nextOrder_revoked h)

theorem putSlot_slots_congr {i : SlotNo} {y : Slot} (e : t.slots = s.slots) : (t.putSlot i y).slots = (s.putSlot i y).slots := by
  simp only [State.putSlot, e]

theorem Linked.clockRetired {h : Handle} {ph : Phase} {c : ClockRecord} (mode : RetireMode) (linked : Linked s)
    (cur : s.current h = some (ph, .ofClock c)) (alone : c.aliasCount = 0) :
    Linked (retireRecord h ph (.ofClock c) mode s).1 := by
  have slots := State.slots_detachedFrom (s := s) h ph (.ofClock c)
  have next := nextOrder_detachedFrom (s := s) h ph (.ofClock c)
  have list : (s.detachedFrom h ph (.ofClock c)).deadlines = s.deadlines.filter fun e => !e.isWakeOf h := by
    rw [deadlines_detachedFrom]
    split
    next drains => exact (linked.no_wakes cur drains).2.symm
    · rfl
  rw [retireRecord_closed cur nofun]
  dsimp only
  split
  · exact linked.clockEnded cur alone ⟨_, rfl⟩ (putSlot_slots_congr slots) list next
  split
  · have slots' := (State.slots_revoked (s := s.detachedFrom h ph (.ofClock c)) h).trans slots
    have list' := (deadlines_revoked (s := s.detachedFrom h ph (.ofClock c)) h).trans list
    have next' := (nextOrder_revoked (s := s.detachedFrom h ph (.ofClock c)) h).trans next
    generalize (s.detachedFrom h ph (.ofClock c)).revoked h = u at slots' list' next' ⊢
    exact linked.clockEnded cur alone ⟨_, rfl⟩ (putSlot_slots_congr slots') list' next'
  · obtain ⟨c', written, aliases, wakes⟩ : ∃ c', (if ph.isDraining then Record.ofClock c else (Record.ofClock c).detached) = .ofClock c' ∧
        c'.aliasCount = c.aliasCount ∧ c'.wakeCount = 0 := by
      split
      next drains => exact ⟨c, rfl, rfl, (linked.no_wakes cur drains).1⟩
      · exact ⟨c.detached, rfl, rfl, rfl⟩
    rw [written]
    refine linked.wakesEnded (ph' := .draining (addTicks s.lt (msTicks (Record.ofClock c).drainMs))) 0 cur aliases wakes
      (.inl alone) list next ?_
    simp only [State.withRecord, State.slot_of_slots slots]
    exact putSlot_slots_congr slots

theorem Linked.aliasRetired {h : Handle} {ph : Phase} {a : AliasRecord} (mode : RetireMode) (linked : Linked s)
    (cur : s.current h = some (ph, .ofAlias a)) (absent : ph.isDraining = false → s.pendingEntry a = none) :
    Linked (retireRecord h ph (.ofAlias a) mode s).1 := by
  have idle : a.pendingSplice = none := by
    cases drains : ph.isDraining with
    | true => exact linked.no_splice cur drains
    | false => exact linked.idle cur (absent drains)
  have kept : (if ph.isDraining then Record.ofAlias a else (Record.ofAlias a).detached) = .ofAlias a := ite_self _
  rw [retireRecord_closed cur fun _ e => by cases e; exact absent, kept]
  dsimp only
  split
  · exact linked.drainingEnded cur (.inr ⟨a, rfl, idle⟩) ⟨_, rfl⟩
  split
  · exact (linked.revoked h).drainingEnded ((current_of_slots (State.slots_revoked h) h).trans cur) (.inr ⟨a, rfl, idle⟩) ⟨_, rfl⟩
  · exact linked.aliasWritten 0 cur rfl rfl (.inl idle)

/-! ## Leases and notices -/

theorem Linked.updLeaseCount (linked : Linked s) (h : Handle) (g : Nat → Nat) :
    Linked (s.updRecord h (Record.updLeaseCount g)) := by
  obtain ⟨ph, r, cur, e⟩ | ⟨-, e⟩ := updRecord_cases (s := s) h (Record.updLeaseCount g) <;> rw [e]
  · refine ⟨linked.list.of_eq rfl rfl, linked.wakes.congr (view_withRecord_same cur ?_ 0) fun _ => rfl,
      linked.aliases.congr (view_withRecord_same cur ?_ 0) (aliasesOf_withRecord_same cur ph _ 0 ?_) fun _ => rfl,
      linked.splices.congr (view_withRecord_same cur ?_ 0) fun _ => .refl _⟩
    all_goals cases r <;> rfl
  · exact linked

theorem Linked.givenUp {k : LeaseNo} {l : Lease} (linked : Linked s) : Linked (s.giveUpLease k l) := by
  have lowered : Linked ((s.putLease k none).updRecord l.named (Record.updLeaseCount (· - 1))) :=
    Linked.updLeaseCount (s := s.putLease k none) (linked.of_same rfl rfl rfl) _ _
  unfold State.giveUpLease
  dsimp only
  split
  next d r cur =>
    split
    · rw [enterRetired_of_current cur]
      exact lowered.drainingEnded cur (.inl rfl) ⟨_, rfl⟩
    · exact lowered
  all_goals exact lowered

theorem targets_collected {x : Slot} {flags : NoticeSet} (legal : x.legal = true)
    (own : noticed flags .drained = true → noticed x.notices .drained = true) (h : Handle) :
    (x.collected flags).targets h = x.targets h := by
  unfold Slot.collected
  split
  next drained =>
    unfold Slot.targets
    split
    next e => cases e
    next e => cases e
    next =>
      match e : x.content with
      | .active ph r => rw [Slot.not_drained legal e] at own; cases own drained
      | .free | .retired _ => rfl
    next e => cases e
  · rfl

theorem Linked.tenureOp (legal : SlotsLegal s) (linked : Linked s) (op : TenureOp s cmd t) : Linked t := by
  cases op with
  | clockCreated slot =>
    obtain ⟨h0, free⟩ := freeSlot_eq_some slot
    exact linked.clockCreated legal h0 free
  | aliasCreated slot cur drain =>
    obtain ⟨h0, free⟩ := freeSlot_eq_some slot
    exact linked.aliasCreated legal h0 free cur drain
  | @enabled h r cur =>
    unfold Record.enabled
    cases r with
    | ofAlias a => exact linked.aliasWritten 0 cur rfl rfl (.inr rfl)
    | ofClock c =>
      dsimp only
      split
      · exact linked.clockWritten 0 cur ⟨rfl, rfl, rfl⟩ rfl nofun
      · exact linked.clockWritten 0 cur ⟨rfl, rfl, rfl⟩ rfl nofun
  | clockRetired mode cur alone notBusy => exact linked.clockRetired mode cur alone
  | aliasRetired mode cur idle notBusy => exact linked.aliasRetired mode cur idle
  | @drained i d r slot =>
    have h0 : i ≠ 0 := by
      rintro rfl
      simp [legal.2] at slot
    have cur := current_handleOf h0 (legal.gen_ne_zero i) slot
    have closed := revokeAll_enterRetired cur
    change (s.revokeAll (s.handleOf i)).enterRetired i = _ at closed
    rw [closed]
    exact (linked.revoked _).drainingEnded ((current_of_slots (State.slots_revoked _) _).trans cur) (.inl rfl) ⟨_, rfl⟩
  | @granted k l ph r free cur live =>
    exact Linked.updLeaseCount (s := s.putLease k (some l)) (linked.of_same rfl rfl rfl) _ _
  | givenUp cmd held => exact linked.givenUp
  | @collected i slot flags own =>
    have same {α : Type} (V : Phase × Record → Option α) :
        (s.putSlot i ((s.slot i).collected flags)).view V = s.view V := by
      funext k
      unfold State.view
      rw [current_collected legal own]
    refine ⟨linked.list.of_eq rfl rfl, linked.wakes.congr (same _) fun _ => rfl,
      linked.aliases.congr (same _) (fun k => ?_) fun _ => rfl, linked.splices.congr (same _) fun _ => .refl _⟩
    exact aliasesOf_congr (SlotsRel.putSlot (R := fun x y => y.targets k = x.targets k) (fun _ => rfl)
      (targets_collected (legal.1 i) own k))

theorem linked_tableProperty : TableProperty fun s => SlotsLegal s ∧ Linked s where
  legal := And.left
  same h hs := ⟨hs.1.of_slots h.slots, hs.2.of_same h.slots h.deadlines h.nextOrder⟩
  clock op hs := ⟨hs.1.clockOp op, hs.2.clockOp op⟩
  list op hs := ⟨hs.1.listOp op, hs.2.listOp op⟩
  tenure op hs := ⟨hs.1.tenureOp op, hs.2.tenureOp hs.1 op⟩
  cleared {t} h := by
    have stale (k : Handle) : t.current k = none := Option.eq_none_iff_forall_ne_some.2 fun ⟨ph, r⟩ cur => by
      have := (State.current_eq_some.1 cur).2.2.2
      rw [(h.slot _).1] at this
      cases this
    refine ⟨h.slotsLegal, DeadlinesTied.linked h.slotsLegal ?_⟩
    unfold DeadlinesTied
    rw [h.deadlines]
    refine ⟨Nat.zero_le _, .nil, ?_, fun k ph c cur => ?_, fun k ph a cur => ?_⟩
    · exact fun e m => absurd m List.not_mem_nil
    all_goals
      rw [stale k] at cur
      cases cur

/-- Settles O60: the agreement said handle by handle is a property of the tables that every stage keeps. -/
theorem deadlinesStayTied : Obligations.DeadlinesStayTied := by
  intro s t legal tied e
  exact (linked_tableProperty.step e ⟨legal, tied.linked legal⟩).2.deadlinesTied

end Sys2Proof.Machine
end

section
/-! SUPPORT. What a management request in progress does: the owner's event of a request carries it out, and no other owner's event
does anything (R174, R175). -/

namespace Sys2Proof.Machine

variable {s t : State} {cmd : Instr} {q : MgmtRequest}

/-- The owner's event of a request. -/
def MgmtRequest.command : MgmtRequest → Instr
  | .createClock => .createClock
  | .createAlias _ => .createAlias
  | .configure .. => .configure
  | .enable _ => .enable
  | .retire .. => .retire
  | .readRecord _ => .readRecord
  | .bind .. => .bind
  | .unbind .. => .unbind
  | .setInputOffset .. => .setInputOffset
  | .setAnchor .. => .setAnchor
  | .selectSource .. => .selectSource
  | .setPortLevel .. => .setPortLevel
  | .portReset _ => .portReset
  | .readPort _ => .readPort
  | .retarget .. => .mgmtRetarget
  | .splice .. => .mgmtSplice
  | .unsplice _ => .mgmtUnsplice
  | .readIdentity => .readIdentity
  | .readTime => .readTime
  | .setMask _ => .setMask
  | .nextNotice => .nextNotice
  | .purge => .purge

/-- The state after a request has been carried out. -/
def carryOut (s : State) : MgmtRequest → State
  | .createClock => createClock s
  | .createAlias h => createAlias h s
  | .configure h cs => configure h cs s
  | .enable h => enable h s
  | .retire h mode => retire h mode s
  | .readRecord n => readRecord n s
  | .bind input tag h role => bindTag input tag h role s
  | .unbind input tag => unbindTag input tag s
  | .setInputOffset input o => setInputOffset input o s
  | .setAnchor h rv trim => setAnchor h rv trim s
  | .selectSource h role => selectSource h role s
  | .setPortLevel n l => setPortLevel n l s
  | .portReset n => portReset n s
  | .readPort n => readPort n s
  | .retarget h k => mgmtRetarget h k s
  | .splice h k d => mgmtSplice h k d s
  | .unsplice h => mgmtUnsplice h s
  | .readIdentity => s.hold .readIdentity (.ok .identity)
  | .readTime => s.hold .readTime (.ok (.time s.lt))
  | .setMask k => setMask k s
  | .nextNotice => nextNotice s
  | .purge => (purgeAll s).hold .purge (.ok (.time s.lt))

/-- The owner's event of the request in progress carries it out. -/
theorem exec_command (asked : s.asked q) : exec q.command s = .next (carryOut s q) := by
  have progress := inProgress_of_asked asked
  have high (u : State) : taken s u = .next u := taken_high asked.1
  cases q with
  | _ =>
    refine Eq.trans ?_ (high _)
    refine congrArg (taken s) ?_
    rw [progress]
    rfl

theorem exec_asked (asked : s.asked q) (e : carryOut s q = t) : exec q.command s = .next t := by
  rw [exec_command asked, e]

theorem taken_self (s : State) : taken s s = .next s := by
  unfold taken
  split <;> rfl

/-- An owner's event does nothing where none of its requests is in progress. -/
theorem exec_not_owner {x : Instr × MgmtCode} (mem : x ∈ ownerEvents) (idle : ∀ q, s.inProgress = some q → q.command ≠ x.1) :
    exec x.1 s = .next s := by
  simp only [ownerEvents, List.mem_cons, List.not_mem_nil, or_false] at mem
  obtain rfl | rfl | rfl | rfl | rfl | rfl | rfl | rfl | rfl | rfl | rfl | rfl | rfl | rfl | rfl | rfl | rfl | rfl | rfl | rfl |
    rfl | rfl := mem
  all_goals
    refine Eq.trans (congrArg (taken s) ?_) (taken_self s)
    split
    · exact absurd rfl (idle _ ‹_›)
    · rfl

/-- An owner's event is the event of the request in progress, or does nothing. -/
theorem exec_owner {x : Instr × MgmtCode} (mem : x ∈ ownerEvents) (e : exec x.1 s = .next t) :
    t = s ∨ ∃ q, s.asked q ∧ t = carryOut s q := by
  by_cases busy : ∃ q, s.asked q ∧ q.command = x.1
  · obtain ⟨q, asked, own⟩ := busy
    rw [← own, exec_command asked] at e
    cases e
    exact .inr ⟨q, asked, rfl⟩
  refine .inl ?_
  cases low : s.rstLow with
  | true =>
    have other : x.1 ≠ .hardReset ∧ ∀ a b m, x.1 ≠ .resetRelease a b m := by
      revert x
      simp [ownerEvents]
    rw [exec_low low other.1 other.2] at e
    cases e
    rfl
  | false =>
    rw [exec_not_owner mem fun q progress own => busy ⟨q, ⟨low, inProgress_eq_some.1 progress⟩, own⟩] at e
    cases e
    rfl

/-! ## The first of the slots and inputs -/

theorem find?_finRange {n : Nat} {p : Fin n → Bool} {i : Fin n} (hit : p i = true) (first : ∀ j < i, p j = false) :
    (List.finRange n).find? p = some i := by
  rw [← Fin.find?_eq_find?_finRange, Fin.find?_eq_some_iff]
  exact ⟨hit, first⟩

/-- The lowest-numbered FREE slot but slot 0 is taken for a new record (R23). -/
theorem freeSlot_of_first {i : SlotNo} (pos : i ≠ 0) (free : (s.slot i).content = .free)
    (first : ∀ j, j ≠ 0 → j < i → (s.slot j).content ≠ .free) : s.freeSlot = some i := by
  refine find?_finRange (by simp [pos, free]) fun j before => ?_
  by_cases zero : j = 0
  · simp [zero]
  · simp [zero, first j zero before]

/-- No slot but slot 0 is FREE: the Record Table is full (R23). -/
theorem freeSlot_of_full (full : ∀ i, i ≠ 0 → (s.slot i).content ≠ .free) : s.freeSlot = none := by
  refine List.find?_eq_none.2 fun i _ => ?_
  by_cases zero : i = 0
  · simp [zero]
  · simp [zero, full i zero]

end Sys2Proof.Machine
end

section
/-! SUPPORT. The lifecycle and the generation of a slot through every stage of a command (section 2.3; R15). -/

namespace Sys2Proof.Machine

variable {s t u : State} {cmd : Instr}

/-! ## Changes that move no slot -/

/-- A slot's lifecycle and generation are as before. -/
def Slot.SameLife (x y : Slot) : Prop := y.content.lifecycle = x.content.lifecycle ∧ y.gen = x.gen

theorem Slot.SameLife.refl (x : Slot) : x.SameLife x := ⟨rfl, rfl⟩

theorem Slot.SameLife.trans (x y z : Slot) (h : x.SameLife y) (h' : y.SameLife z) : x.SameLife z :=
  ⟨h'.1.trans h.1, h'.2.trans h.2⟩

/-- No slot's lifecycle or generation moves. -/
abbrev State.SameLife : State → State → Prop := SlotsRel Slot.SameLife

theorem sameLife_of_slots (e : t.slots = s.slots) : s.SameLife t := SlotsRel.of_slots Slot.SameLife.refl e

theorem State.SameLife.trans (h : s.SameLife t) (h' : t.SameLife u) : s.SameLife u := SlotsRel.trans Slot.SameLife.trans h h'

theorem lifecycle_active (ph : Phase) (r : Record) : (Content.active ph r).lifecycle = ph.lifecycle := by
  cases ph <;> rfl

theorem Slot.sameLife_active {x : Slot} {ph : Phase} {r : Record} (e : x.content = .active ph r) (r' : Record) (n : NoticeSet) :
    x.SameLife { x with content := .active ph r', notices := n } := by
  refine ⟨?_, rfl⟩
  rw [e, lifecycle_active, lifecycle_active]

theorem sameLife_withRecord {h : Handle} {ph : Phase} {r : Record} (cur : s.current h = some (ph, r)) (r' : Record)
    (f : NoticeSet) : s.SameLife (s.withRecord h.slot ph r' f) :=
  SlotsRel.withRecord Slot.SameLife.refl cur fun _ e => Slot.sameLife_active e r' _

theorem sameLife_updClock (h : Handle) (f : ClockRecord → ClockRecord) : s.SameLife (s.updClock h f) :=
  SlotsRel.updClock Slot.SameLife.refl fun _ _ _ e => Slot.sameLife_active e _ _

theorem sameLife_updAlias (h : Handle) (f : AliasRecord → AliasRecord) : s.SameLife (s.updAlias h f) :=
  SlotsRel.updAlias Slot.SameLife.refl fun _ _ _ e => Slot.sameLife_active e _ _

theorem sameLife_updRecord (h : Handle) (f : Record → Record) : s.SameLife (s.updRecord h f) :=
  SlotsRel.updRecord Slot.SameLife.refl fun _ _ _ e => Slot.sameLife_active e _ _

theorem sameLife_notify (i : SlotNo) (f : NoticeSet) : s.SameLife (s.notify i f) :=
  SlotsRel.notify Slot.SameLife.refl ⟨rfl, rfl⟩

theorem sameLife_lowerTarget (r : Record) : s.SameLife (s.lowerTarget r) := by
  cases r with
  | ofClock c => exact sameLife_of_slots rfl
  | ofAlias a => exact sameLife_updClock _ _

theorem sameLife_clockOp (op : ClockOp s t) : s.SameLife t := by
  cases op with
  | record cur => exact sameLife_withRecord cur _ _
  | @recordEnding h ph c c' f x cur =>
    rw [endWakes_eq x (State.current_withRecord_self cur _ _ _), State.withRecord_withRecord]
    exact (sameLife_withRecord cur _ _).trans (sameLife_of_slots (State.slots_append _))
  | @bound i tag h role =>
    have bindings : s.SameLife { s with bindings := { input := i, tag, clock := h, role } :: s.bindings } :=
      sameLife_of_slots rfl
    exact bindings.trans (sameLife_updClock _ _)
  | @unbound b =>
    have bindings : s.SameLife { s with bindings := s.bindings.erase b } := sameLife_of_slots rfl
    obtain ⟨ph, c, cur, -, e⟩ | ⟨-, e⟩ := removeBinding_cases (s := s) b <;> rw [e]
    · have cur' : ({ s with bindings := s.bindings.erase b } : State).current b.clock = some (ph, .ofClock c) := cur
      exact bindings.trans (sameLife_withRecord cur' _ _)
    · exact bindings

theorem sameLife_listOp (op : ListOp s t) : s.SameLife t := by
  have list (l : List DeadlineEntry) : s.SameLife (s.putDeadlines l) := sameLife_of_slots rfl
  cases op with
  | aliasFields cur => exact sameLife_withRecord cur _ _
  | wakeMoved | spliceOrphaned => exact list _
  | wakeTaken => exact (list _).trans (sameLife_updClock _ _)
  | @wakeArmed n tag named b p due =>
    have armed : s.SameLife (s.arm due (.wake n tag named b p)) := sameLife_of_slots rfl
    exact armed.trans (sameLife_updClock _ _)
  | @spliceArmed o h n d =>
    have armed : s.SameLife (s.arm d (.splice o h n)) := sameLife_of_slots rfl
    exact (armed.trans (sameLife_updClock _ _)).trans (sameLife_updAlias _ _)
  | spliceDropped => exact (((list _).trans (sameLife_updClock _ _)).trans (sameLife_updAlias _ _)).trans (sameLife_notify _ _)
  | spliceExecuted => exact (((list _).trans (sameLife_updAlias _ _)).trans (sameLife_updClock _ _)).trans (sameLife_notify _ _)
  | moved => exact ((sameLife_updClock _ _).trans (sameLife_updAlias _ _)).trans (sameLife_updClock _ _)

/-! ## The moves of section 2.3 -/

/-- A move of a slot's lifecycle that a command makes, other than by a hard reset or a purge (section 2.3). -/
inductive LifeMove : Instr → SlotNo → Lifecycle → Lifecycle → Prop
  | clockCreated {i} : LifeMove .createClock i .free .reserved
  | aliasCreated {i} : LifeMove .createAlias i .free .reserved
  | enabled {i} : LifeMove .enable i .reserved .live
  | retired {i a} (ph : Phase) (active : ph.lifecycle = a) : LifeMove .retire i a .retired
  | drains {i} : LifeMove .retire i .live .draining
  | drained {c i} (own : c = .release ∨ c = .portReset ∨ c = .drainExpiry i) : LifeMove c i .draining .retired
  | collected {i} : LifeMove .nextNotice i .retired .free

/-- A slot is where it was, or has made one move of its command; its generation moves on at entry into RETIRED (R15). -/
inductive SlotMove (c : Instr) (i : SlotNo) (x y : Slot) : Prop
  | same (h : x.SameLife y)
  | ends (h : LifeMove c i x.content.lifecycle y.content.lifecycle) (retired : y.content.lifecycle = .retired)
      (gen : y.gen = nextGen x.gen)
  | moves (h : LifeMove c i x.content.lifecycle y.content.lifecycle) (current : y.content.lifecycle ≠ .retired)
      (gen : y.gen = x.gen)

theorem LifeMove.ne {i : SlotNo} {a b : Lifecycle} (h : LifeMove cmd i a b) : a ≠ b := by
  cases h with
  | retired ph active => cases ph <;> simp [← active, Phase.lifecycle]
  | _ => simp

/-- A command makes no second move, but for a RETIRE of what it made DRAINING. -/
theorem LifeMove.trans {i : SlotNo} {a b d : Lifecycle} (h : LifeMove cmd i a b) (h' : LifeMove cmd i b d) :
    b = .draining ∧ d = .retired ∧ LifeMove cmd i a d := by
  cases h with
  | clockCreated | aliasCreated | enabled | collected => cases h'
  | drains =>
    cases h' with
    | retired => exact ⟨rfl, rfl, .retired .live rfl⟩
    | drained own => simp at own
  | retired =>
    cases h' with
    | retired ph active => cases ph <;> cases active
  | drained own =>
    cases h' with
    | collected => simp at own
    | retired ph active => cases ph <;> cases active

theorem SlotMove.trans {i : SlotNo} {x y z : Slot} (h : SlotMove cmd i x y) (h' : SlotMove cmd i y z) : SlotMove cmd i x z := by
  cases h with
  | same h =>
    obtain ⟨life, gen⟩ := h
    cases h' with
    | same h' => exact .same (Slot.SameLife.trans _ _ _ ⟨life, gen⟩ h')
    | ends h' retired gen' => exact .ends (life ▸ h') retired (gen ▸ gen')
    | moves h' current gen' => exact .moves (life ▸ h') current (gen ▸ gen')
  | ends h retired gen =>
    cases h' with
    | same h' => exact .ends (h'.1.symm ▸ h) (h'.1.trans retired) (h'.2.trans gen)
    | ends h' | moves h' =>
      have drains := (h.trans h').1
      rw [retired] at drains
      cases drains
  | moves h current gen =>
    cases h' with
    | same h' => exact .moves (h'.1.symm ▸ h) (h'.1.symm ▸ current) (h'.2.trans gen)
    | ends h' retired gen' => exact .ends (h.trans h').2.2 retired (gen ▸ gen')
    | moves h' current' gen' => exact absurd (h.trans h').2.1 current'

/-- Every slot is where it was, or has made one move of the command. -/
def SlotMoves (c : Instr) (s t : State) : Prop := ∀ i, SlotMove c i (s.slot i) (t.slot i)

theorem State.SameLife.moves (h : s.SameLife t) : SlotMoves cmd s t := fun i => .same (h i)

theorem SlotMoves.trans (h : SlotMoves cmd s t) (h' : SlotMoves cmd t u) : SlotMoves cmd s u :=
  fun i => (h i).trans (h' i)

theorem slotMoves_putSlot {i : SlotNo} {y : Slot} (h : SlotMove cmd i (s.slot i) y) : SlotMoves cmd s (s.putSlot i y) := by
  intro j
  rw [State.slot_putSlot]
  split
  next q => exact q ▸ h
  · exact .same (.refl _)

/-! ## The stages that move a slot -/

/-- A current record enters RETIRED (R34). -/
theorem slotMoves_retired {h : Handle} {ph : Phase} {r : Record} {y : Slot} (cur : s.current h = some (ph, r))
    (move : LifeMove cmd h.slot ph.lifecycle .retired) (k : RecordKind) (content : y.content = .retired k)
    (gen : y.gen = nextGen (s.slot h.slot).gen) (same : s.SameLife u) : SlotMoves cmd s (u.putSlot h.slot y) := by
  intro j
  rw [State.slot_putSlot]
  split
  next q =>
    subst q
    refine .ends ?_ (by rw [content]; rfl) gen
    rw [content, (State.current_eq_some.1 cur).2.2.2, lifecycle_active]
    exact move
  · exact .same (same j)

theorem slotMoves_enterRetired {h : Handle} {ph : Phase} {r : Record} (cur : s.current h = some (ph, r))
    (move : LifeMove cmd h.slot ph.lifecycle .retired) : SlotMoves cmd s (s.enterRetired h.slot) := by
  rw [enterRetired_of_current cur]
  exact slotMoves_retired cur move _ rfl rfl (sameLife_lowerTarget r)

/-- No lease names a RESERVED record (R22, R157). -/
theorem LeasesTied.reserved {h : Handle} {r : Record} (tied : LeasesTied s) (cur : s.current h = some (.reserved, r)) :
    r.leaseCount = 0 := by
  obtain ⟨counted, -⟩ := leasesTied_iff.1 tied
  rw [counted.count h _ _ (tenure_of_current cur), leasesNaming_eq, List.countP_eq_zero]
  rintro k - names
  obtain ⟨l, held, rfl⟩ : ∃ l, s.lease k = some l ∧ l.named = h := by
    simpa [State.leaseNames, Option.any_eq_true] using names
  obtain ⟨ph, n, e, active⟩ := counted.named k l held
  rw [tenure_of_current cur] at e
  cases e
  exact active rfl

/-- A retirement moves its slot to RETIRED, or from LIVE to DRAINING (R30, R31). -/
theorem slotMoves_retireRecord {h : Handle} {ph : Phase} {r : Record} {mode : RetireMode} (tied : LeasesTied s)
    (cur : s.current h = some (ph, r)) (idle : ∀ a, r = .ofAlias a → ph.isDraining = false → s.pendingEntry a = none)
    (notBusy : ¬(ph.isDraining = true ∧ mode = .normal)) : SlotMoves .retire s (retireRecord h ph r mode s).1 := by
  have slots := State.slots_detachedFrom (s := s) h ph r
  have detached : s.SameLife (s.detachedFrom h ph r) := sameLife_of_slots slots
  have revoked : s.SameLife ((s.detachedFrom h ph r).revoked h) := detached.trans (sameLife_of_slots (State.slots_revoked h))
  rw [retireRecord_closed cur idle]
  dsimp only
  split
  · exact slotMoves_retired cur (.retired ph rfl) _ rfl rfl (detached.trans (sameLife_lowerTarget r))
  next leased =>
    split
    · exact slotMoves_retired cur (.retired ph rfl) _ rfl rfl (revoked.trans (sameLife_lowerTarget r))
    next normal =>
      have live : ph = .live := by
        cases ph with
        | live => rfl
        | reserved => exact absurd (tied.reserved cur) leased
        | draining d => exact absurd ⟨rfl, by cases mode <;> simp_all⟩ notBusy
      refine detached.moves.trans (slotMoves_putSlot (.moves ?_ nofun rfl))
      rw [State.slot_of_slots slots, (State.current_eq_some.1 cur).2.2.2, live]
      exact .drains

/-- The last lease of a DRAINING record given up ends it (R40, R160). -/
theorem slotMoves_giveUpLease (own : cmd = .release ∨ cmd = .portReset) (k : LeaseNo) (l : Lease) :
    SlotMoves cmd s (s.giveUpLease k l) := by
  have given : s.SameLife (s.putLease k none) := sameLife_of_slots rfl
  have lowered : SlotMoves cmd s ((s.putLease k none).updRecord l.named (Record.updLeaseCount (· - 1))) :=
    (given.trans (sameLife_updRecord _ _)).moves
  unfold State.giveUpLease
  dsimp only
  split
  next cur =>
    split
    · refine lowered.trans (slotMoves_enterRetired cur (.drained ?_))
      exact own.imp_right .inl
    · exact lowered
  all_goals exact lowered

theorem Slot.move_collected {x : Slot} {i : SlotNo} {flags : NoticeSet} (legal : x.legal = true)
    (own : noticed flags .drained = true → noticed x.notices .drained = true) :
    SlotMove .nextNotice i x (x.collected flags) := by
  unfold Slot.collected
  split
  next drained =>
    refine .moves ?_ nofun rfl
    match e : x.content with
    | .free =>
      have := own drained
      rw [((Slot.legal_free e).1 legal).2] at this
      cases this
    | .active ph r =>
      rw [Slot.not_drained legal e] at own
      cases own drained
    | .retired k => exact .collected
  · exact .same ⟨rfl, rfl⟩

theorem slotMoves_tenureOp (legal : SlotsLegal s) (tied : LeasesTied s) (op : TenureOp s cmd t) : SlotMoves cmd s t := by
  cases op with
  | @clockCreated i slot =>
    refine slotMoves_putSlot (.moves ?_ nofun rfl)
    rw [(freeSlot_eq_some slot).2]
    exact .clockCreated
  | @aliasCreated i h ph c slot =>
    have raised : s.SameLife (s.raiseAliasCount h) := sameLife_updClock _ _
    refine raised.moves.trans (slotMoves_putSlot (.moves ?_ nofun rfl))
    rw [(raised i).1, (freeSlot_eq_some slot).2]
    exact .aliasCreated
  | @enabled h r cur =>
    refine slotMoves_putSlot (.moves ?_ nofun rfl)
    rw [(State.current_eq_some.1 cur).2.2.2]
    exact .enabled
  | clockRetired mode cur alone notBusy => exact slotMoves_retireRecord tied cur nofun notBusy
  | aliasRetired mode cur idle notBusy => exact slotMoves_retireRecord tied cur (fun a e => by cases e; exact idle) notBusy
  | @drained i d r slot =>
    have h0 : i ≠ 0 := by
      rintro rfl
      simp [legal.2] at slot
    have cur := current_handleOf h0 (legal.gen_ne_zero i) slot
    have closed := revokeAll_enterRetired cur
    change (s.revokeAll (s.handleOf i)).enterRetired i = _ at closed
    have revoked : s.SameLife (s.revoked (s.handleOf i)) := sameLife_of_slots (State.slots_revoked _)
    rw [closed]
    exact slotMoves_retired cur (.drained (.inr (.inr rfl))) _ rfl rfl (revoked.trans (sameLife_lowerTarget r))
  | @granted k l ph r free cur live =>
    have given : s.SameLife (s.putLease k (some l)) := sameLife_of_slots rfl
    exact (given.trans (sameLife_updRecord _ _)).moves
  | givenUp own held => exact slotMoves_giveUpLease own _ _
  | collected slot flags own => exact slotMoves_putSlot (Slot.move_collected (legal.1 _) own)

/-- A run of stages makes the moves of its command and no other. -/
theorem Run.slotMoves (r : Run cmd s t) (legal : SlotsLegal s) (tied : LeasesTied s) : SlotMoves cmd s t := by
  induction r with
  | refl => exact fun i => .same (.refl _)
  | tail run stage ih =>
    refine ih.trans ?_
    obtain ⟨legal, tied⟩ := leasesTied_tableProperty.run run ⟨legal, tied⟩
    cases stage with
    | quiet q => exact (sameLife_of_slots q.table.slots).moves
    | clock op => exact (sameLife_clockOp op).moves
    | list op => exact (sameLife_listOp op).moves
    | tenure op => exact slotMoves_tenureOp legal tied op

/-! ## Every command -/

theorem lifecycle_eq_free (c : Content) : c.lifecycle = .free ↔ c = .free := by
  match c with
  | .free => simp [Content.lifecycle]
  | .active ph r => cases ph <;> simp [Content.lifecycle]
  | .retired k => simp [Content.lifecycle]

theorem slot_carryOut_purge (i : SlotNo) : (carryOut s .purge).slot i = (s.slot i).purged :=
  (State.slot_of_slots (quiet_hold _ _).table.slots i).trans (slot_purgeAll i)

theorem slotMoves_exec (e : exec cmd s = .next t) (legal : SlotsLegal s) (tied : LeasesTied s) (reset : cmd ≠ .hardReset)
    (purge : ¬(cmd = .purge ∧ s.asked .purge)) : SlotMoves cmd s t := by
  obtain run | ⟨rfl, -⟩ | ⟨-, a, b, m, -, rfl⟩ | ⟨rfl, asked, -⟩ := exec_cases e
  · exact run.slotMoves legal tied
  · exact absurd rfl reset
  · have same : s.SameLife (releaseReset a b m s) := sameLife_of_slots (by unfold releaseReset; rfl)
    exact same.moves
  · exact absurd ⟨rfl, asked⟩ purge

/-- Settles O56: a hard reset and a purge write every slot anew; every other command is a run of stages, and each stage that
moves a slot makes a move of the table. -/
theorem lifecycleMoves : Obligations.LifecycleMoves := by
  intro cmd s t i legal tied e
  dsimp only
  by_cases reset : cmd = .hardReset
  · subst reset
    cases e
    have slot : (hardReset s).slot i = Slot.initial := by simp [hardReset, State.reset, State.slot]
    rw [slot]
    exact ⟨fun _ => .inl ⟨.inl rfl, rfl⟩, fun _ => rfl, fun other => absurd rfl other⟩
  by_cases purge : cmd = .purge ∧ s.asked .purge
  · obtain ⟨rfl, asked⟩ := purge
    have e := (exec_command asked).symm.trans e
    cases e
    rw [slot_carryOut_purge]
    refine ⟨fun _ => .inl ⟨.inr rfl, rfl⟩, nofun, fun _ => ?_⟩
    have free := lifecycle_eq_free (s.slot i).content
    have purged : ((s.slot i).purged).content.lifecycle = .free := rfl
    simp only [purged, reduceCtorEq, and_false, false_or, true_and, asked.1, asked.2, ne_eq, free]
    unfold Slot.purged
    by_cases q : (s.slot i).content = .free
    · simp [q]
    · rw [if_pos q]
      exact if_neg q
  have condition : ¬(cmd = .purge ∧ s.rstLow = false ∧ s.mgmt.req = .inProgress .purge ∧ (s.slot i).content.lifecycle ≠ .free) :=
    fun ⟨q, high, asked, _⟩ => purge ⟨q, high, asked⟩
  refine ⟨fun moved => ?_, fun q => absurd q reset, fun _ => ?_⟩
  · have move : LifeMove cmd i (s.slot i).content.lifecycle (t.slot i).content.lifecycle := by
      cases slotMoves_exec e legal tied reset purge i with
      | same h => exact absurd h.1.symm moved
      | ends h | moves h => exact h
    generalize (s.slot i).content.lifecycle = a at move
    generalize (t.slot i).content.lifecycle = b at move
    cases move with
    | clockCreated => simp
    | aliasCreated => simp
    | enabled => simp
    | retired ph active => cases ph <;> simp [← active, Phase.lifecycle]
    | drains => simp
    | drained own => simpa using .inr own
    | collected => simp
  · simp only [condition, or_false]
    cases slotMoves_exec e legal tied reset purge i with
    | same h =>
      obtain ⟨life, gen⟩ := h
      rw [life, gen, if_neg (by simp)]
    | moves h current gen => rw [gen, if_neg fun h => current h.2]
    | ends h retired gen =>
      have active : (s.slot i).content.lifecycle ≠ .retired := fun q => h.ne (q.trans retired.symm)
      rw [gen, if_pos ⟨active, retired⟩]
      rfl

end Sys2Proof.Machine
end

section
/-! SUPPORT. The reset state: every property the other statements carry from step to step holds of it (R38, R100). -/

namespace Sys2Proof.Machine

variable {s t : State} {cmd : Instr}

/-! ## Empty tables and empty ports -/

theorem State.leases_toList (s : State) : s.leases.toList = (List.finRange 16).map s.lease := by
  apply List.ext_getElem <;> simp [State.lease]

/-- Nothing of the leases is counted where there are none. -/
theorem Cleared.countP_leases (h : Cleared t) {p : Option Lease → Bool} (none : p none = false) : t.leases.toList.countP p = 0 := by
  rw [State.leases_toList, List.countP_map, List.countP_eq_zero]
  rintro k -
  simp [h.lease k, none]

/-- Every port's queues are empty, its credits whole and its leases none (R100). -/
def PortsFresh (t : State) : Prop :=
  ∀ n, (t.port n).requests = [] ∧ (t.port n).responses = [] ∧ (t.port n).credits = 8 ∧ (t.port n).leaseUse = 0

theorem Cleared.creditsBalance (h : Cleared t) (ports : PortsFresh t) : CreditsBalance t := by
  intro n
  obtain ⟨requests, responses, credits, -⟩ := ports n
  unfold State.unfetched
  rw [requests, responses, credits, h.deadlines]
  rfl

theorem Cleared.leaseUseBalance (h : Cleared t) (ports : PortsFresh t) : LeaseUseBalance t := by
  intro n
  obtain ⟨-, responses, -, leaseUse⟩ := ports n
  rw [responses, leaseUse]
  refine ⟨?_, Nat.zero_le _⟩
  have held : t.leasesOf n = 0 := h.countP_leases rfl
  rw [held]
  rfl

theorem slot_hardReset (s : State) (i : SlotNo) : (hardReset s).slot i = Slot.initial := by
  simp [hardReset, State.reset, State.slot]

theorem port_hardReset (s : State) (n : PortNo) : (hardReset s).port n = Port.initial := by
  simp [hardReset, State.reset, State.port]

theorem portsFresh_hardReset (s : State) : PortsFresh (hardReset s) := by
  intro n
  rw [port_hardReset]
  exact ⟨rfl, rfl, rfl, rfl⟩

theorem portsFresh_releaseReset (a b : BitVec 4) (m : Bool) (h : PortsFresh s) : PortsFresh (releaseReset a b m s) := by
  intro n
  rw [port_releaseReset]
  exact h n

/-- The release writes receivers only (R56). -/
theorem slots_releaseReset (a b : BitVec 4) (m : Bool) : (releaseReset a b m s).slots = s.slots := by
  unfold releaseReset
  rfl

theorem cleared_releaseReset (a b : BitVec 4) (m : Bool) (h : Cleared s) : Cleared (releaseReset a b m s) where
  slot i := by
    rw [State.slot_of_slots (slots_releaseReset a b m)]
    exact h.slot i
  lease := h.lease
  bindings := h.bindings
  deadlines := h.deadlines

/-! ## The reset state is sound -/

/-- The properties that hold of the reset state and that every step keeps. -/
def State.Sound (s : State) : Prop :=
  SlotsLegal s ∧ PartsLegal s ∧ CreditsBalance s ∧ LeaseUseBalance s ∧ LeasesTied s ∧ BindingsTied s ∧ DeadlinesTied s ∧
    s.deadlines.Pairwise (fun a b => a.precedes s.lt b = true)

theorem Cleared.sound (h : Cleared t) (ports : PortsFresh t) (parts : PartsLegal t) : t.Sound := by
  refine ⟨h.slotsLegal, parts, h.creditsBalance ports, h.leaseUseBalance ports, (leasesTied_tableProperty.cleared h).2,
    (bindingsTied_tableProperty.cleared h).2, (linked_tableProperty.cleared h).2.deadlinesTied, ?_⟩
  rw [h.deadlines]
  exact .nil

theorem sound_hardReset (s : State) : (hardReset s).Sound :=
  (cleared_hardReset s).sound (portsFresh_hardReset s) ⟨pinsLegal_hardReset s, fun _ => rfl⟩

theorem sound_releaseReset (s : State) (a b : BitVec 4) (m : Bool) : (releaseReset a b m (hardReset s)).Sound :=
  (cleared_releaseReset a b m (cleared_hardReset s)).sound (portsFresh_releaseReset a b m (portsFresh_hardReset s))
    ⟨pinsLegal_releaseReset a b m (pinsLegal_hardReset s), nofun⟩

/-- Settles O7: a hard reset leaves empty tables and fresh ports, its release changes receivers only, and State.reset is the
release with no pin asserted. -/
theorem resetStateIsSound : Obligations.ResetStateIsSound := by
  refine ⟨?_, fun s a b m => ⟨_, _, exec_hardReset s, sound_hardReset s, exec_resetRelease_low a b m (hardReset_rstLow s),
    sound_releaseReset s a b m⟩⟩
  have released := sound_releaseReset State.reset 0 0 false
  rw [releaseReset_hardReset] at released
  exact released

/-! ## The first creation (R38) -/

/-- No handle is current where every slot is FREE. -/
theorem Cleared.stale (h : Cleared t) (k : Handle) : t.current k = none :=
  Option.eq_none_iff_forall_ne_some.2 fun ⟨ph, r⟩ cur => by
    have := (State.current_eq_some.1 cur).2.2.2
    rw [(h.slot _).1] at this
    cases this

/-- The lowest-numbered FREE slot of an empty Record Table is slot 1 (R23). -/
theorem Cleared.freeSlot (h : Cleared t) : t.freeSlot = some 1 :=
  freeSlot_of_first (by decide) (h.slot 1).1 fun j pos before => absurd (Fin.lt_one_iff j |>.1 before) pos

/-- A handle that is not current is refused (R42). -/
theorem checkHandle_of_stale {h : Handle} (stale : s.current h = none) : ∃ st, checkHandle s h = .fail st h := by
  unfold checkHandle
  split
  next null => exact ⟨_, by rw [null]⟩
  · exact ⟨_, by rw [stale]⟩

theorem checkClock_of_stale {h : Handle} (stale : s.current h = none) : ∃ st, checkClock s h = .fail st h := by
  obtain ⟨st, e⟩ := checkHandle_of_stale stale
  exact ⟨st, by unfold checkClock; rw [e]⟩

theorem createClock_of_free {i : SlotNo} (free : s.freeSlot = some i) : createClock s =
    (s.create i (.ofClock ClockRecord.created)).hold .createClock (.ok (.newHandle (s.handleOf i))) := by
  unfold createClock
  rw [free]

theorem createAlias_of_fail {h f : Handle} {st : Status} (e : checkClock s h = .fail st f) :
    createAlias h s = s.hold .createAlias (.refused st f) := by
  unfold createAlias
  rw [e]

/-- The state with a management request in progress. -/
def State.asking (s : State) (q : MgmtRequest) : State := { s with mgmt := { s.mgmt with req := .inProgress q } }

theorem State.asked_asking {q : MgmtRequest} (s : State) (high : s.rstLow = false) : (s.asking q).asked q := ⟨high, rfl⟩

theorem State.slot_hold (code : MgmtCode) (a : MgmtAnswer) (i : SlotNo) : (s.hold code a).slot i = s.slot i := rfl

theorem State.slot_create (i j : SlotNo) (r : Record) : (s.create i r).slot j =
    if i = j then { gen := (s.slot i).gen, content := .active .reserved r, notices := 0 } else s.slot j :=
  State.slot_putSlot s i j _

/-- Settles O5: the release of a hard reset leaves every slot FREE at generation 1; CREATE-CLOCK takes slot 1, and
CREATE-ALIAS is refused at its handle. -/
theorem tableAfterHardReset : Obligations.TableAfterHardReset := by
  intro s a b m
  have cleared := cleared_releaseReset a b m (cleared_hardReset s)
  have slot (i : SlotNo) : (releaseReset a b m (hardReset s)).slot i = Slot.initial := by
    rw [State.slot_of_slots (slots_releaseReset a b m), slot_hardReset]
  have high : (releaseReset a b m (hardReset s)).rstLow = false := releaseReset_rstLow _ a b m
  have idle : (releaseReset a b m (hardReset s)).mgmt.req = .none := rfl
  refine ⟨hardReset s, releaseReset a b m (hardReset s), exec_hardReset s,
    exec_resetRelease_low a b m (hardReset_rstLow s), slot, cleared.lease, idle, ?_⟩
  generalize releaseReset a b m (hardReset s) = u at *
  refine ⟨⟨_, exec_command (u.asked_asking (q := .createClock) high), ?_⟩, fun h => ?_⟩
  · have created : carryOut (u.asking .createClock) .createClock = _ :=
      createClock_of_free (s := u.asking .createClock) cleared.freeSlot
    have same (i : SlotNo) : (u.asking .createClock).slot i = u.slot i := rfl
    rw [created]
    refine ⟨?_, ?_, fun i other => ?_⟩
    · rw [State.handleOf, same, slot]
      rfl
    · rw [State.slot_hold, State.slot_create, if_pos rfl, same, slot]
      rfl
    · rw [State.slot_hold, State.slot_create, if_neg other.symm, same]
  · obtain ⟨st, refused⟩ := checkClock_of_stale (s := u.asking (.createAlias h)) (cleared.stale h)
    refine ⟨st, (exec_command (u.asked_asking (q := .createAlias h) high)).trans ?_⟩
    exact congrArg Host.Outcome.next (createAlias_of_fail refused)

end Sys2Proof.Machine
end

section
/-! SUPPORT. The requests that set or read one item, and PURGE (R37, R39, R60, R114, R115, R181, R183, R187). -/

namespace Sys2Proof.Machine

variable {s t : State} {cmd : Instr}

/-! ## Port and input numbers -/

theorem portOfByte_eq_some {b : Byte} {n : Fin 4} (e : n.val = b.toNat) : portOfByte b = some n := by
  unfold portOfByte
  rw [dif_pos (e ▸ n.isLt)]
  exact congrArg some (Fin.ext e.symm)

theorem portOfByte_eq_none {b : Byte} (h : 4 ≤ b.toNat) : portOfByte b = none := dif_neg (Nat.not_lt.2 h)

/-! ## A transaction that loses its selection (R40, R117) -/

theorem loseSelection_fetch {x : Transaction Selection} {st : Byte} {k : Nat} {y : Selection} (e : x = .fetch st k (some y)) :
    loseSelection x = .fetch st k (some { y with inQueue := false }) := by
  rw [e]
  rfl

theorem loseSelection_other {x : Transaction Selection} (e : ∀ st k y, x ≠ .fetch st k (some y)) : loseSelection x = x := by
  match x with
  | .fetch st k (some y) => exact absurd rfl (e st k y)
  | .fetch st k none | .idle | .kind .. | .request .. | .blocked => rfl

/-! ## PURGE (R39, R187) -/

theorem State.input_hold (code : MgmtCode) (a : MgmtAnswer) (i : InputNo) : (s.hold code a).input i = s.input i := rfl

theorem State.port_hold (code : MgmtCode) (a : MgmtAnswer) (n : PortNo) : (s.hold code a).port n = s.port n := rfl

theorem input_purgeAll (i : InputNo) : (purgeAll s).input i = (s.input i).purged := by simp [purgeAll, State.input]

theorem port_purgeAll (n : PortNo) : (purgeAll s).port n = (s.port n).purgedOut := by simp [purgeAll, State.port]

/-- Settles O55: `purgeAll` written out, slot by slot, input by input and port by port. -/
theorem purge : Obligations.Purge := by
  intro s asked
  have input (i : InputNo) : ((purgeAll s).hold .purge (.ok (.time s.lt))).input i = (s.input i).purged := by
    rw [State.input_hold, input_purgeAll]
  have port (n : PortNo) : ((purgeAll s).hold .purge (.ok (.time s.lt))).port n = (s.port n).purgedOut := by
    rw [State.port_hold, port_purgeAll]
  refine ⟨_, exec_command asked, ?_, slot_carryOut_purge, input, fun n => ⟨loseSelection (s.port n).tx, port n, fun _ _ _ =>
    loseSelection_fetch, loseSelection_other⟩⟩
  unfold carryOut State.hold purgeAll
  rfl

/-! ## Settings and reads -/

theorem offsetInRange_iff {o : Int} : offsetInRange o = true ↔ -1048576 ≤ o ∧ o ≤ 1048575 := by
  simp [offsetInRange]

theorem setInputOffset_of_bad {b : Byte} {o : Int} (bad : 4 ≤ b.toNat ∨ offsetInRange o = false) :
    setInputOffset b o s = s.hold .setInputOffset (.refused .badValue Handle.null) := by
  unfold setInputOffset
  split
  · rfl
  next i e =>
    refine if_pos (bad.resolve_left fun large => ?_)
    rw [portOfByte_eq_none large] at e
    cases e

theorem setPortLevel_of_bad {b l : Byte} (bad : 4 ≤ b.toNat ∨ 3 < l.toNat) :
    setPortLevel b l s = s.hold .setPortLevel (.refused .badValue Handle.null) := by
  unfold setPortLevel
  split
  · rfl
  next i e =>
    refine if_pos (bad.resolve_left fun large => ?_)
    rw [portOfByte_eq_none large] at e
    cases e

theorem setInputOffset_of_good {b : Byte} {o : Int} {i : InputNo} (e : portOfByte b = some i) (good : offsetInRange o = true) :
    setInputOffset b o s =
      (s.updInput i fun x => { x with offset := o }).hold .setInputOffset (.ok (.offset (s.input i).offset)) := by
  unfold setInputOffset
  rw [e]
  exact if_neg (by simp [good])

theorem setPortLevel_of_good {b l : Byte} {n : PortNo} (e : portOfByte b = some n) (good : l.toNat ≤ 3) :
    setPortLevel b l s =
      (s.updPort n fun p => { p with level := l.toNat }).hold .setPortLevel (.ok (.level (s.port n).level)) := by
  unfold setPortLevel
  rw [e]
  exact if_neg (Nat.not_lt.2 good)

theorem readPort_of_bad {b : Byte} (bad : 4 ≤ b.toNat) :
    readPort b s = s.hold .readPort (.refused .badValue Handle.null) := by
  unfold readPort
  rw [portOfByte_eq_none bad]

theorem readPort_of_good {b : Byte} {n : PortNo} (e : portOfByte b = some n) :
    readPort b s = s.hold .readPort (.ok (.port ((s.port n).snapshot s.lt))) := by
  unfold readPort
  rw [e]

/-- The mask is the low thirteen bits of the set named (R183). -/
theorem maskOf_toNat (k : BitVec 14) : (maskOf k).toNat = k.toNat % 2 ^ 13 := by
  have low : (0x1fff : NoticeSet).toNat = 2 ^ 13 - 1 := rfl
  unfold maskOf
  rw [BitVec.toNat_and, low, Nat.and_two_pow_sub_one_eq_mod, BitVec.toNat_setWidth]
  have := k.isLt
  omega

theorem pendingEntry_of_none {a : AliasRecord} (pending : a.pendingSplice = none) : s.pendingEntry a = none := by
  unfold State.pendingEntry
  simp only [pending]

theorem pendingEntry_of_entry {a : AliasRecord} {e : DeadlineEntry} {o : Origin} {h k : Handle}
    (pending : a.pendingSplice = some e.order) (entry : s.entryAt e.order = some e) (work : e.work = .splice o h k) :
    s.pendingEntry a = some (e, o, k) := by
  unfold State.pendingEntry
  simp only [pending, entry, work]

theorem snapshot_splice_ofAlias {i : SlotNo} {ph : Phase} {a : AliasRecord} (e : (s.slot i).content = .active ph (.ofAlias a)) :
    (s.snapshot i).splice = (s.pendingEntry a).map fun x => (x.2.2, x.1.due) := by
  unfold State.snapshot
  simp only [e]

theorem snapshot_splice_other {i : SlotNo} (e : ∀ ph a, (s.slot i).content ≠ .active ph (.ofAlias a)) :
    (s.snapshot i).splice = none := by
  unfold State.snapshot
  dsimp only
  split
  next ph a active => exact absurd active (e ph a)
  all_goals rfl

/-- REVOKED notices are the entries of a response queue that hold no credit (R105, R108). -/
theorem countP_isRevoked (l : List ResponseEntry) : l.countP ResponseEntry.isRevoked = (l.filter fun e => !e.credited).length := by
  rw [List.countP_eq_length_filter]
  simp only [ResponseEntry.credited, Bool.not_not]

/-- Settles O52: each request's function at its bad and at its good values. -/
theorem settingsAndReads : Obligations.SettingsAndReads := by
  intro s b
  refine ⟨fun o asked => ⟨fun bad => ?_, fun i e low high => ?_⟩, fun l asked => ⟨fun bad => ?_, fun n e low => ?_⟩,
    fun k asked => ⟨maskOf k, maskOf_toNat k, exec_command asked⟩, fun asked => ⟨fun zero => ?_, fun i e pos => ?_⟩,
    fun asked => ⟨fun bad => ?_, fun n e => ?_⟩, exec_command, exec_command⟩
  · refine exec_asked asked (setInputOffset_of_bad (bad.imp_right fun out => ?_))
    rw [← Bool.not_eq_true, offsetInRange_iff]
    omega
  · refine exec_asked asked (setInputOffset_of_good (portOfByte_eq_some e) ?_)
    exact offsetInRange_iff.2 ⟨low, high⟩
  · exact exec_asked asked (setPortLevel_of_bad bad)
  · exact exec_asked asked (setPortLevel_of_good (portOfByte_eq_some e) low)
  · exact exec_asked asked (if_pos zero)
  · obtain rfl : b.toFin = i := Fin.ext e.symm
    refine ⟨s.snapshot b.toFin, exec_asked asked (if_neg pos), rfl, rfl, rfl, fun ph a active => ⟨fun none => ?_, ?_⟩,
      snapshot_splice_other⟩
    · rw [snapshot_splice_ofAlias active, pendingEntry_of_none none]
      rfl
    · intro e o h k pending entry work
      rw [snapshot_splice_ofAlias active, pendingEntry_of_entry pending entry work]
      rfl
  · exact exec_asked asked (readPort_of_bad bad)
  · refine (exec_asked asked (readPort_of_good (portOfByte_eq_some e))).trans ?_
    unfold Port.snapshot
    rw [countP_isRevoked]

end Sys2Proof.Machine
end

section
/-! SUPPORT. NEXT-NOTICE: the first input or slot with an unmasked flag, and what its collection leaves (R35, R184 to R186). -/

namespace Sys2Proof.Machine

variable {s t : State} {cmd : Instr}

/-! ## Unmasked flags -/

/-- The flags reported are taken away: of a slot's flags, those stay whose kinds are masked (R185). -/
theorem NoticeSet.and_not_unmasked (n m : NoticeSet) : n &&& ~~~(unmasked m n) = n &&& m := by
  unfold unmasked
  ext i bound
  simp only [BitVec.getElem_and, BitVec.getElem_not]
  cases n[i] <;> simp

/-- DRAINED is never masked (R183). -/
theorem noticed_unmasked_drained {mask flags : NoticeSet} (unmaskable : mask &&& 0xe000 = 0) (set : noticed flags .drained = true) :
    noticed (unmasked mask flags) .drained = true := by
  have bit : mask.getLsbD 13 = false := by
    have zero : (mask &&& 0xe000).getLsbD 13 = false := by rw [unmaskable]; rfl
    have drained : (0xe000 : NoticeSet).getLsbD 13 = true := by decide
    rw [BitVec.getLsbD_and, drained, Bool.and_true] at zero
    exact zero
  unfold noticed unmasked at *
  rw [BitVec.getLsbD_and, set, BitVec.getLsbD_not]
  change (true && (decide (13 < 16) && !mask.getLsbD 13)) = true
  rw [bit]
  rfl

/-! ## The first input or slot with an unmasked flag -/

theorem noticedInput_of_first {i : InputNo} (hit : unmasked s.mask (s.input i).notices ≠ 0)
    (first : ∀ j, j < i → unmasked s.mask (s.input j).notices = 0) : s.noticedInput = some i :=
  find?_finRange (by simpa using hit) fun j before => by simpa using first j before

theorem noticedInput_of_none (none : ∀ i, unmasked s.mask (s.input i).notices = 0) : s.noticedInput = .none :=
  List.find?_eq_none.2 fun i _ => by simpa using none i

/-- Slot 0, always FREE, has no notice (R13). -/
theorem SlotsLegal.ne_zero_of_notices {i : SlotNo} (legal : SlotsLegal s) (hit : unmasked s.mask (s.slot i).notices ≠ 0) : i ≠ 0 := by
  rintro rfl
  rw [((Slot.legal_free legal.2).1 (legal.1 0)).2] at hit
  exact hit BitVec.zero_and

theorem noticedSlot_of_first {i : SlotNo} (legal : SlotsLegal s) (hit : unmasked s.mask (s.slot i).notices ≠ 0)
    (first : ∀ j, j < i → unmasked s.mask (s.slot j).notices = 0) : s.noticedSlot = some i :=
  find?_finRange (by simpa using ⟨legal.ne_zero_of_notices hit, hit⟩) fun j before => by simp [first j before]

theorem noticedSlot_of_none (none : ∀ i, unmasked s.mask (s.slot i).notices = 0) : s.noticedSlot = .none :=
  List.find?_eq_none.2 fun i _ => by simp [none i]

/-! ## What a collection leaves -/

theorem Slot.collected_active {x : Slot} {ph : Phase} {r : Record} (m : NoticeSet) (legal : x.legal = true)
    (e : x.content = .active ph r) : x.collected (unmasked m x.notices) = { x with notices := x.notices &&& m } := by
  unfold Slot.collected
  rw [if_neg, NoticeSet.and_not_unmasked]
  intro drained
  have := noticed_of_unmasked drained
  rw [Slot.not_drained legal e] at this
  cases this

theorem Slot.collected_retired {x : Slot} {k : RecordKind} {m : NoticeSet} (unmaskable : m &&& 0xe000 = 0) (legal : x.legal = true)
    (e : x.content = .retired k) :
    x.collected (unmasked m x.notices) = { gen := x.gen, content := .free, notices := 0 } :=
  if_pos (noticed_unmasked_drained unmaskable ((Slot.legal_retired e).1 legal).2.1)

theorem reportedHandle_active {i : SlotNo} {ph : Phase} {r : Record} (e : (s.slot i).content = .active ph r) :
    s.reportedHandle i = s.handleOf i := by
  unfold State.reportedHandle
  rw [e]

theorem reportedHandle_retired {i : SlotNo} {k : RecordKind} (e : (s.slot i).content = .retired k) :
    s.reportedHandle i = { slot := i, gen := prevGen (s.slot i).gen } := by
  unfold State.reportedHandle
  rw [e]

theorem kind_active (ph : Phase) (r : Record) : (Content.active ph r).kind = some r.kind := by cases r <;> rfl

/-! ## NEXT-NOTICE by what is first -/

theorem nextNotice_of_input {i : InputNo} (first : s.noticedInput = some i) : nextNotice s =
    (s.updInput i fun x => { x with notices := x.notices &&& ~~~unmasked s.mask (s.input i).notices }).hold .nextNotice
      (.ok (.notice (.input i (unmasked s.mask (s.input i).notices)))) := by
  unfold nextNotice
  rw [first]

theorem nextNotice_of_slot {i : SlotNo} (inputs : s.noticedInput = none) (first : s.noticedSlot = some i) : nextNotice s =
    (s.putSlot i ((s.slot i).collected (unmasked s.mask (s.slot i).notices))).hold .nextNotice
      (.ok (.notice (.slot (s.reportedHandle i) (unmasked s.mask (s.slot i).notices) (s.slot i).content.lifecycle
        (s.slot i).content.kind))) := by
  unfold nextNotice
  rw [inputs]
  dsimp only
  rw [first]

theorem nextNotice_of_none (inputs : s.noticedInput = none) (slots : s.noticedSlot = none) :
    nextNotice s = s.hold .nextNotice (.ok (.notice .empty)) := by
  unfold nextNotice
  rw [inputs]
  dsimp only
  rw [slots]

/-- An input's update reads that input only. -/
theorem State.updInput_congr {n : InputNo} {f g : Input → Input} (e : f (s.input n) = g (s.input n)) :
    s.updInput n f = s.updInput n g := by
  unfold State.updInput
  simp only [e]

/-- ATTN_N is released exactly where no input and no slot has an unmasked flag (R184). -/
theorem attention_eq_false : s.attention = false ↔
    (∀ i, unmasked s.mask (s.input i).notices = 0) ∧ ∀ i, unmasked s.mask (s.slot i).notices = 0 := by
  have inputs : s.inputs.toList = (List.finRange 4).map s.input := by
    apply List.ext_getElem <;> simp [State.input]
  have slots : s.slots.toList = (List.finRange 256).map s.slot := by
    apply List.ext_getElem <;> simp [State.slot]
  unfold State.attention
  rw [inputs, slots]
  simp

/-- Settles O54: by the first input with an unmasked flag, else the first slot, else none. -/
theorem nextNoticeHolds : Obligations.NextNotice := by
  intro s asked legal parts
  have unmaskable : s.mask &&& 0xe000 = 0 := parts.1.2.2.2
  refine ⟨fun i hit first => ?_, fun inputs => ⟨fun i hit first => ⟨fun ph r e => ?_, fun k e => ?_⟩, fun slots => ?_⟩, ?_⟩
  · refine exec_asked asked ((nextNotice_of_input (noticedInput_of_first hit first)).trans ?_)
    exact congrArg (fun u : State => u.hold .nextNotice _) (State.updInput_congr
      (congrArg (fun n => { s.input i with notices := n }) (NoticeSet.and_not_unmasked _ _)))
  · refine exec_asked asked ((nextNotice_of_slot (noticedInput_of_none inputs) (noticedSlot_of_first legal hit first)).trans ?_)
    have life : (s.slot i).content.lifecycle = ph.lifecycle := by rw [e, lifecycle_active]
    have kind : (s.slot i).content.kind = some r.kind := by rw [e, kind_active]
    rw [Slot.collected_active s.mask (legal.1 i) e, reportedHandle_active e, life, kind]
    rfl
  · refine exec_asked asked ((nextNotice_of_slot (noticedInput_of_none inputs) (noticedSlot_of_first legal hit first)).trans ?_)
    rw [Slot.collected_retired unmaskable (legal.1 i) e, reportedHandle_retired e, e]
    rfl
  · exact exec_asked asked (nextNotice_of_none (noticedInput_of_none inputs) (noticedSlot_of_none slots))
  · unfold attentionPin
    rw [asked.1, Bool.not_false, Bool.true_and]
    exact attention_eq_false

end Sys2Proof.Machine
end

section
/-! SUPPORT. Creation and enabling, and what the management requests refuse (R16, R21, R23 to R25, R53). -/

namespace Sys2Proof.Machine

variable {s t : State} {cmd : Instr} {h f : Handle} {st : Status} {ph : Phase}

/-! ## The handle checks, by what the handle names -/

theorem checkClock_of_fail (e : checkHandle s h = .fail st f) : checkClock s h = .fail st f := by
  unfold checkClock
  rw [e]

theorem checkClock_ofAlias {a : AliasRecord} (cur : s.current h = some (ph, .ofAlias a)) :
    checkClock s h = .fail .wrongKind h := by
  unfold checkClock
  rw [checkHandle_of_current cur]

/-! ## CREATE-CLOCK, CREATE-ALIAS and ENABLE (R23 to R25) -/

theorem createClock_of_full (full : s.freeSlot = none) :
    createClock s = s.hold .createClock (.refused .tableFull Handle.null) := by
  unfold createClock
  rw [full]

theorem createAlias_of_draining {c : ClockRecord} (cur : s.current h = some (ph, .ofClock c)) (drains : ph.isDraining = true) :
    createAlias h s = s.hold .createAlias (.refused .draining h) := by
  unfold createAlias
  rw [checkClock_of_current cur]
  exact if_pos drains

theorem createAlias_of_full {c : ClockRecord} (cur : s.current h = some (ph, .ofClock c)) (active : ph.isDraining = false)
    (full : s.freeSlot = none) : createAlias h s = s.hold .createAlias (.refused .tableFull Handle.null) := by
  unfold createAlias
  rw [checkClock_of_current cur]
  dsimp only
  rw [if_neg (by simp [active]), full]

theorem createAlias_of_free {c : ClockRecord} {i : SlotNo} (cur : s.current h = some (ph, .ofClock c))
    (active : ph.isDraining = false) (free : s.freeSlot = some i) : createAlias h s =
      ((s.raiseAliasCount h).create i (.ofAlias (AliasRecord.created h))).hold .createAlias (.ok (.newHandle (s.handleOf i))) := by
  unfold createAlias
  rw [checkClock_of_current cur]
  dsimp only
  rw [if_neg (by simp [active]), free]

theorem enable_of_reserved {r : Record} (cur : s.current h = some (.reserved, r)) :
    enable h s = (s.withRecord h.slot .live (r.enabled s.lt) 0).hold .enable (.ok .none) := by
  have same : s.putContent h.slot (.active .live (r.enabled s.lt)) = s.withRecord h.slot .live (r.enabled s.lt) 0 := by
    simp [State.putContent, State.withRecord]
  unfold enable
  rw [checkHandle_of_current cur]
  dsimp only
  rw [same]

theorem enable_of_live {r : Record} (cur : s.current h = some (.live, r)) :
    enable h s = s.hold .enable (.refused .notLive h) := by
  unfold enable
  rw [checkHandle_of_current cur]

theorem enable_of_draining {r : Record} (cur : s.current h = some (ph, r)) (drains : ph.isDraining = true) :
    enable h s = s.hold .enable (.refused .draining h) := by
  unfold enable
  rw [checkHandle_of_current cur]
  cases ph with
  | draining d => rfl
  | reserved | live => cases drains

theorem Record.enabled_ofClock (c : ClockRecord) (now : LocalTime) : (Record.ofClock c).enabled now =
    .ofClock { c with silence := if c.lock = .acquiring then some (c.freshSilence now) else c.silence } := by
  unfold Record.enabled
  dsimp only
  split <;> rfl

/-- Settles O48: each request's function where its slot is found and where it is not. -/
theorem creationAndEnabling : Obligations.CreationAndEnabling := by
  refine ⟨fun s asked full => exec_asked asked (createClock_of_full (freeSlot_of_full full)), fun s i pos free first => ?_,
    fun s h asked => ⟨fun c cur => ?_, fun a cur => exec_asked asked (enable_of_reserved cur)⟩⟩
  · have slot := freeSlot_of_first pos free first
    refine ⟨fun asked => exec_asked asked (createClock_of_free slot), fun target ph c asked cur active => ?_⟩
    refine exec_asked asked ((createAlias_of_free cur active slot).trans ?_)
    have same : (s.withRecord target.slot ph (.ofClock { c with aliasCount := c.aliasCount + 1 }) 0).slot i = s.slot i := by
      rw [State.slot_withRecord, if_neg]
      rintro rfl
      rw [(State.current_eq_some.1 cur).2.2.2] at free
      cases free
    unfold State.raiseAliasCount State.create
    rw [State.updClock_of_current _ cur, same]
    rfl
  · refine exec_asked asked ((enable_of_reserved cur).trans ?_)
    rw [Record.enabled_ofClock]

/-! ## The refusals of a named record (R16, R21, R53) -/

theorem setAnchor_of_draining {c : ClockRecord} {rv : RefValue} {trim : Int} (cur : s.current h = some (ph, .ofClock c))
    (drains : ph.isDraining = true) : setAnchor h rv trim s = s.hold .setAnchor (.refused .draining h) := by
  unfold setAnchor
  rw [checkClock_of_current cur]
  exact if_pos drains

theorem trimInRange_eq_false {trim : Int} (out : trim < -1048576 ∨ 1048576 < trim) : trimInRange trim = false := by
  have limit : Config.trimLimit = 1048576 := rfl
  unfold trimInRange
  rw [limit, Bool.and_eq_false_iff, decide_eq_false_iff_not, decide_eq_false_iff_not]
  omega

theorem setAnchor_of_trim {c : ClockRecord} {rv : RefValue} {trim : Int} (cur : s.current h = some (ph, .ofClock c))
    (active : ph.isDraining = false) (out : trimInRange trim = false) :
    setAnchor h rv trim s = s.hold .setAnchor (.refused .badValue Handle.null) := by
  unfold setAnchor
  rw [checkClock_of_current cur]
  dsimp only
  rw [if_neg (by simp [active]), if_pos out]

theorem selectSource_of_unbound {c : ClockRecord} {role : Role} (cur : s.current h = some (ph, .ofClock c))
    (unbound : s.roleBound h role = false) :
    selectSource h role s = s.hold .selectSource (.refused .notFound Handle.null) := by
  unfold selectSource
  rw [checkClock_of_current cur]
  exact if_pos unbound

theorem setAnchor_of_fail {rv : RefValue} {trim : Int} (e : checkClock s h = .fail st f) :
    setAnchor h rv trim s = s.hold .setAnchor (.refused st f) := by
  unfold setAnchor
  rw [e]

theorem selectSource_of_fail {role : Role} (e : checkClock s h = .fail st f) :
    selectSource h role s = s.hold .selectSource (.refused st f) := by
  unfold selectSource
  rw [e]

theorem bindTag_of_fail {input : Byte} {tag : StreamTag} {role : Role} (e : checkBind s input tag h role = .fail st f) :
    bindTag input tag h role s = s.hold .bind (.refused st f) := by
  unfold bindTag
  rw [e]

theorem configure_of_fail {cs : List Change} (e : checkHandle s h = .fail st f) :
    configure h cs s = s.hold .configure (.refused st f) := by
  unfold configure
  rw [e]

theorem enable_of_fail (e : checkHandle s h = .fail st f) : enable h s = s.hold .enable (.refused st f) := by
  unfold enable
  rw [e]

theorem retire_of_fail {mode : RetireMode} (e : checkHandle s h = .fail st f) :
    retire h mode s = s.hold .retire (.refused st f) := by
  unfold retire
  rw [e]

theorem checkBind_of_fail {input : Byte} {tag : StreamTag} {role : Role} (e : checkHandle s h = .fail st f) :
    checkBind s input tag h role = .fail st f := by
  unfold checkBind
  rw [e]

theorem checkBind_ofAlias {input : Byte} {tag : StreamTag} {role : Role} {a : AliasRecord}
    (cur : s.current h = some (ph, .ofAlias a)) (port : input.toNat < 4) :
    checkBind s input tag h role = .fail .wrongKind h := by
  unfold checkBind
  rw [checkHandle_of_current cur]
  dsimp only
  rw [portOfByte_eq_some (n := ⟨input.toNat, port⟩) rfl]
  exact if_pos rfl

theorem checkBind_of_draining {input : Byte} {tag : StreamTag} {role : Role} {c : ClockRecord}
    (cur : s.current h = some (ph, .ofClock c)) (drains : ph.isDraining = true) (port : input.toNat < 4) :
    checkBind s input tag h role = .fail .draining h := by
  unfold checkBind
  rw [checkHandle_of_current cur]
  dsimp only
  rw [portOfByte_eq_some (n := ⟨input.toNat, port⟩) rfl]
  exact (if_neg (by simp [Record.kind])).trans (if_pos drains)

/-- The requests that name one record, each with its event. -/
def recordRequests (h : Handle) (cs : List Change) (mode : RetireMode) (input : Byte) (tag : StreamTag) (role : Role)
    (rv : RefValue) (trim : Int) : List (Instr × MgmtRequest) :=
  [(.createAlias, .createAlias h), (.configure, .configure h cs), (.enable, .enable h), (.retire, .retire h mode),
    (.bind, .bind input tag h role), (.setAnchor, .setAnchor h rv trim), (.selectSource, .selectSource h role)]

section
variable {cs : List Change} {mode : RetireMode} {input : Byte} {tag : StreamTag} {role : Role} {rv : RefValue} {trim : Int}
  {x y : Instr × MgmtRequest}

theorem command_recordRequests (mem : x ∈ recordRequests h cs mode input tag role rv trim) : x.2.command = x.1 := by
  simp only [recordRequests, List.mem_cons, List.not_mem_nil, or_false] at mem
  obtain rfl | rfl | rfl | rfl | rfl | rfl | rfl := mem <;> rfl

/-- Every such request checks its handle first. -/
theorem carryOut_recordRequests (mem : x ∈ recordRequests h cs mode input tag role rv trim) (e : checkHandle s h = .fail st f) :
    carryOut s x.2 = s.hold x.2.code (.refused st f) := by
  simp only [recordRequests, List.mem_cons, List.not_mem_nil, or_false] at mem
  obtain rfl | rfl | rfl | rfl | rfl | rfl | rfl := mem
  · exact createAlias_of_fail (checkClock_of_fail e)
  · exact configure_of_fail e
  · exact enable_of_fail e
  · exact retire_of_fail e
  · exact bindTag_of_fail (checkBind_of_fail e)
  · exact setAnchor_of_fail (checkClock_of_fail e)
  · exact selectSource_of_fail (checkClock_of_fail e)

/-- One request of them has each event. -/
theorem recordRequests_inj (mem : x ∈ recordRequests h cs mode input tag role rv trim)
    (mem' : y ∈ recordRequests h cs mode input tag role rv trim) (e : x.1 = y.1) : x = y := by
  refine List.inj_on_of_nodup_map (f := Prod.fst) ?_ mem mem' e
  simp [recordRequests]

end

/-! ## What is refused changes nothing -/

/-- A request ends in a refusal that changes nothing but the held response, or is answered with results. -/
def Answered (q : MgmtRequest) (s t : State) : Prop :=
  (∃ st f, t = s.hold q.code (.refused st f)) ∨ ∃ (u : State) (x : MgmtResult), t = u.hold q.code (.ok x)

theorem Answered.refused {q : MgmtRequest} (st : Status) (f : Handle) : Answered q s (s.hold q.code (.refused st f)) :=
  .inl ⟨st, f, rfl⟩

theorem Answered.ok {q : MgmtRequest} (u : State) (x : MgmtResult) : Answered q s (u.hold q.code (.ok x)) := .inr ⟨u, x, rfl⟩

/-- Every branch of every request's function ends in one of the two. -/
theorem carryOut_answered (q : MgmtRequest) (s : State) : Answered q s (carryOut s q) := by
  cases q with
  | readIdentity | readTime | setMask | purge => exact .ok _ _
  | createClock =>
    change Answered _ _ (createClock s)
    unfold createClock
    repeat' split
    exacts [.refused _ _, .ok _ _]
  | createAlias h =>
    change Answered _ _ (createAlias h s)
    unfold createAlias
    repeat' split
    exacts [.refused _ _, .refused _ _, .refused _ _, .ok _ _]
  | configure h cs =>
    change Answered _ _ (configure h cs s)
    unfold configure
    repeat' split
    exacts [.refused _ _, .refused _ _, .ok _ _]
  | enable h =>
    change Answered _ _ (enable h s)
    unfold enable
    repeat' split
    exacts [.refused _ _, .ok _ _, .refused _ _, .refused _ _]
  | retire h mode =>
    change Answered _ _ (retire h mode s)
    unfold retire
    repeat' split
    exacts [.refused _ _, .refused _ _, .ok _ _]
  | readRecord n =>
    change Answered _ _ (readRecord n s)
    unfold readRecord
    repeat' split
    exacts [.refused _ _, .ok _ _]
  | bind input tag h role =>
    change Answered _ _ (bindTag input tag h role s)
    unfold bindTag
    repeat' split
    exacts [.refused _ _, .ok _ _]
  | unbind input tag =>
    change Answered _ _ (unbindTag input tag s)
    unfold unbindTag
    repeat' split
    exacts [.refused _ _, .refused _ _, .ok _ _]
  | setInputOffset input o =>
    change Answered _ _ (setInputOffset input o s)
    unfold setInputOffset
    repeat' split
    exacts [.refused _ _, .refused _ _, .ok _ _]
  | setAnchor h rv trim =>
    change Answered _ _ (setAnchor h rv trim s)
    unfold setAnchor
    repeat' split
    exacts [.refused _ _, .refused _ _, .refused _ _, .ok _ _]
  | selectSource h role =>
    change Answered _ _ (selectSource h role s)
    unfold selectSource
    repeat' split
    exacts [.refused _ _, .refused _ _, .ok _ _, .ok _ _]
  | setPortLevel n l =>
    change Answered _ _ (setPortLevel n l s)
    unfold setPortLevel
    repeat' split
    exacts [.refused _ _, .refused _ _, .ok _ _]
  | portReset n =>
    change Answered _ _ (portReset n s)
    unfold portReset
    repeat' split
    exacts [.refused _ _, .ok _ _]
  | readPort n =>
    change Answered _ _ (readPort n s)
    unfold readPort
    repeat' split
    exacts [.refused _ _, .ok _ _]
  | retarget h k =>
    change Answered _ _ (mgmtRetarget h k s)
    unfold mgmtRetarget
    repeat' split
    exacts [.refused _ _, .refused _ _, .ok _ _]
  | splice h k d =>
    change Answered _ _ (mgmtSplice h k d s)
    unfold mgmtSplice
    repeat' split
    exacts [.refused _ _, .refused _ _, .ok _ _, .refused _ _, .ok _ _]
  | unsplice h =>
    change Answered _ _ (mgmtUnsplice h s)
    unfold mgmtUnsplice
    repeat' split
    exacts [.refused _ _, .refused _ _, .ok _ _]
  | nextNotice =>
    change Answered _ _ (nextNotice s)
    unfold nextNotice
    repeat' split
    exacts [.ok _ _, .ok _ _, .ok _ _]

/-- Settles O47: each request's function at the handle check it fails; and a request that refuses has changed nothing. -/
theorem managementRefusals : Obligations.ManagementRefusals := by
  refine ⟨fun s h cs mode input tag role rv trim high x mem progress => ?_, fun x mem s t r code st f progress e held => ?_⟩
  · have command : x.2.command = x.1 := command_recordRequests mem
    have asked : s.asked x.2 := ⟨high, progress⟩
    have ends {u : State} (e : carryOut s x.2 = u) : exec x.1 s = .next u := command ▸ exec_asked asked e
    have one {y : Instr × MgmtRequest} (mem' : y ∈ recordRequests h cs mode input tag role rv trim) (e : x.1 = y.1) : x = y :=
      recordRequests_inj mem mem' e
    refine ⟨?_, fun named stale => ends (carryOut_recordRequests mem (checkHandle_stale named stale)), ?_, ?_, ?_, ?_, ?_, ?_⟩
    · rintro rfl
      exact ends (carryOut_recordRequests mem checkHandle_null)
    · rintro ph a cur (e | e | e | ⟨e, port⟩)
      · obtain rfl := one (y := (.createAlias, .createAlias h)) (by simp [recordRequests]) e
        exact ends (createAlias_of_fail (checkClock_ofAlias cur))
      · obtain rfl := one (y := (.setAnchor, .setAnchor h rv trim)) (by simp [recordRequests]) e
        exact ends (setAnchor_of_fail (checkClock_ofAlias cur))
      · obtain rfl := one (y := (.selectSource, .selectSource h role)) (by simp [recordRequests]) e
        exact ends (selectSource_of_fail (checkClock_ofAlias cur))
      · obtain rfl := one (y := (.bind, .bind input tag h role)) (by simp [recordRequests]) e
        exact ends (bindTag_of_fail (checkBind_ofAlias cur port))
    · rintro ph c cur drains (e | e | ⟨e, port⟩)
      · obtain rfl := one (y := (.createAlias, .createAlias h)) (by simp [recordRequests]) e
        exact ends (createAlias_of_draining cur drains)
      · obtain rfl := one (y := (.setAnchor, .setAnchor h rv trim)) (by simp [recordRequests]) e
        exact ends (setAnchor_of_draining cur drains)
      · obtain rfl := one (y := (.bind, .bind input tag h role)) (by simp [recordRequests]) e
        exact ends (bindTag_of_fail (checkBind_of_draining cur drains port))
    · intro ph r cur e
      obtain rfl := one (y := (.enable, .enable h)) (by simp [recordRequests]) e
      refine ⟨?_, fun drains => ends (enable_of_draining cur drains)⟩
      rintro rfl
      exact ends (enable_of_live cur)
    · intro ph c cur active e out
      obtain rfl := one (y := (.setAnchor, .setAnchor h rv trim)) (by simp [recordRequests]) e
      exact ends (setAnchor_of_trim cur active (trimInRange_eq_false out))
    · intro ph c cur e unbound
      obtain rfl := one (y := (.selectSource, .selectSource h role)) (by simp [recordRequests]) e
      exact ends (selectSource_of_unbound cur unbound)
    · intro ph c cur active e full
      obtain rfl := one (y := (.createAlias, .createAlias h)) (by simp [recordRequests]) e
      exact ends (createAlias_of_full cur active (freeSlot_of_full full))
  · obtain rfl | ⟨q, asked, rfl⟩ := exec_owner mem e
    · rw [progress] at held
      cases held
    · obtain rfl : q = r := by simpa using asked.2.symm.trans progress
      obtain ⟨st', f', e⟩ | ⟨u, y, e⟩ := carryOut_answered q s <;> rw [e] at held ⊢ <;> cases held
      exact ⟨rfl, rfl⟩

end Sys2Proof.Machine
end

section
/-! SUPPORT. CONFIGURE: the changes of a request taken together, field by field (R26 to R28, R195). -/

namespace Sys2Proof.Machine

variable {s t : State} {cmd : Instr} {h : Handle} {ph : Phase}

/-! ## The fields by number, with their ranges (R195) -/

/-- The identifier of a field (R195). -/
def ConfigField.number : ConfigField → Nat
  | .level => 1
  | .useSet => 2
  | .lockWindow => 3
  | .jumpLimit => 4
  | .jumpPolicy => 5
  | .rejectLimit => 6
  | .enterCount => 7
  | .gainShift => 8
  | .silenceMs => 9
  | .holdoverMs => 10
  | .farEarly => 11
  | .lateTolerance => 12
  | .drainMs => 13
  | .leaveCount => 14

/-- The least and the greatest value of a field (R17, R195). -/
def ConfigField.bounds : ConfigField → Nat × Nat
  | .level => (0, 3)
  | .useSet => (0, 15)
  | .lockWindow => (1, 65535)
  | .jumpLimit => (0, 2 ^ 31 - 1)
  | .jumpPolicy => (0, 1)
  | .rejectLimit => (1, 15)
  | .enterCount => (1, 15)
  | .gainShift => (0, 15)
  | .silenceMs => (1, 65535)
  | .holdoverMs => (0, 65535)
  | .farEarly => (1, 2 ^ 32 - 1)
  | .lateTolerance => (0, 2 ^ 32 - 1)
  | .drainMs => (1, 65535)
  | .leaveCount => (1, 15)

/-- The fields in the order of their identifiers. -/
def ConfigField.all : List ConfigField :=
  [.level, .useSet, .lockWindow, .jumpLimit, .jumpPolicy, .rejectLimit, .enterCount, .gainShift, .silenceMs, .holdoverMs,
    .farEarly, .lateTolerance, .drainMs, .leaveCount]

theorem ConfigField.mem_all (f : ConfigField) : f ∈ ConfigField.all := by cases f <;> decide

theorem configField_number (f : ConfigField) : configField (BitVec.ofNat 8 f.number) = some f := by cases f <;> rfl

theorem ConfigField.number_inj {f g : ConfigField} (e : f.number = g.number) : f = g := by
  have := configField_number f
  rw [e, configField_number g] at this
  exact (Option.some_inj.1 this).symm

theorem configField_eq_some {id : Byte} {f : ConfigField} : configField id = some f ↔ id.toNat = f.number := by
  have small : f.number % 2 ^ 8 = f.number := by cases f <;> rfl
  constructor
  · intro e
    unfold configField at e
    iterate 14
      obtain ⟨q, e⟩ | ⟨-, e⟩ := ite_eq_iff.1 e
      · cases e
        rw [q]
        rfl
    cases e
  · intro e
    have id_eq : id = BitVec.ofNat 8 f.number := BitVec.eq_of_toNat_eq (by rw [e, BitVec.toNat_ofNat, small])
    rw [id_eq, configField_number]

theorem ConfigField.inRange_iff {f : ConfigField} {v : BitVec 32} :
    f.inRange v = true ↔ f.bounds.1 ≤ v.toNat ∧ v.toNat ≤ f.bounds.2 := by
  have := v.isLt
  cases f <;> simp [ConfigField.inRange, ConfigField.bounds] <;> omega

theorem Change.valid_iff {ch : Change} : ch.valid = true ↔ ∃ f, configField ch.id = some f ∧ f.inRange ch.value = true := by
  unfold Change.valid
  cases configField ch.id <;> simp

theorem Change.clockOnly_iff {ch : Change} :
    ch.clockOnly = true ↔ 3 ≤ ch.id.toNat ∧ ch.id.toNat ≤ 14 ∧ ch.id.toNat ≠ 13 := by
  unfold Change.clockOnly
  cases e : configField ch.id with
  | some f =>
    rw [configField_eq_some.1 e]
    cases f <;> simp [ConfigField.onAlias, ConfigField.number]
  | none =>
    refine ⟨nofun, fun ⟨low, high, other⟩ => ?_⟩
    obtain ⟨f, -, q⟩ : ∃ f ∈ ConfigField.all, ch.id.toNat = f.number := by
      generalize ch.id.toNat = n at low high
      interval_cases n <;> decide
    rw [configField_eq_some.2 q] at e
    cases e

/-- The ranges of the fields by identifier (R195). -/
def fieldRanges : List (Nat × Nat × Nat) := ConfigField.all.map fun f => (f.number, f.bounds)

theorem Change.valid_iff_range {ch : Change} : ch.valid = true ↔
    ∃ g ∈ fieldRanges, g.1 = ch.id.toNat ∧ g.2.1 ≤ ch.value.toNat ∧ ch.value.toNat ≤ g.2.2 := by
  rw [Change.valid_iff]
  unfold fieldRanges
  simp only [List.mem_map, configField_eq_some, ConfigField.inRange_iff]
  constructor
  · rintro ⟨f, number, range⟩
    exact ⟨_, ⟨f, f.mem_all, rfl⟩, number.symm, range⟩
  · rintro ⟨_, ⟨f, -, rfl⟩, number, range⟩
    exact ⟨f, number.symm, range⟩

theorem distinctIds_iff {cs : List Change} : distinctIds cs = true ↔ cs.Pairwise (fun x y => x.id ≠ y.id) := by
  induction cs with
  | nil => simp [distinctIds]
  | cons ch cs ih =>
    simp only [distinctIds, Bool.and_eq_true, List.all_eq_true, bne_iff_ne, ne_eq, ih, List.pairwise_cons]
    exact and_congr_left fun _ => forall₂_congr fun _ _ => not_congr eq_comm

/-! ## The values a request names, and what a record takes of them -/

/-- The value a request gives a field. -/
def valueNamed (cs : List Change) (f : ConfigField) : Option (BitVec 32) :=
  (cs.find? fun x => x.id.toNat == f.number).map Change.value

/-- The first change of a request stands before the others, which do not name its field. -/
theorem valueNamed_cons {ch : Change} {cs : List Change} {g : ConfigField} (e : configField ch.id = some g) (f : ConfigField) :
    valueNamed (ch :: cs) f = if f = g then some ch.value else valueNamed cs f := by
  have number := configField_eq_some.1 e
  unfold valueNamed
  split
  next q =>
    rw [List.find?_cons_of_pos (by simpa [q] using number)]
    rfl
  next q =>
    rw [List.find?_cons_of_neg]
    simpa [number] using fun same => q (ConfigField.number_inj same).symm

theorem valueNamed_eq_none {ch : Change} {cs : List Change} {g : ConfigField} (e : configField ch.id = some g)
    (apart : ∀ x ∈ cs, ch.id ≠ x.id) : valueNamed cs g = none := by
  unfold valueNamed
  rw [Option.map_eq_none_iff, List.find?_eq_none]
  intro x mem same
  refine apart x mem (BitVec.eq_of_toNat_eq ?_)
  rw [configField_eq_some.1 e]
  exact (beq_iff_eq.1 same).symm

/-- A CLOCK record with the values named, and what R27 and R28 make of them. -/
def ClockRecord.taking (c : ClockRecord) (v : ConfigField → Option (BitVec 32)) : ClockRecord :=
  { c with
    cfg :=
      { level := (v .level).elim c.cfg.level BitVec.toNat
        useSet := (v .useSet).elim c.cfg.useSet UseSet.ofBits
        lockWindow := (v .lockWindow).elim c.cfg.lockWindow BitVec.toNat
        jumpLimit := (v .jumpLimit).elim c.cfg.jumpLimit BitVec.toNat
        jumpPolicy := (v .jumpPolicy).elim c.cfg.jumpPolicy fun x => if x = 0 then .reanchor else .reject
        rejectLimit := (v .rejectLimit).elim c.cfg.rejectLimit BitVec.toNat
        enterCount := (v .enterCount).elim c.cfg.enterCount BitVec.toNat
        leaveCount := (v .leaveCount).elim c.cfg.leaveCount BitVec.toNat
        gainShift := (v .gainShift).elim c.cfg.gainShift BitVec.toNat
        silenceMs := (v .silenceMs).elim c.cfg.silenceMs BitVec.toNat
        holdoverMs := (v .holdoverMs).elim c.cfg.holdoverMs BitVec.toNat
        farEarly := (v .farEarly).elim c.cfg.farEarly BitVec.toNat
        lateTolerance := (v .lateTolerance).elim c.cfg.lateTolerance BitVec.toNat
        drainMs := (v .drainMs).elim c.cfg.drainMs BitVec.toNat }
    inCount := (v .enterCount).elim c.inCount fun x => lowerTo x.toNat c.inCount
    outCount := (v .leaveCount).elim c.outCount fun x => lowerTo x.toNat c.outCount
    rejectRun := (v .rejectLimit).elim c.rejectRun fun x => lowerTo x.toNat c.rejectRun
    silence := (v .silenceMs).elim c.silence fun x => c.silence.map fun t => t.rederive x.toNat
    holdover := (v .holdoverMs).elim c.holdover fun x => c.holdover.map fun t => t.rederive x.toNat }

/-- An ALIAS record with the values named (R19). -/
def AliasRecord.taking (a : AliasRecord) (v : ConfigField → Option (BitVec 32)) : AliasRecord :=
  { a with
    level := (v .level).elim a.level BitVec.toNat
    useSet := (v .useSet).elim a.useSet UseSet.ofBits
    drainMs := (v .drainMs).elim a.drainMs BitVec.toNat }

/-- A value named after others of which none is of its field is a value named. -/
theorem ClockRecord.setField_taking (c : ClockRecord) {g : ConfigField} (x : BitVec 32) {v : ConfigField → Option (BitVec 32)}
    (fresh : v g = none) : (c.setField g x).taking v = c.taking fun f => if f = g then some x else v f := by
  have zero : x.toNat = 0 ↔ x = 0 := ⟨fun e => BitVec.eq_of_toNat_eq e, fun e => e ▸ rfl⟩
  cases g <;> simp [ClockRecord.setField, ClockRecord.taking, fresh, zero]

theorem AliasRecord.setField_taking (a : AliasRecord) {g : ConfigField} (x : BitVec 32) {v : ConfigField → Option (BitVec 32)}
    (fresh : v g = none) : (a.setField g x).taking v = a.taking fun f => if f = g then some x else v f := by
  cases g <;> simp [AliasRecord.setField, AliasRecord.taking, fresh]

/-- Every field is named once: the changes of a request made one after another are made together (R26). -/
theorem ClockRecord.foldl_change {cs : List Change} (c : ClockRecord) (apart : cs.Pairwise fun x y => x.id ≠ y.id)
    (valid : ∀ ch ∈ cs, ch.valid = true) : cs.foldl ClockRecord.change c = c.taking (valueNamed cs) := by
  induction cs generalizing c with
  | nil => rfl
  | cons ch cs ih =>
    obtain ⟨first, rest⟩ := List.pairwise_cons.1 apart
    obtain ⟨g, field, -⟩ := Change.valid_iff.1 (valid ch List.mem_cons_self)
    have one : c.change ch = c.setField g ch.value := by
      unfold ClockRecord.change
      rw [field]
      rfl
    rw [List.foldl_cons, ih _ rest fun x mem => valid x (List.mem_cons_of_mem _ mem), one,
      c.setField_taking _ (valueNamed_eq_none field first), funext (valueNamed_cons field)]

theorem AliasRecord.foldl_change {cs : List Change} (a : AliasRecord) (apart : cs.Pairwise fun x y => x.id ≠ y.id)
    (valid : ∀ ch ∈ cs, ch.valid = true) : cs.foldl AliasRecord.change a = a.taking (valueNamed cs) := by
  induction cs generalizing a with
  | nil => rfl
  | cons ch cs ih =>
    obtain ⟨first, rest⟩ := List.pairwise_cons.1 apart
    obtain ⟨g, field, -⟩ := Change.valid_iff.1 (valid ch List.mem_cons_self)
    have one : a.change ch = a.setField g ch.value := by
      unfold AliasRecord.change
      rw [field]
      rfl
    rw [List.foldl_cons, ih _ rest fun x mem => valid x (List.mem_cons_of_mem _ mem), one,
      a.setField_taking _ (valueNamed_eq_none field first), funext (valueNamed_cons field)]

end Sys2Proof.Machine
end

section
/-! SUPPORT. CONFIGURE: the record it leaves, and what it refuses (R26 to R28). -/

namespace Sys2Proof.Machine

variable {s t : State} {cmd : Instr} {h : Handle} {ph : Phase} {cs : List Change}

/-! ## The record it leaves -/

theorem lowerTo_eq_min (limit count : Nat) : lowerTo limit count = min count (limit - 1) := by
  unfold lowerTo
  split <;> omega

/-- A count kept or lowered is the count brought below its limit (R28). -/
theorem elim_lowerTo {limit count : Nat} (below : count < limit) (v : Option (BitVec 32)) :
    (v.elim count fun x => lowerTo x.toNat count) = min count (v.elim limit BitVec.toNat - 1) := by
  cases v with
  | none => exact (Nat.min_eq_left (Nat.le_sub_one_of_lt below)).symm
  | some x => exact lowerTo_eq_min _ _

/-- A timer kept or formed anew is formed by the timeout in force (R27). -/
theorem elim_rederive {timer : Option Timer} {ms : Nat} (formed : ∀ t, timer = some t → t.deadline = addTicks t.start (msTicks ms))
    (v : Option (BitVec 32)) : (v.elim timer fun x => timer.map fun t => t.rederive x.toNat) =
      timer.map fun t => { t with deadline := t.start + BitVec.ofNat 48 (v.elim ms BitVec.toNat * 25000) } := by
  cases v with
  | some x => rfl
  | none =>
    cases timer with
    | none => rfl
    | some t =>
      have deadline : t.deadline = t.start + BitVec.ofNat 48 (ms * 25000) := formed t rfl
      simp only [Option.elim_none, Option.map_some]
      rw [← deadline]

/-- The record with a new configuration in force: counts below their limits, running timers formed by their timeouts (R27, R28). -/
def ClockRecord.underConfig (c : ClockRecord) (cfg : ClockConfig) : ClockRecord :=
  { c with
    cfg, inCount := min c.inCount (cfg.enterCount - 1), outCount := min c.outCount (cfg.leaveCount - 1)
    rejectRun := min c.rejectRun (cfg.rejectLimit - 1)
    silence := c.silence.map fun t => { t with deadline := t.start + BitVec.ofNat 48 (cfg.silenceMs * 25000) }
    holdover := c.holdover.map fun t => { t with deadline := t.start + BitVec.ofNat 48 (cfg.holdoverMs * 25000) } }

theorem ClockRecord.taking_eq {c : ClockRecord} (legal : c.legal ph = true) (v : ConfigField → Option (BitVec 32)) :
    c.taking v = c.underConfig (c.taking v).cfg := by
  obtain ⟨sound, silent, held⟩ := ClockRecord.legal_iff.1 legal
  have silence := elim_rederive (timer := c.silence) (ms := c.cfg.silenceMs)
    (fun t e => ((silenceLegal_iff.1 silent).1 t e).2.2) (v .silenceMs)
  have holdover := elim_rederive (timer := c.holdover) (ms := c.cfg.holdoverMs)
    (fun t e => ((holdoverLegal_iff.1 held).1 t e).2.2) (v .holdoverMs)
  have inCount := elim_lowerTo sound.inCount (v .enterCount)
  have outCount := elim_lowerTo sound.outCount (v .leaveCount)
  have rejectRun := elim_lowerTo sound.rejectRun (v .rejectLimit)
  unfold ClockRecord.taking ClockRecord.underConfig
  dsimp only
  rw [silence, holdover, inCount, outCount, rejectRun]

/-! ## What it refuses -/

/-- The changes name no field twice, and each a value in its field's range (R26, R195). -/
def SoundChanges (cs : List Change) : Prop := cs.Pairwise (fun x y => x.id ≠ y.id) ∧ ∀ ch ∈ cs, ch.valid = true

theorem soundChanges_iff : SoundChanges cs ↔ (distinctIds cs && cs.all Change.valid) = true := by
  unfold SoundChanges
  rw [Bool.and_eq_true, distinctIds_iff, List.all_eq_true]

theorem configure_of_refusal {r : Record} {st : Status} {f : Handle} (cur : s.current h = some (ph, r))
    (e : configureRefusal h r cs = some (st, f)) : configure h cs s = s.hold .configure (.refused st f) := by
  unfold configure
  rw [checkHandle_of_current cur]
  dsimp only
  rw [e]

theorem configure_of_accepted {r : Record} (cur : s.current h = some (ph, r)) (e : configureRefusal h r cs = none) :
    configure h cs s = (s.withRecord h.slot ph (r.configured cs) 0).hold .configure (.ok .none) := by
  unfold configure
  rw [checkHandle_of_current cur]
  dsimp only
  rw [e]
  dsimp only
  rw [State.updRecord_of_current _ cur]

theorem configureRefusal_wrongKind {r : Record} (kind : r.kind = .aliasKind) (clock : cs.any Change.clockOnly = true) :
    configureRefusal h r cs = some (.wrongKind, h) := if_pos ⟨kind, clock⟩

theorem configureRefusal_badValue {r : Record} (kind : ¬(r.kind = .aliasKind ∧ cs.any Change.clockOnly = true))
    (bad : ¬(SoundChanges cs ∧ (r.configured cs).windowsOrdered = true)) :
    configureRefusal h r cs = some (.badValue, Handle.null) := by
  unfold configureRefusal
  rw [if_neg kind, if_neg]
  rwa [Bool.and_eq_true, ← soundChanges_iff]

theorem configureRefusal_accepted {r : Record} (kind : ¬(r.kind = .aliasKind ∧ cs.any Change.clockOnly = true))
    (sound : SoundChanges cs) (ordered : (r.configured cs).windowsOrdered = true) : configureRefusal h r cs = none := by
  unfold configureRefusal
  rw [if_neg kind, if_pos]
  rw [Bool.and_eq_true, ← soundChanges_iff]
  exact ⟨sound, ordered⟩

/-- Settles O49: the changes of a sound request are made together, and a legal record takes them as a configuration in force. -/
theorem configureHolds : Obligations.Configure := by
  intro s h cs ph asked
  dsimp only
  have sound_iff : (cs.Pairwise (fun x y => x.id ≠ y.id) ∧ ∀ x ∈ cs, ∃ g ∈ fieldRanges, g.1 = x.id.toNat ∧
      g.2.1 ≤ x.value.toNat ∧ x.value.toNat ≤ g.2.2) ↔ SoundChanges cs :=
    and_congr_right fun _ => forall₂_congr fun _ _ => Change.valid_iff_range.symm
  have clock_iff : (∃ x ∈ cs, 3 ≤ x.id.toNat ∧ x.id.toNat ≤ 14 ∧ x.id.toNat ≠ 13) ↔ cs.any Change.clockOnly = true := by
    simp only [List.any_eq_true, Change.clockOnly_iff]
  refine ⟨fun a cur => ⟨fun clock => ?_, fun clock bad => ?_, fun clock sound => ?_⟩,
    fun c cur legal => ⟨fun bad => ?_, fun sound narrow => ?_, fun sound wide => ?_⟩⟩
  · exact exec_asked asked (configure_of_refusal cur (configureRefusal_wrongKind rfl (clock_iff.1 clock)))
  · exact exec_asked asked (configure_of_refusal cur (configureRefusal_badValue (fun h => clock (clock_iff.2 h.2))
      fun h => bad (sound_iff.2 h.1)))
  · have sound := sound_iff.1 sound
    refine exec_asked asked ((configure_of_accepted cur (configureRefusal_accepted (fun h => clock (clock_iff.2 h.2)) sound ?_)).trans ?_)
    · rw [configured_ofAlias]
      rfl
    · rw [configured_ofAlias, AliasRecord.foldl_change _ sound.1 sound.2]
      rfl
  · exact exec_asked asked (configure_of_refusal cur (configureRefusal_badValue nofun fun h => bad (sound_iff.2 h.1)))
  · have sound := sound_iff.1 sound
    refine exec_asked asked (configure_of_refusal cur (configureRefusal_badValue nofun fun h => ?_))
    obtain ⟨-, ordered⟩ := h
    rw [configured_ofClock, ClockRecord.foldl_change _ sound.1 sound.2] at ordered
    exact absurd (of_decide_eq_true ordered) (Nat.not_lt.2 narrow)
  · have sound := sound_iff.1 sound
    refine exec_asked asked ((configure_of_accepted cur (configureRefusal_accepted nofun sound ?_)).trans ?_)
    · rw [configured_ofClock, ClockRecord.foldl_change _ sound.1 sound.2]
      exact decide_eq_true wide
    · rw [configured_ofClock, ClockRecord.foldl_change _ sound.1 sound.2, ClockRecord.taking_eq legal]
      rfl

end Sys2Proof.Machine
end

section
/-! SUPPORT. The end of a record: RETIRE in both modes and DRAIN_EXPIRY, table by table (R29 to R34, R69). -/

namespace Sys2Proof.Machine

variable {s t u : State} {cmd : Instr} {h : Handle} {ph : Phase} {r : Record}

/-! ## The tables and queues after a record's detachment and revocation, but for the Record Table -/

/-- The leases on a record revoked, or not (R33). -/
def State.revokedWhen (s : State) (h : Handle) (revoking : Bool) : State := if revoking then s.revoked h else s

/-- A state differs from another in its slots only. -/
def State.SlotsOnly (s t : State) : Prop := t = { s with slots := t.slots }

theorem State.SlotsOnly.lease (e : s.SlotsOnly t) (k : LeaseNo) : t.lease k = s.lease k := by rw [e]; rfl
theorem State.SlotsOnly.port (e : s.SlotsOnly t) (n : PortNo) : t.port n = s.port n := by rw [e]; rfl
theorem State.SlotsOnly.mgmt (e : s.SlotsOnly t) : t.mgmt = s.mgmt := by rw [e]
theorem State.SlotsOnly.bindings (e : s.SlotsOnly t) : t.bindings = s.bindings := by rw [e]
theorem State.SlotsOnly.deadlines (e : s.SlotsOnly t) : t.deadlines = s.deadlines := by rw [e]

theorem State.SlotsOnly.trans (e : s.SlotsOnly t) (e' : t.SlotsOnly u) : s.SlotsOnly u := by
  unfold State.SlotsOnly at *
  rw [e']
  rw [e]

theorem slotsOnly_putSlot (i : SlotNo) (x : Slot) : s.SlotsOnly (s.putSlot i x) := rfl

theorem slotsOnly_lowerTarget (r : Record) : s.SlotsOnly (s.lowerTarget r) := by
  cases r with
  | ofClock c => rfl
  | ofAlias a =>
    change s.SlotsOnly (s.lowerAliasCount a.target)
    unfold State.lowerAliasCount
    obtain ⟨ph, c, -, e⟩ | ⟨-, e⟩ := updClock_cases (s := s) a.target fun c => { c with aliasCount := c.aliasCount - 1 } <;>
      rw [e]
    · exact slotsOnly_putSlot _ _
    · rfl

/-- Nothing but the tables, the ports' queues and the management port has changed. -/
def State.TablesOnly (s t : State) : Prop :=
  t = { s with slots := t.slots, leases := t.leases, ports := t.ports, bindings := t.bindings
               deadlines := t.deadlines, mgmt := t.mgmt }

theorem State.TablesOnly.slots (e : s.TablesOnly t) (e' : t.SlotsOnly u) : s.TablesOnly u := by
  unfold State.TablesOnly State.SlotsOnly at *
  rw [e', e]

theorem State.TablesOnly.hold (e : s.TablesOnly t) (code : MgmtCode) (a : MgmtAnswer) : s.TablesOnly (t.hold code a) := by
  unfold State.TablesOnly at *
  rw [e]
  rfl

theorem tablesOnly_revokedWhen (e : s.TablesOnly t) (b : Bool) : s.TablesOnly (t.revokedWhen h b) := by
  unfold State.TablesOnly State.revokedWhen State.revoked State.append State.freeLeases at *
  cases b with
  | false => exact e
  | true =>
    rw [if_pos rfl, e]

theorem tablesOnly_detachedFrom : s.TablesOnly (s.detachedFrom h ph r) := by
  unfold State.TablesOnly State.detachedFrom State.unbound State.append
  cases r with
  | ofAlias a => rfl
  | ofClock c => dsimp only; split <;> rfl

theorem slots_revokedWhen (b : Bool) : (s.revokedWhen h b).slots = s.slots := by
  cases b with
  | false => rfl
  | true => exact State.slots_revoked h

theorem port_revoked (n : PortNo) :
    (s.revoked h).port n = { s.port n with responses := (s.port n).responses ++ s.revokedOn n h } :=
  State.port_append (s := s.freeLeases (s.leaseNames h)) (fun n => s.revokedOn n h) n

theorem port_revokedWhen (b : Bool) (n : PortNo) : (s.revokedWhen h b).port n =
    { s.port n with responses := (s.port n).responses ++ if b = true then s.revokedOn n h else [] } := by
  cases b with
  | false => simp [State.revokedWhen]
  | true => exact port_revoked n

theorem lease_revokedWhen (b : Bool) (k : LeaseNo) : (s.revokedWhen h b).lease k =
    if b = true ∧ s.leaseNames h k = true then none else s.lease k := by
  cases b with
  | false => simp [State.revokedWhen]
  | true =>
    refine (lease_revoked h k).trans ?_
    simp

/-- The wakes a detachment ends on a port (R30). -/
def State.endedFrom (s : State) (h : Handle) (ph : Phase) (r : Record) (n : PortNo) : List ResponseEntry :=
  match r with
  | .ofClock _ => if ph.isDraining then [] else s.endedOn n h .retired
  | .ofAlias _ => []

theorem port_detachedFrom (n : PortNo) : (s.detachedFrom h ph r).port n =
    { s.port n with responses := (s.port n).responses ++ s.endedFrom h ph r n } := by
  unfold State.detachedFrom State.endedFrom
  cases r with
  | ofAlias a => simp
  | ofClock c =>
    cases drains : ph.isDraining with
    | true => simp
    | false => exact State.port_append _ n

/-- What a retirement, or the end of a drain, leaves of everything but the slots. -/
structure Retires (s : State) (h : Handle) (ph : Phase) (r : Record) (revoking : Bool) (t : State) : Prop where
  tables : s.TablesOnly t
  mgmt : t.mgmt = s.mgmt
  bindings : t.bindings = (s.detachedFrom h ph r).bindings
  deadlines : t.deadlines = (s.detachedFrom h ph r).deadlines
  port : ∀ n, t.port n = { s.port n with
    responses := (s.port n).responses ++ s.endedFrom h ph r n ++ if revoking = true then s.revokedOn n h else [] }
  lease : ∀ k, t.lease k = if revoking = true ∧ s.leaseNames h k = true then none else s.lease k

theorem Retires.of_slots {b : Bool} (e : ((s.detachedFrom h ph r).revokedWhen h b).SlotsOnly t) : Retires s h ph r b t where
  tables := (tablesOnly_revokedWhen tablesOnly_detachedFrom b).slots e
  mgmt := by
    have detached : (s.detachedFrom h ph r).mgmt = s.mgmt := by
      unfold State.detachedFrom
      cases r with
      | ofClock c => dsimp only; split <;> rfl
      | ofAlias a => rfl
    rw [State.SlotsOnly.mgmt e, ← detached]
    cases b with
    | false => rfl
    | true =>
      unfold State.revokedWhen State.revoked State.append State.freeLeases
      rfl
  bindings := by
    rw [State.SlotsOnly.bindings e]
    cases b with
    | false => rfl
    | true => exact bindings_revoked h
  deadlines := by
    rw [State.SlotsOnly.deadlines e]
    cases b with
    | false => rfl
    | true => exact deadlines_revoked h
  port n := by
    have told : (s.detachedFrom h ph r).revokedOn n h = s.revokedOn n h := by
      unfold State.revokedOn
      simp only [State.lease_congr (leases_detachedFrom (s := s) h ph r)]
    rw [State.SlotsOnly.port e, port_revokedWhen, port_detachedFrom, told]
  lease k := by
    have leases := leases_detachedFrom (s := s) h ph r
    rw [State.SlotsOnly.lease e, lease_revokedWhen, State.leaseNames_congr leases, State.lease_congr leases]

/-! ## The slots a retirement leaves -/

/-- A slot whose record has entered RETIRED, its leases revoked or not (R33, R34). -/
def Slot.ended (x : Slot) (k : RecordKind) (revoking : Bool) : Slot :=
  if revoking then { x.retiredAs k with notices := (x.retiredAs k).notices ||| 0x1000 } else x.retiredAs k

/-- A retirement of the record revokes leases (R31). -/
def Record.revokedBy (r : Record) (mode : RetireMode) : Bool := decide (r.leaseCount ≠ 0 ∧ mode = .immediate)

theorem retireRecord_lifecycle (mode : RetireMode) :
    (retireRecord h ph r mode s).2 = if r.leaseCount = 0 ∨ mode = .immediate then .retired else .draining := by
  unfold retireRecord
  by_cases none : r.leaseCount = 0
  · simp [none]
  · cases mode <;> simp [none]

theorem retireRecord_gone {mode : RetireMode} (cur : s.current h = some (ph, r))
    (idle : ∀ a, r = .ofAlias a → ph.isDraining = false → s.pendingEntry a = none)
    (gone : r.leaseCount = 0 ∨ mode = .immediate) : (retireRecord h ph r mode s).1 =
      (((s.detachedFrom h ph r).revokedWhen h (r.revokedBy mode)).lowerTarget r).putSlot h.slot
        ((s.slot h.slot).ended r.kind (r.revokedBy mode)) := by
  rw [retireRecord_closed cur idle]
  dsimp only
  unfold Record.revokedBy
  by_cases none : r.leaseCount = 0
  · simp only [none, ne_eq, not_true_eq_false, false_and, decide_false]
    rfl
  · obtain rfl := gone.resolve_left none
    simp only [none, ne_eq, not_false_eq_true, and_self, decide_true]
    rfl

theorem retireRecord_drains {mode : RetireMode} (cur : s.current h = some (ph, r))
    (idle : ∀ a, r = .ofAlias a → ph.isDraining = false → s.pendingEntry a = none)
    (stays : ¬(r.leaseCount = 0 ∨ mode = .immediate)) (active : ph.isDraining = false) :
    (retireRecord h ph r mode s).1 =
      (s.detachedFrom h ph r).withRecord h.slot (.draining (addTicks s.lt (msTicks r.drainMs))) r.detached 0 := by
  obtain ⟨leased, normal⟩ := not_or.1 stays
  rw [retireRecord_closed cur idle]
  dsimp only
  rw [if_neg leased, if_neg normal, if_neg (by simp [active])]

theorem retires_gone {b : Bool} {x : Slot} :
    Retires s h ph r b ((((s.detachedFrom h ph r).revokedWhen h b).lowerTarget r).putSlot h.slot x) :=
  .of_slots (State.SlotsOnly.trans (slotsOnly_lowerTarget r) (slotsOnly_putSlot _ _))

theorem retires_drains {x : Slot} : Retires s h ph r false ((s.detachedFrom h ph r).putSlot h.slot x) :=
  .of_slots (b := false) (slotsOnly_putSlot _ _)

theorem Record.revokedBy_stays {mode : RetireMode} (stays : ¬(r.leaseCount = 0 ∨ mode = .immediate)) :
    r.revokedBy mode = false := decide_eq_false fun gone => stays (.inr gone.2)

/-- Only a record that is not yet DRAINING can stay, in mode NORMAL (R29, R31). -/
theorem active_of_stays {mode : RetireMode} (notBusy : ¬(ph.isDraining = true ∧ mode = .normal))
    (stays : ¬(r.leaseCount = 0 ∨ mode = .immediate)) : ph.isDraining = false := by
  refine Bool.eq_false_iff.2 fun drains => notBusy ⟨drains, ?_⟩
  cases mode with
  | normal => rfl
  | immediate => exact absurd (.inr rfl) stays

theorem retires_retireRecord {mode : RetireMode} (cur : s.current h = some (ph, r))
    (idle : ∀ a, r = .ofAlias a → ph.isDraining = false → s.pendingEntry a = none)
    (notBusy : ¬(ph.isDraining = true ∧ mode = .normal)) :
    Retires s h ph r (r.revokedBy mode) (retireRecord h ph r mode s).1 := by
  by_cases gone : r.leaseCount = 0 ∨ mode = .immediate
  · rw [retireRecord_gone cur idle gone]
    exact retires_gone
  · rw [retireRecord_drains cur idle gone (active_of_stays notBusy gone), Record.revokedBy_stays gone]
    exact retires_drains

/-- The slots where a record has entered RETIRED: its own, and its target's, which counts one ALIAS less (R20, R34). -/
theorem slot_entered_ofClock {c : ClockRecord} {x : Slot} (slots : u.slots = s.slots) (i : SlotNo) :
    ((u.lowerTarget (.ofClock c)).putSlot h.slot x).slot i = if h.slot = i then x else s.slot i := by
  rw [State.slot_putSlot]
  exact congrArg (ite _ x) (State.slot_of_slots slots i)

theorem slot_entered_ofAlias {a : AliasRecord} {x : Slot} {pt : Phase} {ct : ClockRecord} (slots : u.slots = s.slots)
    (target : s.current a.target = some (pt, .ofClock ct)) (i : SlotNo) :
    ((u.lowerTarget (.ofAlias a)).putSlot h.slot x).slot i = if h.slot = i then x
      else if a.target.slot = i then
        { s.slot a.target.slot with content := .active pt (.ofClock { ct with aliasCount := ct.aliasCount - 1 }) }
      else s.slot i := by
  have target' : u.current a.target = some (pt, .ofClock ct) := (current_of_slots slots _).trans target
  have lowered : u.lowerTarget (.ofAlias a) =
      u.withRecord a.target.slot pt (.ofClock { ct with aliasCount := ct.aliasCount - 1 }) 0 :=
    State.updClock_of_current _ target'
  have zero (n : NoticeSet) : n ||| 0 = n := BitVec.or_zero
  rw [State.slot_putSlot, lowered, State.slot_withRecord, State.slot_of_slots slots, State.slot_of_slots slots, zero]

/-! ## RETIRE and DRAIN_EXPIRY by what they find -/

theorem retire_of_refusal {mode : RetireMode} {st : Status} (cur : s.current h = some (ph, r))
    (e : retireRefusal ph r mode = some st) : retire h mode s = s.hold .retire (.refused st h) := by
  unfold retire
  rw [checkHandle_of_current cur]
  dsimp only
  rw [e]

theorem retire_of_accepted {mode : RetireMode} (cur : s.current h = some (ph, r)) (e : retireRefusal ph r mode = none) :
    retire h mode s =
      (retireRecord h ph r mode s).1.hold .retire (.ok (.lifecycle (retireRecord h ph r mode s).2)) := by
  unfold retire
  rw [checkHandle_of_current cur]
  dsimp only
  rw [e]

theorem retireRefusal_ofAlias {mode : RetireMode} {a : AliasRecord} (notBusy : ¬(ph.isDraining = true ∧ mode = .normal)) :
    retireRefusal ph (.ofAlias a) mode = none := if_neg notBusy

theorem retireRefusal_alone {mode : RetireMode} {c : ClockRecord} (notBusy : ¬(ph.isDraining = true ∧ mode = .normal))
    (alone : c.aliasCount = 0) : retireRefusal ph (.ofClock c) mode = none :=
  (if_neg notBusy).trans (if_neg (by simp [alone]))

theorem retireRefusal_inUse {mode : RetireMode} {c : ClockRecord} (notBusy : ¬(ph.isDraining = true ∧ mode = .normal))
    (used : 0 < c.aliasCount) : retireRefusal ph (.ofClock c) mode = some .inUse :=
  (if_neg notBusy).trans (if_pos used)

/-- A drain that has reached its deadline (R33). -/
theorem exec_drainExpiry {d : LocalTime} (high : s.rstLow = false) (cur : s.current h = some (.draining d, r))
    (due : 0 ≤ timeDiff d s.lt) : exec (.drainExpiry h.slot) s =
      .next (((s.revoked h).lowerTarget r).putSlot h.slot ((s.slot h.slot).ended r.kind true)) := by
  have taken : exec (.drainExpiry h.slot) s = .next (takeDrainExpiry h.slot s) := taken_high high
  have reached : reached d s.lt = true := decide_eq_true due
  rw [taken]
  unfold takeDrainExpiry
  simp only [(State.current_eq_some.1 cur).2.2.2, reached, if_true]
  rw [handleOf_of_current cur, revokeAll_enterRetired cur]
  rfl

/-- A splice pending on a retiring ALIAS ends first, as the obligation's states say (R30, R151). -/
theorem exec_retire_pending {mode : RetireMode} {a : AliasRecord} {e : DeadlineEntry} {o : Origin} {k : Handle}
    (asked : s.asked (.retire h mode)) (cur : s.current h = some (ph, .ofAlias a)) (active : ph.isDraining = false)
    (pending : s.pendingEntry a = some (e, o, k)) : exec .retire s = exec .retire
      ((s.dropSplice e h k).tellSplice o .aliasRetired (droppedSpliceBody s.lt h k e.due)) := by
  have accepted (b : AliasRecord) : retireRefusal ph (.ofAlias b) mode = none :=
    retireRefusal_ofAlias fun busy => by simp [active] at busy
  have cur' := (current_tellSplice (s := s.dropSplice e h k) o .aliasRetired (droppedSpliceBody s.lt h k e.due) h).trans
    (current_droppedSplice e cur)
  have asked' : ((s.dropSplice e h k).tellSplice o .aliasRetired (droppedSpliceBody s.lt h k e.due)).asked (.retire h mode) := by
    refine ⟨?_, ?_⟩
    · rw [State.tellSplice_rstLow, State.dropSplice_rstLow]
      exact asked.1
    · rw [State.tellSplice_mgmt, State.dropSplice_mgmt]
      exact asked.2
  refine (exec_asked asked (retire_of_accepted cur (accepted a))).trans ?_
  rw [retireRecord_pendingEnded mode active pending]
  exact (exec_asked asked' (retire_of_accepted cur' (accepted _))).symm

/-- A splice dropped, in the table's terms: its new target's ALIAS count and its ALIAS's pending splice (R151). -/
theorem dropSplice_eq {a : AliasRecord} {e : DeadlineEntry} {k : Handle} {pk : Phase} {ck : ClockRecord}
    (cur : s.current h = some (ph, .ofAlias a)) (target : s.current k = some (pk, .ofClock ck)) :
    s.dropSplice e h k = (({ s with deadlines := s.deadlines.erase e }).withRecord k.slot pk
      (.ofClock { ck with aliasCount := ck.aliasCount - 1 }) 0).withRecord h.slot ph
      (.ofAlias { a with pendingSplice := none }) 0 := by
  have target' : (s.putDeadlines (s.deadlines.erase e)).current k = some (pk, .ofClock ck) := target
  have cur' : (s.putDeadlines (s.deadlines.erase e)).current h = some (ph, .ofAlias a) := cur
  have lowered := State.updClock_of_current (fun c => { c with aliasCount := c.aliasCount - 1 }) target'
  have after := current_updClock_ofAlias (k := k) (fun c => { c with aliasCount := c.aliasCount - 1 }) cur'
  refine (State.updAlias_of_current _ after).trans ?_
  rw [lowered]
  rfl

/-! ## The obligation -/

/-- The slots after a CLOCK's retirement (R30, R31, R34). -/
theorem slot_retired_ofClock {mode : RetireMode} {c : ClockRecord} (cur : s.current h = some (ph, .ofClock c))
    (notBusy : ¬(ph.isDraining = true ∧ mode = .normal)) (i : SlotNo) :
    (retireRecord h ph (.ofClock c) mode s).1.slot i = if h.slot = i then
      if c.leaseCount = 0 ∨ mode = .immediate then
        (s.slot h.slot).ended .clockKind ((Record.ofClock c).revokedBy mode)
      else { s.slot h.slot with
        content := .active (.draining (addTicks s.lt (msTicks c.cfg.drainMs))) (.ofClock c.detached) }
    else s.slot i := by
  have slots := State.slots_detachedFrom (s := s) h ph (.ofClock c)
  have zero (n : NoticeSet) : n ||| 0 = n := BitVec.or_zero
  by_cases gone : c.leaseCount = 0 ∨ mode = .immediate
  · rw [retireRecord_gone cur nofun gone, slot_entered_ofClock ((slots_revokedWhen _).trans slots), if_pos gone]
    rfl
  · rw [retireRecord_drains cur nofun gone (active_of_stays (r := .ofClock c) notBusy gone), State.slot_withRecord,
      State.slot_of_slots slots, State.slot_of_slots slots, zero, if_neg gone]
    rfl

/-- The slots after the retirement of an ALIAS without a pending splice (R20, R31, R34). -/
theorem slot_retired_ofAlias {mode : RetireMode} {a : AliasRecord} {pt : Phase} {ct : ClockRecord}
    (cur : s.current h = some (ph, .ofAlias a)) (target : s.current a.target = some (pt, .ofClock ct))
    (idle : a.pendingSplice = none) (notBusy : ¬(ph.isDraining = true ∧ mode = .normal)) (i : SlotNo) :
    (retireRecord h ph (.ofAlias a) mode s).1.slot i =
      if a.leaseCount = 0 ∨ mode = .immediate then
        if h.slot = i then (s.slot h.slot).ended .aliasKind ((Record.ofAlias a).revokedBy mode)
        else if a.target.slot = i then
          { s.slot a.target.slot with content := .active pt (.ofClock { ct with aliasCount := ct.aliasCount - 1 }) }
        else s.slot i
      else if h.slot = i then
        { s.slot h.slot with content := .active (.draining (addTicks s.lt (msTicks a.drainMs))) (.ofAlias a) }
      else s.slot i := by
  have slots := State.slots_detachedFrom (s := s) h ph (.ofAlias a)
  have absent : ∀ b, Record.ofAlias a = .ofAlias b → ph.isDraining = false → s.pendingEntry b = none := by
    rintro b ⟨⟩ -
    exact pendingEntry_of_none idle
  have zero (n : NoticeSet) : n ||| 0 = n := BitVec.or_zero
  by_cases gone : a.leaseCount = 0 ∨ mode = .immediate
  · rw [retireRecord_gone cur absent gone, slot_entered_ofAlias ((slots_revokedWhen _).trans slots) target, if_pos gone]
    rfl
  · rw [retireRecord_drains cur absent gone (active_of_stays (r := .ofAlias a) notBusy gone), State.slot_withRecord,
      State.slot_of_slots slots, State.slot_of_slots slots, zero, if_neg gone]
    rfl

/-- The management port after a retirement's answer. -/
theorem Retires.mgmt_held {mode : RetireMode} {b : Bool} (e : Retires s h ph r b (retireRecord h ph r mode s).1) :
    ((retireRecord h ph r mode s).1.hold .retire (.ok (.lifecycle (retireRecord h ph r mode s).2))).mgmt =
      { s.mgmt with req := .held { code := .retire, answer := .ok (.lifecycle
        (if r.leaseCount = 0 ∨ mode = .immediate then .retired else .draining)) } } := by
  rw [← retireRecord_lifecycle (s := s) (h := h) (ph := ph), ← e.mgmt]
  rfl

/-- A state of a retirement in which no list has moved. -/
theorem Retires.tables_ofAlias {a : AliasRecord} {b : Bool} (e : Retires s h ph (.ofAlias a) b t) :
    t = { s with slots := t.slots, leases := t.leases, ports := t.ports, mgmt := t.mgmt } := by
  have tables := e.tables
  unfold State.TablesOnly at tables
  rw [e.bindings, e.deadlines] at tables
  exact tables

/-- Nothing is left to detach from a DRAINING record (R30). -/
theorem detachedFrom_draining (drains : ph.isDraining = true) : s.detachedFrom h ph r = s := by
  unfold State.detachedFrom
  cases r with
  | ofClock c => exact if_pos drains
  | ofAlias a => rfl

theorem endedFrom_draining (drains : ph.isDraining = true) (n : PortNo) : s.endedFrom h ph r n = [] := by
  unfold State.endedFrom
  cases r with
  | ofClock c => exact if_pos drains
  | ofAlias a => rfl

theorem retires_drained {x : Slot} (drains : ph.isDraining = true) :
    Retires s h ph r true (((s.revoked h).lowerTarget r).putSlot h.slot x) := by
  have := retires_gone (s := s) (h := h) (ph := ph) (r := r) (b := true) (x := x)
  rw [detachedFrom_draining drains] at this
  exact this

theorem Retires.port_drained (e : Retires s h ph r true t) (drains : ph.isDraining = true) (n : PortNo) :
    t.port n = { s.port n with responses := (s.port n).responses ++ s.revokedOn n h } := by
  rw [e.port, endedFrom_draining drains, List.append_nil]
  rfl

theorem Retires.tables_drained {b : Bool} (e : Retires s h ph r b t) (drains : ph.isDraining = true) :
    t = { s with slots := t.slots, leases := t.leases, ports := t.ports } := by
  have tables := e.tables
  unfold State.TablesOnly at tables
  rw [e.bindings, e.deadlines, e.mgmt, detachedFrom_draining drains] at tables
  exact tables

/-- Settles O50: `retireRecord` and the drain's end read table by table. -/
theorem retirementAndDrain : Obligations.RetirementAndDrain := by
  intro s h ph high
  dsimp only
  refine ⟨fun mode r progress cur => ⟨fun drains normal => ?_, ?_⟩, fun mode c progress cur notBusy alone => ?_,
    fun mode a e o k pk ck progress cur active pending entry work target => ⟨?_, ?_⟩, fun a pt ct cur target => ⟨?_, ?_⟩,
    fun c d cur due => ?_⟩
  · exact exec_asked (q := .retire h mode) ⟨high, progress⟩ (retire_of_refusal cur (if_pos ⟨drains, normal⟩))
  · rintro c rfl used notBusy
    exact exec_asked (q := .retire h mode) ⟨high, progress⟩ (retire_of_refusal cur (retireRefusal_inUse notBusy used))
  · have effect := retires_retireRecord cur nofun notBusy
    have slot := slot_retired_ofClock cur notBusy
    refine ⟨_, exec_asked (q := .retire h mode) ⟨high, progress⟩ (retire_of_accepted cur (retireRefusal_alone notBusy alone)),
      effect.mgmt_held, effect.tables.hold _ _, effect.bindings.trans (bindings_detachedFrom h ph _),
      effect.deadlines.trans (deadlines_detachedFrom h ph c), effect.port, effect.lease, ?_, fun i other => ?_⟩
    · exact (slot h.slot).trans (if_pos rfl)
    · exact (slot i).trans (if_neg (Ne.symm other))
  · rintro n tag rfl
    rw [exec_retire_pending ⟨high, progress⟩ cur active (pendingEntry_of_entry pending entry work), dropSplice_eq cur target]
    rfl
  · rintro rfl
    rw [exec_retire_pending ⟨high, progress⟩ cur active (pendingEntry_of_entry pending entry work), dropSplice_eq cur target]
    refine congrArg (exec .retire) ?_
    exact State.withRecord_notify _ _ _ _ _
  · intro mode progress idle notBusy
    have apart : h.slot ≠ a.target.slot := State.current_slot_ne cur target (by simp)
    have slot := slot_retired_ofAlias cur target idle notBusy
    have effect := retires_retireRecord cur (fun b q _ => by cases q; exact pendingEntry_of_none idle) notBusy
    refine ⟨_, exec_asked (q := .retire h mode) ⟨high, progress⟩ (retire_of_accepted cur (retireRefusal_ofAlias notBusy)),
      effect.mgmt_held, ?_, fun n => (effect.port n).trans ?_, effect.lease, (slot _).trans ?_, (slot _).trans ?_,
      fun i own other => (slot i).trans ?_⟩
    · exact congrArg (fun u : State => u.hold .retire _) effect.tables_ofAlias
    · rw [State.endedFrom, List.append_nil]
      rfl
    · rw [if_pos rfl, if_pos rfl]
      rfl
    · rw [if_neg apart, if_pos rfl, if_neg apart]
    · rw [if_neg (Ne.symm own), if_neg (Ne.symm other), if_neg (Ne.symm own), ite_self]
  · rintro d rfl own due
    have apart : h.slot ≠ a.target.slot := State.current_slot_ne cur target (by simp)
    have effect := retires_drained (s := s) (h := h) (ph := .draining d) (r := .ofAlias a)
      (x := (s.slot h.slot).ended .aliasKind true) rfl
    have slot := slot_entered_ofAlias (h := h) (x := (s.slot h.slot).ended .aliasKind true) (State.slots_revoked h) target
    refine ⟨_, exec_drainExpiry high cur due, effect.tables_drained rfl, effect.port_drained rfl, effect.lease,
      (slot _).trans ?_, (slot _).trans ?_, fun i own other => (slot i).trans ?_⟩
    · exact if_pos rfl
    · rw [if_neg apart, if_pos rfl]
    · rw [if_neg (Ne.symm own), if_neg (Ne.symm other)]
  · have effect := retires_drained (s := s) (h := h) (ph := .draining d) (r := .ofClock c)
      (x := (s.slot h.slot).ended .clockKind true) rfl
    have slot := slot_entered_ofClock (h := h) (c := c) (x := (s.slot h.slot).ended .clockKind true)
      (State.slots_revoked (s := s) h)
    refine ⟨_, exec_drainExpiry high cur due, effect.tables_drained rfl, effect.port_drained rfl, effect.lease,
      (slot _).trans ?_, fun i other => (slot i).trans ?_⟩
    · exact if_pos rfl
    · exact if_neg (Ne.symm other)

end Sys2Proof.Machine
end

section
/-! SUPPORT. PORT-RESET: what its two folds write, and what the agreement of the tables says the result is (R40, R116, R153). -/

namespace Sys2Proof.Machine

variable {s t u : State} {cmd : Instr} {h : Handle} {ph : Phase} {r : Record}

/-! ## The fields a port reset settles from the tables -/

/-- A record without the fields that a port reset moves: counts and pending splice. -/
def Record.core : Record → Record
  | .ofClock c => .ofClock { c with leaseCount := 0, aliasCount := 0, wakeCount := 0 }
  | .ofAlias a => .ofAlias { a with leaseCount := 0, pendingSplice := none }

/-- A slot without those fields of its record. -/
def Slot.core (x : Slot) : Slot :=
  match x.content with
  | .active ph r => { x with content := .active ph r.core }
  | .free | .retired _ => x

theorem Slot.core_active {x : Slot} (e : x.content = .active ph r) : x.core = { x with content := .active ph r.core } := by
  unfold Slot.core
  rw [e]

theorem Slot.core_inactive {x : Slot} (e : ∀ ph r, x.content ≠ .active ph r) : x.core = x := by
  unfold Slot.core
  split
  next ph r active => exact absurd active (e ph r)
  all_goals rfl

theorem Slot.core_gen (x : Slot) : x.core.gen = x.gen := by
  unfold Slot.core
  split <;> rfl

theorem Slot.core_notices (x : Slot) : x.core.notices = x.notices := by
  unfold Slot.core
  split <;> rfl

/-- A slot that holds no record is known by its core. -/
theorem Slot.eq_of_core_inactive {x y : Slot} (same : y.core = x.core) (e : ∀ ph r, x.content ≠ .active ph r) : y = x := by
  rw [Slot.core_inactive e] at same
  by_cases active : ∃ ph r, y.content = .active ph r
  · obtain ⟨ph, r, active⟩ := active
    rw [Slot.core_active active] at same
    exact absurd (congrArg Slot.content same).symm (e ph r.core)
  · rw [← same, Slot.core_inactive fun ph r q => active ⟨ph, r, q⟩]

/-- A slot with the core of one that holds a record holds it too, but for those fields. -/
theorem Slot.eq_of_core_active {x y : Slot} (same : y.core = x.core) (e : x.content = .active ph r) :
    ∃ r', y = { x with content := .active ph r' } ∧ r'.core = r.core := by
  have gen : y.gen = x.gen := by rw [← Slot.core_gen y, same, Slot.core_gen]
  have notices : y.notices = x.notices := by rw [← Slot.core_notices y, same, Slot.core_notices]
  rw [Slot.core_active e] at same
  by_cases active : ∃ ph r, y.content = .active ph r
  · obtain ⟨ph', r', active⟩ := active
    rw [Slot.core_active active] at same
    have content := congrArg Slot.content same
    simp only [Content.active.injEq] at content
    obtain ⟨rfl, core⟩ := content
    exact ⟨r', by rw [← gen, ← notices, ← active], core⟩
  · rw [Slot.core_inactive fun ph r q => active ⟨ph, r, q⟩] at same
    exact absurd ⟨_, _, congrArg Slot.content same⟩ active

theorem Record.kind_of_core {r r' : Record} (e : r'.core = r.core) : r'.kind = r.kind := by
  cases r with
  | ofClock c =>
    cases r' with
    | ofClock c' => rfl
    | ofAlias a' => cases e
  | ofAlias a =>
    cases r' with
    | ofClock c' => cases e
    | ofAlias a' => rfl

theorem Record.eq_of_core_ofClock {r : Record} {c : ClockRecord} (e : r.core = (Record.ofClock c).core) :
    ∃ l a w, r = .ofClock { c with leaseCount := l, aliasCount := a, wakeCount := w } := by
  cases r with
  | ofAlias a => cases e
  | ofClock c' =>
    refine ⟨c'.leaseCount, c'.aliasCount, c'.wakeCount, ?_⟩
    cases c
    cases c'
    simp only [Record.core, Record.ofClock.injEq, ClockRecord.mk.injEq] at e ⊢
    simp only [e, and_self]

theorem Record.eq_of_core_ofAlias {r : Record} {a : AliasRecord} (e : r.core = (Record.ofAlias a).core) :
    ∃ l p, r = .ofAlias { a with leaseCount := l, pendingSplice := p } := by
  cases r with
  | ofClock c => cases e
  | ofAlias a' =>
    refine ⟨a'.leaseCount, a'.pendingSplice, ?_⟩
    cases a
    cases a'
    simp only [Record.core, Record.ofAlias.injEq, AliasRecord.mk.injEq] at e ⊢
    simp only [e, and_self]

/-! ## What a port reset does to a slot -/

/-- A slot keeps its core, or its DRAINING record enters RETIRED (R40). -/
inductive Slot.GivenUp (x y : Slot) : Prop
  | kept (same : y.core = x.core)
  | ended {d r} (draining : x.content = .active (.draining d) r) (retired : y = x.retiredAs r.kind)

theorem Slot.GivenUp.refl (x : Slot) : x.GivenUp x := .kept rfl

theorem Slot.GivenUp.trans (x y z : Slot) (e : x.GivenUp y) (e' : y.GivenUp z) : x.GivenUp z := by
  cases e with
  | kept same =>
    cases e' with
    | kept same' => exact .kept (same'.trans same)
    | @ended d r draining retired =>
      obtain ⟨r', rfl, core⟩ := Slot.eq_of_core_active same.symm draining
      refine .ended rfl ?_
      rw [retired, Record.kind_of_core core]
      rfl
  | ended draining retired =>
    have inactive (ph : Phase) (r : Record) : y.content ≠ .active ph r := by
      rw [retired]
      exact nofun
    cases e' with
    | kept same => exact .ended draining ((Slot.eq_of_core_inactive same inactive).trans retired)
    | ended active => exact absurd active (inactive _ _)

/-- Every slot keeps its core, or its DRAINING record enters RETIRED. -/
abbrev State.GivenUp : State → State → Prop := SlotsRel Slot.GivenUp

theorem Slot.givenUp_active {x : Slot} {r' : Record} (e : x.content = .active ph r) (core : r'.core = r.core) :
    x.GivenUp { x with content := .active ph r' } := by
  refine .kept ?_
  rw [Slot.core_active e, Slot.core_active rfl, core]

theorem givenUp_updClock (h : Handle) {f : ClockRecord → ClockRecord}
    (core : ∀ c, (Record.ofClock (f c)).core = (Record.ofClock c).core) : s.GivenUp (s.updClock h f) :=
  SlotsRel.updClock Slot.GivenUp.refl fun _ _ c e => Slot.givenUp_active e (core c)

theorem givenUp_updAlias (h : Handle) {f : AliasRecord → AliasRecord}
    (core : ∀ a, (Record.ofAlias (f a)).core = (Record.ofAlias a).core) : s.GivenUp (s.updAlias h f) :=
  SlotsRel.updAlias Slot.GivenUp.refl fun _ _ a e => Slot.givenUp_active e (core a)

theorem givenUp_updLeaseCount (h : Handle) (g : Nat → Nat) : s.GivenUp (s.updRecord h (Record.updLeaseCount g)) :=
  SlotsRel.updRecord Slot.GivenUp.refl fun _ _ r e => Slot.givenUp_active e (by cases r <;> rfl)

theorem givenUp_of_slots (e : t.slots = s.slots) : s.GivenUp t := SlotsRel.of_slots Slot.GivenUp.refl e

theorem State.GivenUp.trans (e : s.GivenUp t) (e' : t.GivenUp u) : s.GivenUp u := SlotsRel.trans Slot.GivenUp.trans e e'

theorem givenUp_lowerAliasCount (h : Handle) : s.GivenUp (s.lowerAliasCount h) := by
  refine givenUp_updClock h ?_
  exact fun _ => rfl

theorem givenUp_lowerWakeCount (h : Handle) : s.GivenUp (s.lowerWakeCount h) := by
  refine givenUp_updClock h ?_
  exact fun _ => rfl

theorem givenUp_lowerTarget (r : Record) : s.GivenUp (s.lowerTarget r) := by
  cases r with
  | ofClock c => exact givenUp_of_slots rfl
  | ofAlias a => exact givenUp_lowerAliasCount _

theorem givenUp_forgetEntry (s : State) (e : DeadlineEntry) : s.GivenUp (forgetEntry s e) := by
  unfold forgetEntry
  split
  · exact givenUp_lowerWakeCount _
  · refine (givenUp_lowerAliasCount _).trans (givenUp_updAlias _ ?_)
    exact fun _ => rfl

theorem givenUp_enterRetired {d : LocalTime} (cur : s.current h = some (.draining d, r)) :
    s.GivenUp (s.enterRetired h.slot) := by
  rw [enterRetired_of_current cur]
  intro i
  rw [State.slot_putSlot]
  split
  next q => exact q ▸ .ended (State.current_eq_some.1 cur).2.2.2 rfl
  · exact givenUp_lowerTarget r i

theorem givenUp_giveUpLease (k : LeaseNo) (l : Lease) : s.GivenUp (s.giveUpLease k l) := by
  have freed : s.GivenUp (s.putLease k none) := givenUp_of_slots rfl
  have lowered := freed.trans (givenUp_updLeaseCount l.named (· - 1))
  unfold State.giveUpLease
  dsimp only
  split
  next cur =>
    split
    · exact lowered.trans (givenUp_enterRetired cur)
    · exact lowered
  all_goals exact lowered

theorem givenUp_giveUpIfHeldBy (n : PortNo) (s : State) (k : LeaseNo) : s.GivenUp (giveUpIfHeldBy n s k) := by
  unfold giveUpIfHeldBy
  split
  · split
    · exact givenUp_giveUpLease _ _
    · exact givenUp_of_slots rfl
  · exact givenUp_of_slots rfl

/-- The slots after the two folds of a port reset (R40, R153). -/
theorem givenUp_portReset (n : PortNo) : s.GivenUp (giveUpLeases n (forgetEntries n s)) := by
  have listed : s.GivenUp (s.putDeadlines (s.deadlines.filter fun e => !e.isFrom n)) := givenUp_of_slots rfl
  have forgotten : s.GivenUp (forgetEntries n s) :=
    listed.trans (SlotsRel.foldl Slot.GivenUp.refl Slot.GivenUp.trans givenUp_forgetEntry _)
  exact forgotten.trans (SlotsRel.foldl Slot.GivenUp.refl Slot.GivenUp.trans (givenUp_giveUpIfHeldBy n) _)

/-! ## What a port reset does to everything else -/

/-- Slots and leases apart, a state is as before. -/
def State.SlotsAndLeasesOnly (s t : State) : Prop := t = { s with slots := t.slots, leases := t.leases }

theorem State.SlotsAndLeasesOnly.trans (e : s.SlotsAndLeasesOnly t) (e' : t.SlotsAndLeasesOnly u) : s.SlotsAndLeasesOnly u := by
  unfold State.SlotsAndLeasesOnly at *
  rw [e']
  rw [e]

theorem State.SlotsOnly.leases_too (e : s.SlotsOnly t) : s.SlotsAndLeasesOnly t := by
  unfold State.SlotsAndLeasesOnly State.SlotsOnly at *
  rw [e]

/-- A fold of operations that each keep to a relation keeps to it. -/
theorem foldl_rel {R : State → State → Prop} (refl : ∀ s, R s s) (trans : ∀ {s t u}, R s t → R t u → R s u) {α : Type}
    {f : State → α → State} (one : ∀ s x, R s (f s x)) (l : List α) (s : State) : R s (l.foldl f s) := by
  induction l generalizing s with
  | nil => exact refl s
  | cons x l ih => exact trans (one s x) (ih _)

theorem slotsOnly_updClock (h : Handle) (f : ClockRecord → ClockRecord) : s.SlotsOnly (s.updClock h f) := by
  obtain ⟨ph, c, -, e⟩ | ⟨-, e⟩ := updClock_cases (s := s) h f <;> rw [e]
  · exact slotsOnly_putSlot _ _
  · rfl

theorem slotsOnly_updAlias (h : Handle) (f : AliasRecord → AliasRecord) : s.SlotsOnly (s.updAlias h f) := by
  obtain ⟨ph, a, -, e⟩ | ⟨-, e⟩ := updAlias_cases (s := s) h f <;> rw [e]
  · exact slotsOnly_putSlot _ _
  · rfl

theorem slotsOnly_updRecord (h : Handle) (f : Record → Record) : s.SlotsOnly (s.updRecord h f) := by
  obtain ⟨ph, r, -, e⟩ | ⟨-, e⟩ := updRecord_cases (s := s) h f <;> rw [e]
  · exact slotsOnly_putSlot _ _
  · rfl

theorem slotsOnly_forgetEntry (s : State) (e : DeadlineEntry) : s.SlotsOnly (forgetEntry s e) := by
  unfold forgetEntry
  split
  · exact slotsOnly_updClock _ _
  · exact State.SlotsOnly.trans (slotsOnly_updClock _ _) (slotsOnly_updAlias _ _)

/-- A lease given up frees its own entry and writes slots. -/
theorem giveUpLease_slotsOnly (k : LeaseNo) (l : Lease) : (s.putLease k none).SlotsOnly (s.giveUpLease k l) := by
  have lowered : (s.putLease k none).SlotsOnly ((s.putLease k none).updRecord l.named (Record.updLeaseCount (· - 1))) :=
    slotsOnly_updRecord _ _
  unfold State.giveUpLease
  dsimp only
  split
  next cur =>
    split
    · rw [enterRetired_of_current cur]
      exact State.SlotsOnly.trans lowered (State.SlotsOnly.trans (slotsOnly_lowerTarget _) (slotsOnly_putSlot _ _))
    · exact lowered
  all_goals exact lowered

theorem slotsAndLeasesOnly_giveUpIfHeldBy (n : PortNo) (s : State) (k : LeaseNo) :
    s.SlotsAndLeasesOnly (giveUpIfHeldBy n s k) := by
  unfold giveUpIfHeldBy
  split
  next l held =>
    split
    · have put : s.SlotsAndLeasesOnly (s.putLease k none) := rfl
      exact State.SlotsAndLeasesOnly.trans put (State.SlotsOnly.leases_too (giveUpLease_slotsOnly k l))
    · rfl
  · rfl

/-- The leases after some of a port's have been given up. -/
theorem lease_foldl_giveUp (n : PortNo) (l : List LeaseNo) (s : State) (k : LeaseNo) :
    (l.foldl (giveUpIfHeldBy n) s).lease k =
      if k ∈ l ∧ (s.lease k).any (fun x => x.port == n) = true then none else s.lease k := by
  induction l generalizing s with
  | nil => simp
  | cons j l ih =>
    rw [List.foldl_cons, ih]
    have one (k : LeaseNo) : (giveUpIfHeldBy n s j).lease k =
        if k = j ∧ (s.lease k).any (fun x => x.port == n) = true then none else s.lease k := by
      unfold giveUpIfHeldBy
      split
      next x held =>
        split
        next mine =>
          rw [State.SlotsOnly.lease (giveUpLease_slotsOnly j x), State.lease_putLease]
          by_cases q : j = k
          · subst q; simp [held, mine]
          · simp [q, Ne.symm q]
        next other =>
          by_cases q : k = j
          · subst q; simp [held, other]
          · simp [q]
      next free =>
        by_cases q : k = j
        · subst q; simp [free]
        · simp [q]
    rw [one]
    by_cases q : k = j
    · subst q
      by_cases mine : (s.lease k).any (fun x => x.port == n) = true <;> simp [mine]
    · simp [q]

end Sys2Proof.Machine
end

section
/-! SUPPORT. PORT-RESET: each record's counts and pending splice, read off the agreement of the tables after it (R40, R116, R117,
R119, R153). -/

namespace Sys2Proof.Machine

variable {s t u : State} {cmd : Instr} {h : Handle} {ph : Phase} {r : Record} {n : PortNo}

/-! ## The state after a port reset -/

/-- The tables after a port reset (R40, R153); never to be computed. -/
@[irreducible] def State.withoutPort (s : State) (n : PortNo) : State := giveUpLeases n (forgetEntries n s)

theorem forgetEntries_slotsOnly (n : PortNo) (s : State) :
    (s.putDeadlines (s.deadlines.filter fun e => !e.isFrom n)).SlotsOnly (forgetEntries n s) :=
  foldl_rel (R := State.SlotsOnly) (fun _ => rfl) State.SlotsOnly.trans slotsOnly_forgetEntry _ _

theorem withoutPort_frame (n : PortNo) (s : State) : s.withoutPort n =
    { s with slots := (s.withoutPort n).slots, leases := (s.withoutPort n).leases
             deadlines := s.deadlines.filter fun e => !e.isFrom n } := by
  have forgotten := State.SlotsOnly.leases_too (forgetEntries_slotsOnly n s)
  have given : (forgetEntries n s).SlotsAndLeasesOnly (giveUpLeases n (forgetEntries n s)) :=
    foldl_rel (R := State.SlotsAndLeasesOnly) (fun _ => rfl) State.SlotsAndLeasesOnly.trans (slotsAndLeasesOnly_giveUpIfHeldBy n) _ _
  unfold State.withoutPort
  exact State.SlotsAndLeasesOnly.trans forgotten given

theorem lease_withoutPort (n : PortNo) (s : State) (k : LeaseNo) : (s.withoutPort n).lease k =
    if (s.lease k).any (fun x => x.port == n) = true then none else s.lease k := by
  have same : (forgetEntries n s).lease k = s.lease k := State.SlotsOnly.lease (forgetEntries_slotsOnly n s) k
  unfold State.withoutPort giveUpLeases
  rw [lease_foldl_giveUp, same]
  simp [List.mem_finRange]

theorem givenUp_withoutPort (n : PortNo) : s.GivenUp (s.withoutPort n) := by
  unfold State.withoutPort
  exact givenUp_portReset n

theorem port_withoutPort (n m : PortNo) (s : State) : (s.withoutPort n).port m = s.port m := by
  obtain ⟨slots, leases, e⟩ : ∃ slots leases, s.withoutPort n =
    { s with slots, leases, deadlines := s.deadlines.filter fun e => !e.isFrom n } := ⟨_, _, withoutPort_frame n s⟩
  rw [e]
  rfl

theorem portReset_of_good {b : Byte} (e : portOfByte b = some n) : portReset b s =
    ((s.withoutPort n).updPort n Port.emptied).hold .portReset (.ok (.portReset (s.port n).requests.length
      (s.port n).responses.length (s.deadlines.countP (DeadlineEntry.isFrom n)) (s.leasesOf n))) := by
  unfold portReset State.withoutPort
  rw [e]

theorem portReset_of_bad {b : Byte} (bad : 4 ≤ b.toNat) :
    portReset b s = s.hold .portReset (.refused .badValue Handle.null) := by
  unfold portReset
  rw [portOfByte_eq_none bad]

/-! ## Counts over what has gone -/

theorem countP_split {α : Type} (p q : α → Bool) (l : List α) :
    l.countP p = (l.countP fun x => p x && !q x) + l.countP fun x => q x && p x := by
  rw [List.countP_eq_countP_filter_add l p q, List.countP_filter, List.countP_filter, Nat.add_comm]
  simp [Bool.and_comm]

/-- The leases naming a record are those left and those of the port. -/
theorem leasesNaming_split (leases : ∀ k, t.lease k = if (s.lease k).any (fun x => x.port == n) = true then none else s.lease k)
    (h : Handle) : s.leasesNaming h =
      t.leasesNaming h + s.leases.toList.countP fun l => l.any fun x => x.port == n && x.named == h := by
  unfold State.leasesNaming
  rw [countP_split _ (fun l : Option Lease => l.any fun x => x.port == n) s.leases.toList, s.leases_toList, t.leases_toList]
  simp only [List.countP_map]
  congr 1
  · refine List.countP_congr fun k _ => ?_
    simp only [Function.comp, leases]
    cases s.lease k with
    | none => simp
    | some l => by_cases q : l.port = n <;> simp [q]
  · refine List.countP_congr fun k _ => ?_
    simp only [Function.comp]
    cases s.lease k with
    | none => simp
    | some l => simp

/-- The wakes bound to a CLOCK are those left and those of the port. -/
theorem wakes_split (list : t.deadlines = s.deadlines.filter fun e => !e.isFrom n) (h : Handle) :
    s.deadlines.countP (DeadlineEntry.isWakeOf h) = t.deadlines.countP (DeadlineEntry.isWakeOf h) +
      s.deadlines.countP fun e => e.isFrom n && e.isWakeOf h := by
  rw [list, List.countP_filter]
  exact countP_split _ _ _

/-- Entries with the same place in arming order are the same (R136). -/
theorem DeadlinesTied.eq_of_order (tied : DeadlinesTied s) {e e' : DeadlineEntry} (mem : e ∈ s.deadlines)
    (mem' : e' ∈ s.deadlines) (same : e.order = e'.order) : e = e' :=
  List.inj_on_of_nodup_map (f := DeadlineEntry.order) (List.pairwise_map.2 tied.2.1) mem mem' same

/-- A SPLICE of a current ALIAS is the one it has pending (R19, R137). -/
theorem DeadlinesTied.pending_of_mem {a : AliasRecord} {e : DeadlineEntry} {o : Origin} {k : Handle} (tied : DeadlinesTied s)
    (cur : s.current h = some (ph, .ofAlias a)) (mem : e ∈ s.deadlines) (work : e.work = .splice o h k) :
    a.pendingSplice = some e.order := by
  obtain ⟨-, -, entries, -, -⟩ := tied
  have entry := (entries e mem).2
  unfold DeadlineEntry.tied at entry
  rw [work] at entry
  obtain ⟨⟨ph', a', cur', -, pending⟩, -⟩ := entry
  rw [cur] at cur'
  cases cur'
  exact pending

/-- A pending splice is in the list (R19). -/
theorem DeadlinesTied.mem_of_pending {a : AliasRecord} {p : Nat} (tied : DeadlinesTied s)
    (cur : s.current h = some (ph, .ofAlias a)) (pending : a.pendingSplice = some p) :
    ∃ e ∈ s.deadlines, e.order = p ∧ ∃ o k, e.work = .splice o h k := by
  obtain ⟨-, -, -, -, aliases⟩ := tied
  exact ((aliases h ph a cur).2 p pending).2

/-- A pending splice is gone where its entry was the port's, and else is as before (R153). -/
theorem pendingSplice_withoutPort {ph' : Phase} {a a' : AliasRecord} (list : t.deadlines = s.deadlines.filter fun e => !e.isFrom n)
    (tied : DeadlinesTied s) (tied' : DeadlinesTied t) (cur : s.current h = some (ph, .ofAlias a))
    (cur' : t.current h = some (ph', .ofAlias a')) : a'.pendingSplice =
      if s.deadlines.any fun e => e.isFrom n && some e.order == a.pendingSplice then none else a.pendingSplice := by
  have spliced {e : DeadlineEntry} (mem : e ∈ s.deadlines) {o : Origin} {k : Handle} (work : e.work = .splice o h k) :
      a.pendingSplice = some e.order := tied.pending_of_mem cur mem work
  cases gone : s.deadlines.any fun e => e.isFrom n && some e.order == a.pendingSplice with
  | true =>
    obtain ⟨e, mem, own⟩ := List.any_eq_true.1 gone
    rw [Bool.and_eq_true, beq_iff_eq] at own
    obtain ⟨own, pending⟩ := own
    refine (Option.eq_none_iff_forall_ne_some.2 fun o' pending' => ?_).trans (if_pos rfl).symm
    obtain ⟨e', mem', -, o, k, work⟩ := tied'.mem_of_pending cur' pending'
    rw [list, List.mem_filter] at mem'
    have same : e = e' := tied.eq_of_order mem mem'.1 (Option.some_inj.1 (pending.trans (spliced mem'.1 work)))
    rw [← same, own] at mem'
    cases mem'.2
  | false =>
    refine Eq.trans ?_ (if_neg Bool.false_ne_true).symm
    cases pending : a.pendingSplice with
    | none =>
      refine Option.eq_none_iff_forall_ne_some.2 fun o' pending' => ?_
      obtain ⟨e', mem', -, o, k, work⟩ := tied'.mem_of_pending cur' pending'
      rw [list, List.mem_filter] at mem'
      rw [spliced mem'.1 work] at pending
      cases pending
    | some o =>
      obtain ⟨e, mem, rfl, origin, k, work⟩ := tied.mem_of_pending cur pending
      have other : e.isFrom n = false := by
        have := List.any_eq_false.1 gone e mem
        simpa [pending] using this
      exact tied'.pending_of_mem cur' (by rw [list, List.mem_filter]; exact ⟨mem, by simp [other]⟩) work

/-! ## The obligation -/

/-- A record is told from its handle alone after a port reset: its slot keeps its generation while it keeps its record. -/
theorem current_of_kept {i : SlotNo} {r' : Record} (legal : SlotsLegal s) (e : (s.slot i).content = .active ph r)
    (kept : t.slot i = { s.slot i with content := .active ph r' }) :
    s.current (s.handleOf i) = some (ph, r) ∧ t.current (s.handleOf i) = some (ph, r') := by
  have h0 : i ≠ 0 := by
    rintro rfl
    rw [legal.2] at e
    cases e
  refine ⟨current_handleOf h0 (legal.gen_ne_zero i) e, State.current_eq_some.2 ⟨h0, legal.gen_ne_zero i, ?_, ?_⟩⟩
  · exact (congrArg Slot.gen kept).symm
  · exact congrArg Slot.content kept

/-- The slots and tables of a state stand to another as a port reset leaves them. -/
structure PortGone (s : State) (n : PortNo) (t : State) : Prop where
  slots : s.GivenUp t
  lease : ∀ k, t.lease k = if (s.lease k).any (fun x => x.port == n) = true then none else s.lease k
  list : t.deadlines = s.deadlines.filter fun e => !e.isFrom n
  leasesTied : LeasesTied t
  deadlinesTied : DeadlinesTied t

/-- A DRAINING record that ended had no leases but the port's (R40). -/
theorem PortGone.ended {i : SlotNo} {k : RecordKind} (gone : PortGone s n t) (legal : SlotsLegal s) (tied : LeasesTied s)
    (active : (s.slot i).content = .active ph r) (retired : (t.slot i).content = .retired k) :
    (s.leases.toList.countP fun l => l.any fun x => x.port == n && x.named == s.handleOf i) = r.leaseCount := by
  obtain ⟨cur, -⟩ := current_of_kept (t := s) (r' := r) legal active (by rw [← active])
  have stale : t.tenure (s.handleOf i) = none := by
    have none : t.current (s.handleOf i) = none := Option.eq_none_iff_forall_ne_some.2 fun ⟨ph', r'⟩ q => by
      have content := (State.current_eq_some.1 q).2.2.2
      change (t.slot i).content = _ at content
      rw [retired] at content
      cases content
    unfold State.tenure State.view
    rw [none, Option.bind_none]
  have split := leasesNaming_split gone.lease (s.handleOf i)
  rw [(leasesTied_iff.1 gone.leasesTied).1.none_naming stale, Nat.zero_add] at split
  rw [← split, (tied.1 _ _ _ cur).1]

/-- A record that stays has lost the port's leases, and as DRAINING has another (R22, R31, R40). -/
theorem PortGone.kept {i : SlotNo} {r' : Record} (gone : PortGone s n t) (legal : SlotsLegal s) (tied : LeasesTied s)
    (active : (s.slot i).content = .active ph r) (kept : t.slot i = { s.slot i with content := .active ph r' }) :
    r'.leaseCount = r.leaseCount - (s.leases.toList.countP fun l => l.any fun x => x.port == n && x.named == s.handleOf i) ∧
      (ph.isDraining = true → 1 ≤ r'.leaseCount) := by
  obtain ⟨cur, cur'⟩ := current_of_kept legal active kept
  obtain ⟨count', held⟩ := gone.leasesTied.1 _ _ _ cur'
  have split := leasesNaming_split gone.lease (s.handleOf i)
  rw [← (tied.1 _ _ _ cur).1, ← count'] at split
  exact ⟨by omega, held⟩

/-- The wakes left of a CLOCK that stays (R22, R153). -/
theorem PortGone.wakes {i : SlotNo} {c c' : ClockRecord} (gone : PortGone s n t) (legal : SlotsLegal s) (tied : DeadlinesTied s)
    (active : (s.slot i).content = .active ph (.ofClock c))
    (kept : t.slot i = { s.slot i with content := .active ph (.ofClock c') }) :
    c'.wakeCount = c.wakeCount - s.deadlines.countP fun e => e.isFrom n && e.isWakeOf (s.handleOf i) := by
  obtain ⟨cur, cur'⟩ := current_of_kept legal active kept
  obtain ⟨-, -, -, clocks, -⟩ := tied
  obtain ⟨-, -, -, clocks', -⟩ := gone.deadlinesTied
  have split := wakes_split gone.list (s.handleOf i)
  rw [← (clocks _ _ _ cur).1.2, ← (clocks' _ _ _ cur').1.2] at split
  omega

/-- What a port reset leaves in the slot of a record (R40, R153). -/
theorem PortGone.slot {i : SlotNo} (gone : PortGone s n t) (active : (s.slot i).content = .active ph r) :
    (ph.isDraining = true ∧ t.slot i = (s.slot i).retiredAs r.kind) ∨
      ∃ r', t.slot i = { s.slot i with content := .active ph r' } ∧ r'.core = r.core := by
  cases gone.slots i with
  | kept same => exact .inr (Slot.eq_of_core_active same active)
  | ended draining retired =>
    rw [active] at draining
    cases draining
    exact .inl ⟨rfl, retired⟩

theorem PortGone.slot_inactive {i : SlotNo} (gone : PortGone s n t) (inactive : ∀ ph r, (s.slot i).content ≠ .active ph r) :
    t.slot i = s.slot i := by
  cases gone.slots i with
  | kept same => exact Slot.eq_of_core_inactive same inactive
  | ended draining => exact absurd draining (inactive _ _)

theorem PortGone.slot_ended {i : SlotNo} (gone : PortGone s n t) (legal : SlotsLegal s) (tied : LeasesTied s)
    (active : (s.slot i).content = .active ph r) (drains : ph.isDraining = true)
    (all : (s.leases.toList.countP fun l => l.any fun x => x.port == n && x.named == s.handleOf i) = r.leaseCount) :
    t.slot i = (s.slot i).retiredAs r.kind := by
  obtain ⟨-, retired⟩ | ⟨r', kept, -⟩ := gone.slot active
  · exact retired
  · obtain ⟨count, held⟩ := gone.kept legal tied active kept
    have := held drains
    omega

theorem PortGone.slot_stays {i : SlotNo} (gone : PortGone s n t) (legal : SlotsLegal s) (tied : LeasesTied s)
    (active : (s.slot i).content = .active ph r)
    (stays : ¬(ph.isDraining = true ∧
      (s.leases.toList.countP fun l => l.any fun x => x.port == n && x.named == s.handleOf i) = r.leaseCount)) :
    ∃ r', t.slot i = { s.slot i with content := .active ph r' } ∧ r'.core = r.core := by
  obtain ⟨drains, retired⟩ | stayed := gone.slot active
  · exact absurd ⟨drains, gone.ended legal tied active (by rw [retired]; rfl)⟩ stays
  · exact stayed

/-- Settles O53: a port reset keeps the core of every slot that stays, and the agreement of the tables after it gives its counts,
its pending splice, and which DRAINING records have ended. -/
theorem portResetHolds : Obligations.PortReset := by
  intro s b asked
  refine ⟨fun bad => exec_asked asked (portReset_of_bad bad), fun n e legal leases deadlines => ?_⟩
  dsimp only
  have run := exec_asked asked (portReset_of_good (portOfByte_eq_some e))
  have frame := withoutPort_frame n s
  have gone : PortGone s n (((s.withoutPort n).updPort n Port.emptied).hold .portReset (.ok (.portReset
      (s.port n).requests.length (s.port n).responses.length (s.deadlines.countP (DeadlineEntry.isFrom n)) (s.leasesOf n)))) :=
    { slots := givenUp_withoutPort n
      lease := lease_withoutPort n s
      list := congrArg State.deadlines frame
      leasesTied := (leasesTied_tableProperty.exec run ⟨legal, leases⟩).2
      deadlinesTied := (linked_tableProperty.exec run ⟨legal, deadlines.linked legal⟩).2.deadlinesTied }
  refine ⟨_, run, ?_, gone.lease, fun m other => ?_, ⟨loseSelection (s.port n).tx, ?_, fun _ _ _ => loseSelection_fetch,
    loseSelection_other⟩, fun i => ⟨gone.slot_inactive, fun ph r active => ⟨gone.slot_ended legal leases active, fun stays => ?_⟩⟩⟩
  · unfold State.hold State.updPort
    rw [frame]
    rfl
  · rw [State.port_hold, State.port_updPort, if_neg (Ne.symm other), port_withoutPort]
  · rw [State.port_hold, State.port_updPort, if_pos rfl, port_withoutPort]
    rfl
  · obtain ⟨r', kept, core⟩ := gone.slot_stays legal leases active stays
    have count := (gone.kept legal leases active kept).1
    refine ⟨?_, ?_⟩
    · rintro c rfl
      obtain ⟨l, k, w, rfl⟩ := Record.eq_of_core_ofClock core
      refine ⟨k, kept.trans ?_⟩
      have wakes : w = _ := gone.wakes legal deadlines active kept
      have count : l = _ := count
      rw [wakes, count]
      rfl
    · rintro a rfl
      obtain ⟨l, p, rfl⟩ := Record.eq_of_core_ofAlias core
      obtain ⟨cur, cur'⟩ := current_of_kept legal active kept
      have pending : p = _ := pendingSplice_withoutPort gone.list deadlines gone.deadlinesTied cur cur'
      have count : l = _ := count
      rw [kept, pending, count]
      rfl

end Sys2Proof.Machine
end

section
/-! SUPPORT. Resolution of a port request's handle (R42 to R46), one lemma for each check that can fail and one for what is left
once the clock behind the named record is known. -/

namespace Sys2Proof.Machine

variable {s : State} {h eff f : Handle} {st : Status} {ph : Phase} {r : Record} {c : ClockRecord} {a : AliasRecord} {level : Nat}
  {use : UseKind} {fresh : Bool}

/-- Checks 1 and 2, for whatever follows from a failure of them (R42). -/
theorem checkHandle_refuses {refuses : Status → Handle → Prop} (ends : ∀ st f, checkHandle s h = .fail st f → refuses st f) :
    (h = Handle.null → refuses .nullHandle Handle.null) ∧ (h ≠ Handle.null → s.current h = none → refuses .staleHandle h) := by
  refine ⟨?_, fun named stale => ends _ _ (checkHandle_stale named stale)⟩
  rintro rfl
  exact ends _ _ checkHandle_null

/-! ## The clock behind a record (R44) -/

theorem follow_of_reserved (target : s.current a.target = some (.reserved, .ofClock c)) :
    follow s h (.ofAlias a) = .fail .notLive a.target := by
  unfold follow
  dsimp only
  rw [target]

theorem follow_of_target {p : Phase} (target : s.current a.target = some (p, .ofClock c)) (enabled : p ≠ .reserved) :
    follow s h (.ofAlias a) = .pass (a.target, c) := by
  unfold follow
  dsimp only
  rw [target]
  cases p with
  | reserved => exact absurd rfl enabled
  | live | draining => rfl

/-- A CLOCK is its own effective record; an ALIAS has its target's, unless that is RESERVED. -/
theorem follow_of_behind (behind : r = .ofClock c ∧ eff = h ∨ ∃ a p, r = .ofAlias a ∧ eff = a.target ∧
    s.current a.target = some (p, .ofClock c) ∧ p ≠ .reserved) : follow s h r = .pass (eff, c) := by
  obtain ⟨rfl, rfl⟩ | ⟨a, p, rfl, rfl, target, enabled⟩ := behind
  · rfl
  · exact follow_of_target target enabled

/-! ## The checks in their order -/

theorem resolve_of_checkHandle_fail (e : checkHandle s h = .fail st f) : resolve s level use fresh h = .fail st f := by
  unfold resolve
  rw [e]

theorem resolve_of_reserved (cur : s.current h = some (.reserved, r)) : resolve s level use fresh h = .fail .notLive h := by
  unfold resolve
  rw [checkHandle_of_current cur]
  exact if_pos rfl

theorem resolve_of_level (cur : s.current h = some (ph, r)) (enabled : ph ≠ .reserved) (low : r.level < level) :
    resolve s level use fresh h = .fail .level h := by
  unfold resolve
  rw [checkHandle_of_current cur]
  exact (if_neg enabled).trans (if_pos low)

/-- A record that passes checks 1 to 4 is followed (R43, R44). -/
theorem resolve_of_follow_fail (cur : s.current h = some (ph, r)) (enabled : ph ≠ .reserved) (reaches : level ≤ r.level)
    (e : follow s h r = .fail st f) : resolve s level use fresh h = .fail st f := by
  unfold resolve
  rw [checkHandle_of_current cur]
  dsimp only
  rw [if_neg enabled, if_neg (Nat.not_lt.2 reaches), e]

/-- Checks 6 and 7 are all that is left of a record whose clock is known (R45, R46). -/
theorem resolve_of_follow_pass (cur : s.current h = some (ph, r)) (enabled : ph ≠ .reserved) (reaches : level ≤ r.level)
    (e : follow s h r = .pass (eff, c)) : resolve s level use fresh h =
      if r.useSet.has use = false then .fail .use h
      else if c.cfg.useSet.has use = false then .fail .use eff
      else if fresh && ph.isDraining then .fail .draining h
      else .pass { named := h, phase := ph, eff, clock := c } := by
  unfold resolve
  rw [checkHandle_of_current cur]
  dsimp only
  rw [if_neg enabled, if_neg (Nat.not_lt.2 reaches), e]

/-- Settles O39: check by check, in the order of R42 to R46. -/
theorem resolution : Obligations.Resolution := by
  intro s level use fresh h fails
  obtain ⟨null, stale⟩ := checkHandle_refuses (s := s) (h := h) (refuses := fails) fun _ _ => resolve_of_checkHandle_fail
  refine ⟨null, stale, fun ph r cur => ⟨?_, resolve_of_level cur, fun enabled reaches => ⟨?_, fun eff c behind => ?_⟩⟩⟩
  · rintro rfl
    exact resolve_of_reserved cur
  · rintro a c rfl target
    exact resolve_of_follow_fail cur enabled reaches (follow_of_reserved target)
  · have rest := resolve_of_follow_pass (use := use) (fresh := fresh) cur enabled reaches (follow_of_behind behind)
    refine ⟨fun named => rest.trans (if_pos named), fun named clock => ?_,
      fun named clock => ⟨fun checked drains => ?_, fun ok => ?_⟩⟩
    · exact rest.trans (by rw [named, clock]; rfl)
    · exact rest.trans (by rw [named, clock, checked, drains]; rfl)
    · exact rest.trans (by simp [named, clock, ok])

end Sys2Proof.Machine
end

section
/-! SUPPORT. What the evaluation of a granted port request does (R107), as `carryOut` says it of a management request. -/

namespace Sys2Proof.Machine

variable {s t : State} {n : PortNo} {tag : Byte} {q : PortRequest}

/-- The Query Engine's event for a request. -/
def PortRequest.command : PortRequest → Instr
  | .convert .. => .convert
  | .invert .. => .invert
  | .status _ => .status
  | .due .. => .due
  | .wake .. => .wake
  | .lease _ => .lease
  | .release _ => .release
  | .cancel _ => .cancel
  | .retarget .. => .retarget
  | .splice .. => .splice
  | .unsplice _ => .unsplice

/-- The state after port `n`'s request with `tag` has been granted and evaluated. -/
def evaluate (s : State) (n : PortNo) (tag : Byte) : PortRequest → State
  | .convert h sel => (s.serve n).respond n .convert tag (convertAnswer s n h sel)
  | .invert h v => (s.serve n).respond n .invert tag (invertAnswer s n h v)
  | .status h => (s.serve n).respond n .status tag (statusAnswer s n h)
  | .due h p => (s.serve n).respond n .due tag (dueAnswer s n h p)
  | .wake h p => answerWake n tag h p (decideWake s n h p) (s.serve n)
  | .lease h => takeLease n tag h (s.serve n)
  | .release number => takeRelease n tag number (s.serve n)
  | .cancel wanted => cancelTag n tag wanted (s.serve n)
  | .retarget h k => takeRetarget n tag h k (s.serve n)
  | .splice h k d => takeSplice n tag h k d (s.serve n)
  | .unsplice h => takeUnsplice n tag h (s.serve n)

/-- The event of the request that is granted next evaluates it. -/
theorem exec_granted (grants : s.grants n tag q) : exec q.command s = .next (evaluate s n tag q) := by
  obtain ⟨high, granted⟩ := grants
  have runs (u : State) : taken s u = .next u := taken_high high
  cases q with
  | _ =>
    refine Eq.trans ?_ (runs _)
    refine congrArg (taken s) ?_
    rw [granted]
    rfl

theorem exec_grants (grants : s.grants n tag q) (e : evaluate s n tag q = t) : exec q.command s = .next t := by
  rw [exec_granted grants, e]

theorem State.port_serve (n m : PortNo) : (s.serve n).port m =
    if n = m then { s.port n with requests := (s.port n).requests.tail } else s.port m :=
  State.port_updPort s n m fun p => { p with requests := p.requests.tail }

theorem State.level_serve (n m : PortNo) : ((s.serve n).port m).level = (s.port m).level := by
  rw [State.port_serve]
  split
  next same => rw [same]
  · rfl

end Sys2Proof.Machine
end

section
/-! SUPPORT. The checks of RETARGET, SPLICE and UNSPLICE (R48, R53, R164, R166): the ALIAS handle's from a port and from the
management port, the new target's, and the ALIAS's own, and that each request's function starts with them. -/

namespace Sys2Proof.Machine

variable {s : State} {h k f : Handle} {d : LocalTime} {st : Status} {ph p : Phase} {r : Record} {c : ClockRecord}
  {a b : AliasRecord} {level : Nat} {n : PortNo} {tag : Byte}

/-! ## The ALIAS handle -/

theorem checkAliasFromPort_of_fail (e : checkHandle s h = .fail st f) : checkAliasFromPort s level h = .fail st f := by
  unfold checkAliasFromPort
  rw [e]

theorem checkAliasFromPort_of_reserved (cur : s.current h = some (.reserved, r)) :
    checkAliasFromPort s level h = .fail .notLive h := by
  unfold checkAliasFromPort
  rw [checkHandle_of_current cur]
  exact if_pos rfl

theorem checkAliasFromPort_of_level (cur : s.current h = some (ph, r)) (enabled : ph ≠ .reserved) (low : level ≠ 0) :
    checkAliasFromPort s level h = .fail .level h := by
  unfold checkAliasFromPort
  rw [checkHandle_of_current cur]
  exact (if_neg enabled).trans (if_pos low)

theorem checkAliasFromPort_ofClock (cur : s.current h = some (ph, .ofClock c)) (enabled : ph ≠ .reserved) (top : level = 0) :
    checkAliasFromPort s level h = .fail .wrongKind h := by
  unfold checkAliasFromPort
  rw [checkHandle_of_current cur]
  exact (if_neg enabled).trans (if_neg (not_not.2 top))

theorem checkAliasFromMgmt_of_fail (e : checkHandle s h = .fail st f) : checkAliasFromMgmt s h = .fail st f := by
  unfold checkAliasFromMgmt
  rw [e]

theorem checkAliasFromMgmt_ofClock (cur : s.current h = some (ph, .ofClock c)) :
    checkAliasFromMgmt s h = .fail .wrongKind h := by
  unfold checkAliasFromMgmt
  rw [checkHandle_of_current cur]

/-! ## The new target, the ALIAS in DRAINING, a pending splice -/

theorem checkNewTarget_of_fail (e : checkHandle s k = .fail st f) : checkNewTarget s k = .fail st f := by
  unfold checkNewTarget
  rw [e]

theorem checkNewTarget_ofAlias (cur : s.current k = some (p, .ofAlias b)) : checkNewTarget s k = .fail .wrongKind k := by
  unfold checkNewTarget
  rw [checkHandle_of_current cur]

theorem checkNewTarget_of_draining (cur : s.current k = some (p, .ofClock c)) (drains : p.isDraining = true) :
    checkNewTarget s k = .fail .draining k := by
  unfold checkNewTarget
  rw [checkHandle_of_current cur]
  cases p with
  | draining => rfl
  | reserved | live => cases drains

theorem checkNewTarget_of_active (cur : s.current k = some (p, .ofClock c)) (active : p.isDraining = false) :
    checkNewTarget s k = .pass c := by
  unfold checkNewTarget
  rw [checkHandle_of_current cur]
  cases p with
  | draining => cases active
  | reserved | live => rfl

theorem checkMove_of_fail (e : checkNewTarget s k = .fail st f) : checkMove s h k (ph, a) = .fail st f := by
  unfold checkMove
  rw [e]

theorem checkMove_of_draining (e : checkNewTarget s k = .pass c) (drains : ph.isDraining = true) :
    checkMove s h k (ph, a) = .fail .draining h := by
  unfold checkMove
  rw [e]
  exact if_pos drains

theorem checkMove_of_pending (e : checkNewTarget s k = .pass c) (active : ph.isDraining = false)
    (pending : a.pendingSplice ≠ none) : checkMove s h k (ph, a) = .fail .busy h := by
  unfold checkMove
  rw [e]
  exact (if_neg (by simp [active])).trans (if_pos (Option.isSome_iff_ne_none.2 pending))

/-- The checks RETARGET and SPLICE share after the ALIAS handle's own, in their order, for whatever follows from a failure of
them (R164, R166). -/
theorem checkMove_refuses {refuses : Status → Handle → Prop}
    (ends : ∀ st f, checkMove s h k (ph, a) = .fail st f → refuses st f) :
    (k = Handle.null → refuses .nullHandle Handle.null) ∧ (k ≠ Handle.null → s.current k = none → refuses .staleHandle k) ∧
      (∀ p b, s.current k = some (p, .ofAlias b) → refuses .wrongKind k) ∧
      ∀ p c, s.current k = some (p, .ofClock c) →
        (p.isDraining = true → refuses .draining k) ∧
        (p.isDraining = false → ph.isDraining = true → refuses .draining h) ∧
        (p.isDraining = false → ph.isDraining = false → a.pendingSplice ≠ none → refuses .busy h) := by
  have target {st f} (e : checkNewTarget s k = .fail st f) : refuses st f := ends _ _ (checkMove_of_fail e)
  obtain ⟨null, stale⟩ := checkHandle_refuses fun _ _ e => target (checkNewTarget_of_fail e)
  refine ⟨null, stale, fun p b cur => target (checkNewTarget_ofAlias cur), fun p c cur =>
    ⟨fun drains => target (checkNewTarget_of_draining cur drains), fun active drains => ?_, fun active stays pending => ?_⟩⟩
  · exact ends _ _ (checkMove_of_draining (checkNewTarget_of_active cur active) drains)
  · exact ends _ _ (checkMove_of_pending (checkNewTarget_of_active cur active) stays pending)

/-! ## The requests from a port -/

theorem takeRetarget_of_alias_fail (e : checkAliasFromPort s (s.port n).level h = .fail st f) :
    takeRetarget n tag h k s = s.respond n .retarget tag (.refused st f) := by
  unfold takeRetarget
  rw [e]

theorem takeRetarget_of_move_fail (pass : checkAliasFromPort s (s.port n).level h = .pass (ph, a))
    (e : checkMove s h k (ph, a) = .fail st f) : takeRetarget n tag h k s = s.respond n .retarget tag (.refused st f) := by
  unfold takeRetarget
  rw [pass]
  dsimp only
  rw [e]

theorem takeSplice_of_alias_fail (e : checkAliasFromPort s (s.port n).level h = .fail st f) :
    takeSplice n tag h k d s = s.respond n .splice tag (.refused st f) := by
  unfold takeSplice
  rw [e]

theorem takeSplice_of_move_fail (pass : checkAliasFromPort s (s.port n).level h = .pass (ph, a))
    (e : checkMove s h k (ph, a) = .fail st f) : takeSplice n tag h k d s = s.respond n .splice tag (.refused st f) := by
  unfold takeSplice
  rw [pass]
  dsimp only
  rw [e]

theorem takeUnsplice_of_alias_fail (e : checkAliasFromPort s (s.port n).level h = .fail st f) :
    takeUnsplice n tag h s = s.respond n .unsplice tag (.refused st f) := by
  unfold takeUnsplice
  rw [e]

/-- The three requests of a port that name an ALIAS, each with its event. -/
def aliasPortRequests (h k : Handle) (d : LocalTime) : List (Instr × PortRequest) :=
  [(.retarget, .retarget h k), (.splice, .splice h k d), (.unsplice, .unsplice h)]

section
variable {x : Instr × PortRequest}

theorem command_aliasPortRequests (mem : x ∈ aliasPortRequests h k d) : x.2.command = x.1 := by
  simp only [aliasPortRequests, List.mem_cons, List.not_mem_nil, or_false] at mem
  obtain rfl | rfl | rfl := mem <;> rfl

/-- Each of the three checks its ALIAS handle first (R48). -/
theorem evaluate_of_alias_fail (mem : x ∈ aliasPortRequests h k d) (e : checkAliasFromPort s (s.port n).level h = .fail st f) :
    evaluate s n tag x.2 = (s.serve n).respond n x.2.code tag (.refused st f) := by
  have served : checkAliasFromPort (s.serve n) ((s.serve n).port n).level h = .fail st f := by
    rw [State.level_serve]
    exact e
  simp only [aliasPortRequests, List.mem_cons, List.not_mem_nil, or_false] at mem
  obtain rfl | rfl | rfl := mem
  · exact takeRetarget_of_alias_fail served
  · exact takeSplice_of_alias_fail served
  · exact takeUnsplice_of_alias_fail served

/-- RETARGET and SPLICE of a passing ALIAS check the move next (R164, R166). -/
theorem evaluate_of_move_fail (mem : x ∈ aliasPortRequests h k d) (moves : x.1 ≠ .unsplice)
    (pass : checkAliasFromPort s (s.port n).level h = .pass (ph, a)) (e : checkMove s h k (ph, a) = .fail st f) :
    evaluate s n tag x.2 = (s.serve n).respond n x.2.code tag (.refused st f) := by
  have served : checkAliasFromPort (s.serve n) ((s.serve n).port n).level h = .pass (ph, a) := by
    rw [State.level_serve]
    exact pass
  simp only [aliasPortRequests, List.mem_cons, List.not_mem_nil, or_false] at mem
  obtain rfl | rfl | rfl := mem
  · exact takeRetarget_of_move_fail served e
  · exact takeSplice_of_move_fail served e
  · exact absurd rfl moves

end

/-! ## The requests from the management port -/

theorem mgmtRetarget_of_alias_fail (e : checkAliasFromMgmt s h = .fail st f) :
    mgmtRetarget h k s = s.hold .retarget (.refused st f) := by
  unfold mgmtRetarget
  rw [e]

theorem mgmtRetarget_of_move_fail (pass : checkAliasFromMgmt s h = .pass (ph, a))
    (e : checkMove s h k (ph, a) = .fail st f) : mgmtRetarget h k s = s.hold .retarget (.refused st f) := by
  unfold mgmtRetarget
  rw [pass]
  dsimp only
  rw [e]

theorem mgmtSplice_of_alias_fail (e : checkAliasFromMgmt s h = .fail st f) :
    mgmtSplice h k d s = s.hold .splice (.refused st f) := by
  unfold mgmtSplice
  rw [e]

theorem mgmtSplice_of_move_fail (pass : checkAliasFromMgmt s h = .pass (ph, a))
    (e : checkMove s h k (ph, a) = .fail st f) : mgmtSplice h k d s = s.hold .splice (.refused st f) := by
  unfold mgmtSplice
  rw [pass]
  dsimp only
  rw [e]

theorem mgmtUnsplice_of_alias_fail (e : checkAliasFromMgmt s h = .fail st f) :
    mgmtUnsplice h s = s.hold .unsplice (.refused st f) := by
  unfold mgmtUnsplice
  rw [e]

/-- The three management requests that name an ALIAS, each with its event. -/
def aliasMgmtRequests (h k : Handle) (d : LocalTime) : List (Instr × MgmtRequest) :=
  [(.mgmtRetarget, .retarget h k), (.mgmtSplice, .splice h k d), (.mgmtUnsplice, .unsplice h)]

section
variable {x : Instr × MgmtRequest}

theorem command_aliasMgmtRequests (mem : x ∈ aliasMgmtRequests h k d) : x.2.command = x.1 := by
  simp only [aliasMgmtRequests, List.mem_cons, List.not_mem_nil, or_false] at mem
  obtain rfl | rfl | rfl := mem <;> rfl

/-- Each of the three checks its ALIAS handle first (R53). -/
theorem carryOut_of_alias_fail (mem : x ∈ aliasMgmtRequests h k d) (e : checkAliasFromMgmt s h = .fail st f) :
    carryOut s x.2 = s.hold x.2.code (.refused st f) := by
  simp only [aliasMgmtRequests, List.mem_cons, List.not_mem_nil, or_false] at mem
  obtain rfl | rfl | rfl := mem
  · exact mgmtRetarget_of_alias_fail e
  · exact mgmtSplice_of_alias_fail e
  · exact mgmtUnsplice_of_alias_fail e

/-- RETARGET and SPLICE of a passing ALIAS check the move next (R164, R166). -/
theorem carryOut_of_move_fail (mem : x ∈ aliasMgmtRequests h k d) (moves : x.1 ≠ .mgmtUnsplice)
    (pass : checkAliasFromMgmt s h = .pass (ph, a)) (e : checkMove s h k (ph, a) = .fail st f) :
    carryOut s x.2 = s.hold x.2.code (.refused st f) := by
  simp only [aliasMgmtRequests, List.mem_cons, List.not_mem_nil, or_false] at mem
  obtain rfl | rfl | rfl := mem
  · exact mgmtRetarget_of_move_fail pass e
  · exact mgmtSplice_of_move_fail pass e
  · exact absurd rfl moves

end

/-- Settles O42: a failed check of the ALIAS handle, then a failed check of the move, is what the request answers. -/
theorem aliasRequestChecks : Obligations.AliasRequestChecks := by
  refine fun s h k d high => ⟨fun x mem n tag granted => ?_, fun x mem progress => ?_⟩
  · have ends {t : State} (e : evaluate s n tag x.2 = t) : exec x.1 s = .next t :=
      command_aliasPortRequests mem ▸ exec_grants ⟨high, granted⟩ e
    have refused {st f} (e : checkAliasFromPort s (s.port n).level h = .fail st f) := ends (evaluate_of_alias_fail mem e)
    obtain ⟨null, stale⟩ := checkHandle_refuses fun _ _ e => refused (checkAliasFromPort_of_fail e)
    refine ⟨null, stale, fun ph r cur => ⟨?_, fun enabled low => refused (checkAliasFromPort_of_level cur enabled low),
      fun enabled top => ⟨?_, ?_⟩⟩⟩
    · rintro rfl
      exact refused (checkAliasFromPort_of_reserved cur)
    · rintro c rfl
      exact refused (checkAliasFromPort_ofClock cur enabled top)
    · rintro a rfl moves
      have pass := checkAliasFromPort_pass.2 ⟨cur, enabled, top⟩
      exact checkMove_refuses fun _ _ e => ends (evaluate_of_move_fail mem moves pass e)
  · have ends {t : State} (e : carryOut s x.2 = t) : exec x.1 s = .next t :=
      command_aliasMgmtRequests mem ▸ exec_asked ⟨high, progress⟩ e
    have refused {st f} (e : checkAliasFromMgmt s h = .fail st f) := ends (carryOut_of_alias_fail mem e)
    obtain ⟨null, stale⟩ := checkHandle_refuses fun _ _ e => refused (checkAliasFromMgmt_of_fail e)
    refine ⟨null, stale, fun ph r cur => ⟨?_, ?_⟩⟩
    · rintro c rfl
      exact refused (checkAliasFromMgmt_ofClock cur)
    · rintro a rfl moves
      exact checkMove_refuses fun _ _ e => ends (carryOut_of_move_fail mem moves (checkAliasFromMgmt_pass.2 cur) e)

end Sys2Proof.Machine
end

section
/-! SUPPORT. The check value of R58 as one fold over the bits of a frame: linear in the register and the bits, and without loss in
either. -/

namespace Sys2Proof.Machine

theorem frameBits_append (xs ys : List Byte) : frameBits (xs ++ ys) = frameBits xs ++ frameBits ys := List.flatMap_append

/-- Bytes take their bits through the register one after another. -/
theorem crc8_eq_foldl (bs : List Byte) : crc8 bs = (frameBits bs).foldl crcBit 0 := List.foldl_flatMap.symm

theorem crc8_append (xs ys : List Byte) : crc8 (xs ++ ys) = (frameBits ys).foldl crcBit (crc8 xs) := by
  rw [crc8_eq_foldl, crc8_eq_foldl, frameBits_append, List.foldl_append]

/-! ## Linearity -/

/-- The register's shift and its conditional polynomial are both sums modulo 2. -/
theorem crcBit_xor (c d : Byte) (a b : Bool) : crcBit (c ^^^ d) (a ^^ b) = crcBit c a ^^^ crcBit d b := by
  have one (c : Byte) (a : Bool) : crcBit c a = c <<< 1 ^^^ if c.msb ^^ a then 0x07 else 0 := by
    unfold crcBit
    cases c.msb <;> cases a <;> simp
  have poly (p q : Bool) : (if p ^^ q then (0x07 : Byte) else 0) = (if p then 0x07 else 0) ^^^ if q then 0x07 else 0 := by
    cases p <;> cases q <;> rfl
  have top : ((c ^^^ d).msb ^^ (a ^^ b)) = ((c.msb ^^ a) ^^ (d.msb ^^ b)) := by
    rw [BitVec.msb_xor, Bool.xor_assoc, Bool.xor_left_comm d.msb, ← Bool.xor_assoc]
  rw [one, one, one, top, poly, BitVec.shiftLeft_xor_distrib]
  ac_rfl

theorem foldl_crcBit_xor {xs ys : List Bool} (same : xs.length = ys.length) (c d : Byte) :
    (List.zipWith (· ^^ ·) xs ys).foldl crcBit (c ^^^ d) = xs.foldl crcBit c ^^^ ys.foldl crcBit d := by
  induction xs generalizing ys c d with
  | nil =>
    obtain rfl := List.length_eq_zero_iff.1 same.symm
    rfl
  | cons x xs ih =>
    obtain ⟨y, ys, rfl⟩ := List.exists_cons_of_length_eq_add_one same.symm
    rw [List.zipWith_cons_cons, List.foldl_cons, crcBit_xor, ih (Nat.succ.inj same)]
    rfl

theorem bitsOfByte_xor (x y : Byte) : bitsOfByte (x ^^^ y) = List.zipWith (· ^^ ·) (bitsOfByte x) (bitsOfByte y) := by
  simp [bitsOfByte]

theorem frameBits_xor (xs ys : List Byte) :
    frameBits (List.zipWith (· ^^^ ·) xs ys) = List.zipWith (· ^^ ·) (frameBits xs) (frameBits ys) := by
  induction xs generalizing ys with
  | nil => rfl
  | cons x xs ih =>
    cases ys with
    | nil => exact (List.zipWith_nil_right).symm
    | cons y ys =>
      change bitsOfByte (x ^^^ y) ++ frameBits (List.zipWith (· ^^^ ·) xs ys) =
        List.zipWith (· ^^ ·) (bitsOfByte x ++ frameBits xs) (bitsOfByte y ++ frameBits ys)
      rw [bitsOfByte_xor, ih]
      exact (List.zipWith_append (l₁ := bitsOfByte x) (l₂ := bitsOfByte y) rfl).symm

theorem crc8_xor {xs ys : List Byte} (same : xs.length = ys.length) :
    crc8 (List.zipWith (· ^^^ ·) xs ys) = crc8 xs ^^^ crc8 ys := by
  rw [crc8_eq_foldl, frameBits_xor, crc8_eq_foldl, crc8_eq_foldl]
  exact foldl_crcBit_xor (by rw [length_frameBits, length_frameBits, same]) 0 0

/-! ## What the register loses: nothing -/

/-- A bit equal to the register's highest cancels it. -/
theorem crcBit_msb (c : Byte) : crcBit c c.msb = c <<< 1 := by simp [crcBit]

/-- A register that meets its own value is shifted out, which is why a frame with its check value has check value 0. -/
theorem foldl_bitsOfByte_self (c : Byte) : (bitsOfByte c).foldl crcBit c = 0 := by
  have shift (k : Nat) (small : k < 8) : crcBit (c <<< k) (c.getLsbD (7 - k)) = c <<< (k + 1) := by
    have top : c.getLsbD (7 - k) = (c <<< k).msb := by
      rw [BitVec.msb_eq_getLsbD_last, BitVec.getLsbD_shiftLeft]
      simp [Nat.le_of_lt_succ small]
    rw [top, crcBit_msb, BitVec.shiftLeft_add]
  calc (bitsOfByte c).foldl crcBit c
      = (bitsOfByte c).foldl crcBit (c <<< 0) := by rw [BitVec.shiftLeft_zero]
    _ = c <<< 8 := by
      simp only [bitsOfByte, List.foldl_cons, List.foldl_nil]
      rw [shift 0, shift 1, shift 2, shift 3, shift 4, shift 5, shift 6, shift 7] <;> decide
    _ = 0 := BitVec.shiftLeft_eq_zero (Nat.le_refl 8)

/-- Leading zeros leave the register as it starts. -/
theorem crc8_zero_cons (bs : List Byte) : crc8 (0 :: bs) = crc8 bs :=
  congrArg (bs.foldl fun c b => (bitsOfByte b).foldl crcBit c) (foldl_bitsOfByte_self 0)

/-- A byte enters the register as a sum modulo 2. -/
theorem foldl_bitsOfByte (c x : Byte) : (bitsOfByte x).foldl crcBit c = (bitsOfByte 0).foldl crcBit (c ^^^ x) := by
  have sum := foldl_crcBit_xor (xs := bitsOfByte x) (ys := bitsOfByte 0) rfl x (c ^^^ x)
  have register : x ^^^ (c ^^^ x) = c := by rw [BitVec.xor_comm c, ← BitVec.xor_assoc, BitVec.xor_self, BitVec.zero_xor]
  rwa [← bitsOfByte_xor, foldl_bitsOfByte_self, register, show x ^^^ 0 = x from BitVec.xor_zero,
    show ∀ y : Byte, 0 ^^^ y = y from fun _ => BitVec.zero_xor] at sum

theorem crcBit_injective (b : Bool) : Function.Injective fun c => crcBit c b := by
  have kernel : ∀ e : Byte, crcBit e false = 0 → e = 0 := by decide
  intro c d (e : crcBit c b = crcBit d b)
  refine BitVec.xor_eq_zero_iff.1 (kernel _ ?_)
  rw [← Bool.xor_self b, crcBit_xor, e]
  exact BitVec.xor_self

/-- Two registers that differ stay different through the same bits. -/
theorem foldl_crcBit_injective (bits : List Bool) : Function.Injective fun c => bits.foldl crcBit c := by
  induction bits with
  | nil => exact Function.injective_id
  | cons b bits ih => exact ih.comp (crcBit_injective b)

/-- Two bytes that differ leave different registers. -/
theorem foldl_bitsOfByte_injective (c : Byte) : Function.Injective fun x => (bitsOfByte x).foldl crcBit c := by
  intro x y (e : (bitsOfByte x).foldl crcBit c = (bitsOfByte y).foldl crcBit c)
  rw [foldl_bitsOfByte c x, foldl_bitsOfByte c y] at e
  exact (BitVec.xor_right_inj c).1 (foldl_crcBit_injective _ e)

/-- Settles O15: the register is linear, ends at 0 on its own value, and keeps one wrong byte through all that follows. -/
theorem checkByte : Obligations.CheckByte := by
  refine ⟨?_, ?_, fun bs => ?_, fun _ _ => crc8_xor, fun us vs x y e => ?_⟩
  · simp only [crc8_zero_cons]
    rfl
  · simp only [crc8_zero_cons]
    decide
  · rw [crc8_append]
    exact (congrArg (List.foldl crcBit _) (List.append_nil _)).trans (foldl_bitsOfByte_self _)
  · have through (z : Byte) : crc8 (us ++ z :: vs) = (frameBits vs).foldl crcBit ((bitsOfByte z).foldl crcBit (crc8 us)) := by
      rw [crc8_append]
      exact List.foldl_append
    rw [through, through] at e
    exact foldl_bitsOfByte_injective _ (foldl_crcBit_injective _ e)

end Sys2Proof.Machine
end

section
/-! SUPPORT. The frame receiver (R56), what a frame end makes of the bits received (R57 to R62), and a whole sample frame bit by
bit. -/

namespace Sys2Proof.Machine

variable {s t : State} {n : InputNo}

/-! ## A receiver's state -/

/-- The state with one input's receiver replaced. -/
def State.putReceiver (s : State) (n : InputNo) (r : Receiver) : State := s.updInput n fun i => { i with receiver := r }

@[simp] theorem State.receiver_putReceiver (r : Receiver) : ((s.putReceiver n r).input n).receiver = r := by
  simp [State.putReceiver]

@[simp] theorem State.putReceiver_putReceiver (q r : Receiver) : (s.putReceiver n q).putReceiver n r = s.putReceiver n r :=
  State.updInput_updInput n _ _

/-! ## The receiver's events (R56) -/

theorem exec_frameStart (high : s.rstLow = false) (idle : (s.input n).receiver = .idle) :
    exec (.frameStart n) s = .next (s.putReceiver n (.assembling 0 [])) := by
  refine (taken_high high).trans (congrArg Host.Outcome.next ?_)
  unfold startFrame
  rw [idle]
  rfl

theorem exec_inputBitSampled {k : Nat} {bits : List Bool} (high : s.rstLow = false)
    (assembling : (s.input n).receiver = .assembling k bits) (b : Bool) : exec (.inputBitSampled n b) s =
      .next (s.putReceiver n (.assembling (k + 1) (if k < 72 then bits ++ [b] else bits))) := by
  refine (taken_high high).trans (congrArg Host.Outcome.next ?_)
  unfold sampleInputBit
  rw [assembling]
  rfl

theorem exec_receiverUnblock (high : s.rstLow = false) (blocked : (s.input n).receiver = .blocked) :
    exec (.receiverUnblock n) s = .next (s.putReceiver n .idle) := by
  refine (taken_high high).trans (congrArg Host.Outcome.next ?_)
  unfold unblockReceiver
  rw [blocked]
  rfl

theorem exec_frameEnd {k : Nat} {bits : List Bool} (high : s.rstLow = false)
    (assembling : (s.input n).receiver = .assembling k bits) :
    exec (.frameEnd n) s = .next (takeFrame n k bits (s.putReceiver n .idle)) := by
  refine (taken_high high).trans (congrArg Host.Outcome.next ?_)
  unfold endFrame
  rw [assembling]
  rfl

/-- Settles O12: each edge writes the receiver alone. -/
theorem frameReceiver : Obligations.FrameReceiver := fun _ _ high =>
  ⟨exec_frameStart high, fun _ _ b assembling => exec_inputBitSampled high assembling b, exec_receiverUnblock high⟩

/-! ## Reading a frame (R57, R58, R190) -/

theorem readSampleFrame_of_count {k : Nat} (bits : List Bool) (other : k ≠ 72) : readSampleFrame k bits = none := if_pos other

theorem readSampleFrame_frameBits (t1 t0 r4 r3 r2 r1 r0 flags check : Byte) :
    readSampleFrame 72 (frameBits [t1, t0, r4, r3, r2, r1, r0, flags, check]) =
      if crc8 [t1, t0, r4, r3, r2, r1, r0, flags] = check then
        some { tag := t1 ++ t0, rv := r4 ++ r3 ++ r2 ++ r1 ++ r0, brk := flags.getLsbD 0 }
      else none := by
  unfold readSampleFrame
  rw [if_neg (fun other => other rfl), bytesOfBits_frameBits]
  dsimp only
  rw [ofNat_natOfBytes_two, refValueOfBytes_five]

/-! ## The Binding Map's entry for a key (R61, R65) -/

theorem binding_eq_none_iff {tag : StreamTag} :
    s.binding n tag = none ↔ ∀ b ∈ s.bindings, ¬(b.input = n ∧ b.tag = tag) := by
  simp [State.binding, List.find?_eq_none]

theorem binding_key {tag : StreamTag} {b : Binding} (found : s.binding n tag = some b) :
    b ∈ s.bindings ∧ b.input = n ∧ b.tag = tag := by
  have key := List.find?_some found
  rw [Bool.and_eq_true, beq_iff_eq, beq_iff_eq] at key
  exact ⟨List.mem_of_find?_eq_some found, key⟩

/-- Where no two entries share a key, an entry is the one its key finds. -/
theorem binding_of_mem {b : Binding} (apart : s.bindings.Pairwise fun x y => ¬(x.input = y.input ∧ x.tag = y.tag))
    (mem : b ∈ s.bindings) : s.binding b.input b.tag = some b := by
  cases found : s.binding b.input b.tag with
  | none => exact absurd ⟨rfl, rfl⟩ (binding_eq_none_iff.1 found b mem)
  | some x =>
    obtain ⟨mem_x, key⟩ := binding_key found
    by_contra other
    have symm : Std.Symm fun x y : Binding => ¬(x.input = y.input ∧ x.tag = y.tag) :=
      ⟨fun _ _ h ⟨input, tag⟩ => h ⟨input.symm, tag.symm⟩⟩
    exact apart.forall mem_x mem (fun e => other (congrArg some e)) key

/-! ## A frame's end (R57 to R62) -/

theorem takeFrame_of_damaged {k : Nat} {bits : List Bool} (damaged : readSampleFrame k bits = none) :
    takeFrame n k bits s = s.notifyInput n 0x0001 := by
  unfold takeFrame
  rw [damaged]
  rfl

theorem takeFrame_of_unbound {k : Nat} {bits : List Bool} {f : SampleFrame} (intact : readSampleFrame k bits = some f)
    (unbound : s.binding n f.tag = none) : takeFrame n k bits s = s.notifyInput n 0x0002 := by
  unfold takeFrame
  rw [intact]
  dsimp only
  rw [unbound]
  rfl

theorem takeFrame_of_bound {k : Nat} {bits : List Bool} {f : SampleFrame} {b : Binding}
    (intact : readSampleFrame k bits = some f) (bound : s.binding n f.tag = some b) : takeFrame n k bits s =
      holdSample n { clock := b.clock, role := b.role, stamp := arrivalStamp s n, rv := f.rv, brk := f.brk } s := by
  unfold takeFrame
  rw [intact]
  dsimp only
  rw [bound]

/-- Settles O13: the frame is read, its key looked up, and the outcome is written with the receiver's return to IDLE. -/
theorem frameEnd : Obligations.FrameEnd := by
  intro s n k bits high assembling
  have ends {t : State} (e : takeFrame n k bits (s.putReceiver n .idle) = t) : exec (.frameEnd n) s = .next t := by
    rw [exec_frameEnd high assembling, e]
  have noticed (f : NoticeSet) : (s.putReceiver n .idle).notifyInput n f =
      s.updInput n fun i => { i with receiver := .idle, notices := i.notices ||| f } := State.updInput_updInput n _ _
  refine ⟨fun other => ends ?_, ?_⟩
  · rw [takeFrame_of_damaged (readSampleFrame_of_count bits other), noticed]
  rintro t1 t0 r4 r3 r2 r1 r0 flags check rfl rfl
  have read := readSampleFrame_frameBits t1 t0 r4 r3 r2 r1 r0 flags check
  refine ⟨fun wrong => ends ?_, fun right => ⟨fun unbound => ends ?_, fun b mem input tag apart => ends ?_⟩⟩
  · rw [if_neg wrong] at read
    rw [takeFrame_of_damaged read, noticed]
  · rw [if_pos right] at read
    have none : (s.putReceiver n .idle).binding n (t1 ++ t0) = none := binding_eq_none_iff.2 unbound
    rw [takeFrame_of_unbound read none, noticed]
  · rw [if_pos right] at read
    have bound : (s.putReceiver n .idle).binding n (t1 ++ t0) = some b := input ▸ tag ▸ binding_of_mem apart mem
    have offset : ((s.putReceiver n .idle).input n).offset = (s.input n).offset := by simp [State.putReceiver]
    rw [takeFrame_of_bound read bound, arrivalStamp, offset]
    refine (State.updInput_updInput n _ _).trans (State.updInput_congr ?_)
    cases e : (s.input n).holding <;> simp [e, State.putReceiver]

/-! ## A whole frame -/

theorem execAll_cons {c : Instr} {cs : List Instr} (e : exec c s = .next t) : execAll (c :: cs) s = execAll cs t := by
  simp only [execAll, e]

theorem execAll_singleton (c : Instr) : execAll [c] s = exec c s := by
  simp only [execAll]
  cases exec c s <;> rfl

/-- A receiver with room keeps all the bits of a run. -/
theorem execAll_inputBits (bits kept : List Bool) (cs : List Instr) (room : kept.length + bits.length ≤ 72)
    (high : s.rstLow = false) :
    execAll (bits.map (.inputBitSampled n) ++ cs) (s.putReceiver n (.assembling kept.length kept)) =
      execAll cs (s.putReceiver n (.assembling (kept ++ bits).length (kept ++ bits))) := by
  induction bits generalizing kept with
  | nil => simp
  | cons b bits ih =>
    rw [List.length_cons] at room
    have sampled := exec_inputBitSampled (s := s.putReceiver n (.assembling kept.length kept)) high
      (State.receiver_putReceiver _) b
    rw [if_pos (by omega), State.putReceiver_putReceiver] at sampled
    have rest := ih (kept ++ [b]) (by rw [List.length_append, List.length_singleton]; omega)
    rw [List.append_assoc, List.singleton_append, List.length_append (bs := [b]), List.length_singleton] at rest
    rw [List.map_cons, List.cons_append, execAll_cons sampled, rest]

/-- Nine bytes clocked in bit by bit are what the frame end finds. -/
theorem execAll_frame {bytes : List Byte} (nine : bytes.length = 9) (high : s.rstLow = false)
    (idle : (s.input n).receiver = .idle) :
    execAll (.frameStart n :: ((frameBits bytes).map (.inputBitSampled n) ++ [.frameEnd n])) s =
      exec (.frameEnd n) (s.putReceiver n (.assembling 72 (frameBits bytes))) := by
  have length : (frameBits bytes).length = 72 := by rw [length_frameBits, nine]
  have sampled := execAll_inputBits (n := n) (frameBits bytes) [] [.frameEnd n] (by simp [nine]) high
  rw [List.nil_append, length, execAll_singleton] at sampled
  rw [execAll_cons (exec_frameStart high idle)]
  exact sampled

/-- Settles O14: the frame's 72 bits are kept in order, and O13 says what the frame end makes of them. -/
theorem sampleFrameIsReceived : Obligations.SampleFrameIsReceived := by
  intro s n t1 t0 r4 r3 r2 r1 r0 flags check b high idle mem apart input tag
  rw [execAll_frame rfl high idle]
  have received := State.receiver_putReceiver (s := s) (n := n)
    (.assembling 72 (frameBits [t1, t0, r4, r3, r2, r1, r0, flags, check]))
  obtain ⟨-, ended⟩ := frameEnd (s.putReceiver n _) n 72 _ high received
  obtain ⟨wrong, right⟩ := ended t1 t0 r4 r3 r2 r1 r0 flags check rfl rfl
  by_cases intact : crc8 [t1, t0, r4, r3, r2, r1, r0, flags] = check
  · refine ((right intact).2 b mem input tag apart).trans (congrArg Host.Outcome.next ?_)
    refine (State.updInput_updInput n _ _).trans (State.updInput_congr ?_)
    simp [intact, idle, State.putReceiver]
  · refine (wrong intact).trans (congrArg Host.Outcome.next ?_)
    refine (State.updInput_updInput n _ _).trans (State.updInput_congr ?_)
    simp [intact, idle]

end Sys2Proof.Machine
end

section
/-! SUPPORT. SAMPLE_TAKE up to the role filter: which held sample is taken, and whether it is discarded, only heard, or takes over
(R63, R75 to R77). -/

namespace Sys2Proof.Machine

variable {s : State} {n : InputNo} {x : Sample} {c : ClockRecord}

/-! ## Round-robin order (R63, R107) -/

/-- In a list in ascending rank, the item found is the one of lowest rank that answers. -/
theorem findSome?_of_ranked {α β : Type} {l : List α} {f : α → Option β} {rank : α → Nat} {a : α} {y : β}
    (ascending : l.Pairwise fun b c => rank b < rank c) (mem : a ∈ l) (hit : f a = some y)
    (first : ∀ b, rank b < rank a → f b = none) : l.findSome? f = some y := by
  obtain ⟨before, after, rfl⟩ := List.append_of_mem mem
  exact List.findSome?_eq_some_iff.2 ⟨before, a, after, rfl, hit, fun b mem_b =>
    first b ((List.pairwise_append.1 ascending).2.2 b mem_b a List.mem_cons_self)⟩

/-- A rotation lists all four numbers by their distance from its first. -/
theorem rotation_ranked (p : Fin 4) :
    (rotation p).Pairwise (fun a b => (a - p).val < (b - p).val) ∧ ∀ n, n ∈ rotation p := by
  revert p
  decide

theorem nextSample_of_first (held : (s.input n).holding = some x)
    (first : ∀ m : InputNo, (m - s.estPtr).val < (n - s.estPtr).val → (s.input m).holding = none) :
    s.nextSample = some (n, x) := by
  obtain ⟨ascending, all⟩ := rotation_ranked s.estPtr
  exact findSome?_of_ranked (rank := fun m => (m - s.estPtr).val) ascending (all n) (by rw [held]; rfl)
    fun m before => by rw [first m before]; rfl

/-! ## The role filter (R75, R76) -/

theorem useSample_of_no_clock (gone : ∀ c, s.current x.clock ≠ some (.live, .ofClock c)) : useSample x s = s := by
  have none : s.liveClock x.clock = none :=
    Option.eq_none_iff_forall_ne_some.2 fun c live => gone c (liveClock_eq_some.1 live)
  unfold useSample
  rw [none]

theorem useSample_of_unbound (unbound : s.roleBound x.clock x.role = false) : useSample x s = s := by
  unfold useSample
  split
  · rfl
  · exact if_pos unbound

/-- A sample of a bound role that is not the active source takes over, or is only heard (R76). -/
theorem useSample_of_other (live : s.current x.clock = some (.live, .ofClock c)) (bound : s.roleBound x.clock x.role = true)
    (other : c.active ≠ some x.role) : useSample x s =
      if c.lock.timeless || c.lock == .holdover then
        applySample x { c.hear x.role s.lt with active := some x.role, rejectRun := 0 } (s.notify x.clock.slot 0x0200)
      else s.withRecord x.clock.slot .live (.ofClock (c.hear x.role s.lt)) 0 := by
  unfold useSample
  rw [liveClock_eq_some.2 live]
  dsimp only
  rw [if_neg (by simp [bound]), if_neg other, State.updClock_of_current _ live]
  rfl

/-! ## A taken-over record (R77) -/

/-- Stages 3 to 9 write the record anew, whatever the earlier stages left of it in the table. -/
theorem applySample_withRecord {c1 : ClockRecord} (live : s.current x.clock = some (.live, .ofClock c)) (c' : ClockRecord)
    (f : NoticeSet) : applySample x c1 (s.withRecord x.clock.slot .live (.ofClock c') f) =
      applySample x c1 (s.notify x.clock.slot f) := by
  rw [State.notify_of_current f live, applySample_eq (State.current_withRecord_self live _ _ _),
    applySample_eq (State.current_withRecord_self live _ _ _)]
  dsimp only
  rw [State.withRecord_withRecord, State.withRecord_withRecord]
  rfl

theorem ClockRecord.hear_source (c : ClockRecord) (r : Role) (now : LocalTime) (a : Option Role) (k : Nat) :
    { c with active := a, rejectRun := k }.hear r now = { c.hear r now with active := a, rejectRun := k } := by
  cases r <;> rfl

/-- A take-over is a take of the active role, on the record with its source switched beforehand (R77). -/
theorem exec_sampleTake_switched (high : s.rstLow = false) (next : s.nextSample = some (n, x))
    (live : s.current x.clock = some (.live, .ofClock c)) (bound : s.roleBound x.clock x.role = true) :
    exec .sampleTake (s.withRecord x.clock.slot .live (.ofClock { c with active := some x.role, rejectRun := 0 }) 0x0200) =
      .next (applySample x { c.hear x.role s.lt with active := some x.role, rejectRun := 0 }
        ((s.afterTake n).notify x.clock.slot 0x0200)) := by
  have takes : (s.withRecord x.clock.slot .live (.ofClock { c with active := some x.role, rejectRun := 0 }) 0x0200).takesActive
      n x { c with active := some x.role, rejectRun := 0 } :=
    ⟨high, next, State.current_withRecord_self live _ _ _, bound, rfl⟩
  rw [exec_sampleTake_active takes, ClockRecord.hear_source]
  exact congrArg Host.Outcome.next (applySample_withRecord (s := s.afterTake n) live _ _)

/-- Settles O16: the first sample in rotation order, then the three outcomes of the role filter. -/
theorem sampleTakeOrder : Obligations.SampleTakeOrder := by
  intro s n x high held first
  have next := nextSample_of_first held first
  have used {t : State} (e : useSample x (s.afterTake n) = t) : exec .sampleTake s = .next t := by
    rw [exec_sampleTake high next, e]
  refine ⟨next, fun gone => used (useSample_of_no_clock gone), fun unbound => used (useSample_of_unbound unbound),
    fun c live bound other => ?_⟩
  have filtered := useSample_of_other (s := s.afterTake n) live bound other
  refine ⟨fun lock => used (filtered.trans (if_neg ?_)), fun lock => ?_⟩
  · obtain lock | lock := lock <;> simp [lock, LockState.timeless]
  · rw [exec_sampleTake_switched high next live bound]
    refine used (filtered.trans (if_pos ?_))
    obtain lock | lock | lock := lock <;> simp [lock, LockState.timeless]

end Sys2Proof.Machine
end

section
/-! SUPPORT. BIND and UNBIND: what each refuses, and the active source it leaves (R65 to R68). -/

namespace Sys2Proof.Machine

variable {s : State} {h : Handle} {ph : Phase} {c : ClockRecord} {input : Byte} {tag : StreamTag} {role : Role} {i : InputNo}
  {st : Status} {f : Handle} {b : Binding}

/-! ## BIND (R66, R67) -/

theorem checkBind_of_bad {x : Phase × Record} (cur : s.current h = some x) (bad : 4 ≤ input.toNat) :
    checkBind s input tag h role = .fail .badValue Handle.null := by
  unfold checkBind
  rw [checkHandle_of_current cur]
  dsimp only
  rw [portOfByte_eq_none bad]

/-- For a CLOCK that is not DRAINING and an input the part has, the checks left are the Binding Map's. -/
theorem checkBind_ofClock (cur : s.current h = some (ph, .ofClock c)) (bindable : ph.isDraining = false)
    (e : i.val = input.toNat) : checkBind s input tag h role =
      if (s.binding i tag).isSome then .fail .duplicateKey Handle.null
      else if s.roleBound h role then .fail .roleTaken Handle.null
      else if Config.bindingCapacity ≤ s.bindings.length then .fail .mapFull Handle.null
      else .pass i := by
  unfold checkBind
  rw [checkHandle_of_current cur]
  dsimp only
  rw [portOfByte_eq_some e]
  exact (if_neg (by simp [Record.kind])).trans (if_neg (by simp [bindable]))

/-- An accepted BIND enters the binding, and its role becomes the active source where there was none (R67). -/
theorem bindTag_of_pass (cur : s.current h = some (ph, .ofClock c)) (e : checkBind s input tag h role = .pass i) :
    bindTag input tag h role s =
      (({ s with bindings := { input := i, tag, clock := h, role } :: s.bindings }).withRecord h.slot ph
        (.ofClock { c with active := some (c.active.getD role) }) 0).hold .bind
        (.ok (.activeSource (some (c.active.getD role)))) := by
  have cur' : ({ s with bindings := { input := i, tag, clock := h, role } :: s.bindings } : State).current h =
    some (ph, .ofClock c) := cur
  unfold bindTag
  rw [e]
  dsimp only
  rw [State.updClock_of_current _ cur', State.activeOf, State.clock_of_current (State.current_withRecord_self cur' _ _ _),
    Option.bind_some, Option.or_some]

/-! ## UNBIND (R68) -/

theorem unbindTag_of_bad (bad : 4 ≤ input.toNat) :
    unbindTag input tag s = s.hold .unbind (.refused .badValue Handle.null) := by
  unfold unbindTag
  rw [portOfByte_eq_none bad]

theorem unbindTag_of_unbound (e : i.val = input.toNat) (unbound : s.binding i tag = none) :
    unbindTag input tag s = s.hold .unbind (.refused .notFound Handle.null) := by
  unfold unbindTag
  rw [portOfByte_eq_some e]
  dsimp only
  rw [unbound]

theorem unbindTag_of_bound (e : i.val = input.toNat) (bound : s.binding i tag = some b) : unbindTag input tag s =
    (removeBinding b s).hold .unbind (.ok (.unbound b.clock b.role ((removeBinding b s).activeOf b.clock))) := by
  unfold unbindTag
  rw [portOfByte_eq_some e]
  dsimp only
  rw [bound]

/-- Whether the other role is bound is not the removed entry's to say. -/
theorem roleBound_erase_other (mem : b ∈ s.bindings) (k : Handle) :
    ({ s with bindings := s.bindings.erase b } : State).roleBound k b.role.other = s.roleBound k b.role.other := by
  have whole : s.roleBound k b.role.other = (b.clock == k && b.role == b.role.other ||
      (s.bindings.erase b).any fun x => x.clock == k && x.role == b.role.other) := (List.perm_cons_erase mem).any_eq
  have off : (b.role == b.role.other) = false := beq_false_of_ne b.role.other_ne.symm
  rw [whole, off, Bool.and_false, Bool.false_or]
  rfl

/-- The removed entry's role was the active source: the source is settled on the record (R68). -/
theorem removeBinding_of_active (mem : b ∈ s.bindings) (cur : s.current b.clock = some (ph, .ofClock c))
    (active : c.active = some b.role) {source : Option Role} {flags : NoticeSet}
    (settled : (if s.roleBound b.clock b.role.other then some b.role.other else none) = source)
    (switch : flagWhen source.isSome .sourceSwitch = flags) : removeBinding b s =
      ({ s with bindings := s.bindings.erase b }).withRecord b.clock.slot ph
        (.ofClock { c with active := source, rejectRun := 0 }) flags := by
  subst switch settled
  obtain ⟨ph', c', cur', -, e⟩ | ⟨inactive, -⟩ := removeBinding_cases (s := s) b
  · obtain ⟨rfl, rfl⟩ : ph' = ph ∧ c' = c := by simpa using cur'.symm.trans cur
    rw [e, settledSource, roleBound_erase_other mem]
  · exact absurd active (inactive ph c cur)

theorem removeBinding_of_inactive (cur : s.current b.clock = some (ph, .ofClock c)) (inactive : c.active ≠ some b.role) :
    removeBinding b s = { s with bindings := s.bindings.erase b } := by
  obtain ⟨ph', c', cur', active, -⟩ | ⟨-, e⟩ := removeBinding_cases (s := s) b
  · obtain ⟨rfl, rfl⟩ : ph' = ph ∧ c' = c := by simpa using cur'.symm.trans cur
    exact absurd active inactive
  · exact e

/-- Settles O51: each request's checks in their order, and the record's source read back after it. -/
theorem bindAndUnbind : Obligations.BindAndUnbind := by
  intro s input tag
  dsimp only
  refine ⟨fun h role ph r asked cur => ?_, fun asked => ?_⟩
  · have refused {st} (e : checkBind s input tag h role = .fail st Handle.null) :
        exec .bind s = .next (s.hold .bind (.refused st Handle.null)) := exec_asked asked (bindTag_of_fail e)
    refine ⟨fun bad => refused (checkBind_of_bad cur bad), ?_⟩
    rintro i c e rfl bindable
    have checks := checkBind_ofClock (tag := tag) (role := role) cur bindable e
    refine ⟨fun ⟨b, mem, input, key⟩ => refused (checks.trans (if_pos ?_)), fun fresh => ?_⟩
    · refine Option.isSome_iff_ne_none.2 fun none => ?_
      exact binding_eq_none_iff.1 none b mem ⟨Fin.ext (input.trans e.symm), key⟩
    have none : s.binding i tag = none :=
      binding_eq_none_iff.2 fun b mem ⟨input, key⟩ => fresh b mem ⟨input ▸ e, key⟩
    rw [none, if_neg (by simp)] at checks
    refine ⟨fun taken => refused (checks.trans (if_pos taken)), fun free full => ?_, fun free room => ?_⟩
    · exact refused (checks.trans ((if_neg (by simp [free])).trans (if_pos full)))
    · exact exec_asked asked (bindTag_of_pass cur
        (checks.trans ((if_neg (by simp [free])).trans (if_neg (Nat.not_le.2 room)))))
  · refine ⟨fun bad => exec_asked asked (unbindTag_of_bad bad), fun good fresh => ?_,
      fun b ph c bound ⟨e, key⟩ cur => ?_⟩
    · refine exec_asked asked (unbindTag_of_unbound (i := ⟨input.toNat, good⟩) rfl (binding_eq_none_iff.2 ?_))
      rintro b mem ⟨input, key⟩
      exact fresh b mem ⟨congrArg Fin.val input, key⟩
    have mem := (binding_key bound).1
    have leaves {t : State} {source : Option Role} (removed : removeBinding b s = t) (left : t.activeOf b.clock = source) :
        exec .unbind s = .next (t.hold .unbind (.ok (.unbound b.clock b.role source))) := by
      subst removed left
      exact exec_asked asked (unbindTag_of_bound e (key ▸ bound))
    have cur' : ({ s with bindings := s.bindings.erase b } : State).current b.clock = some (ph, .ofClock c) := cur
    have source {t : State} {p : Phase} {c' : ClockRecord} (now : t.current b.clock = some (p, .ofClock c')) :
        t.activeOf b.clock = c'.active := by rw [State.activeOf, State.clock_of_current now, Option.bind_some]
    refine ⟨fun active other => ?_, fun active other => ?_, fun inactive => ?_⟩
    · exact leaves (removeBinding_of_active mem cur active (if_pos other) rfl)
        (source (State.current_withRecord_self cur' _ _ _))
    · exact leaves (removeBinding_of_active mem cur active (if_neg (by simp [other])) rfl)
        (source (State.current_withRecord_self cur' _ _ _))
    · exact leaves (removeBinding_of_inactive cur inactive) (source cur')

end Sys2Proof.Machine
end

section
/-! SUPPORT. SAMPLE_TAKE past the role filter: what a sample of the active role leaves of its record, by the sample's class and
the record's lock state (R78 to R88). -/

namespace Sys2Proof.Machine

variable {s : State} {n : InputNo} {x : Sample} {c c1 : ClockRecord} {a : Anchor} {q : RefValue} {e : Int}

/-! ## Stages 3 to 8, by the class of the sample (R78 to R87) -/

theorem LockState.timeless_eq_false_iff {l : LockState} :
    l.timeless = false ↔ l = .acquiring ∨ l = .locked ∨ l = .holdover := by
  cases l <;> decide

theorem handleSample_of_timeless (lost : c.lock.timeless = true) : handleSample x c = anchoring x c := if_pos lost

theorem handleSample_of_break (running : c.lock.timeless = false) (brk : x.brk = true) :
    handleSample x c = breakReanchor x c :=
  (if_neg (by simp [running])).trans (if_pos brk)

/-- A sample without BREAK for a record with a timebase is judged by its distance from the anchor (R80, R81). -/
theorem handleSample_of_anchored (running : c.lock.timeless = false) (brk : x.brk = false) (anchored : c.anchor = some a) :
    handleSample x c =
      if inSpan (timeDiff a.lt x.stamp) = false then reanchor x c
      else if timeDiff a.lt x.stamp ≤ 0 then { clock := c, notices := 0, broke := false }
      else (projection a c.trim x.stamp).elim (reanchor x c) fun q => compared x (rvDiff q x.rv) c := by
  unfold handleSample
  rw [if_neg (by simp [running]), if_neg (by simp [brk]), anchored]
  dsimp only
  cases projection a c.trim x.stamp <;> rfl

theorem handleSample_of_out_of_span (running : c.lock.timeless = false) (brk : x.brk = false) (anchored : c.anchor = some a)
    (far : 2 ^ 36 < (timeDiff a.lt x.stamp).natAbs) : handleSample x c = reanchor x c := by
  have out : inSpan (timeDiff a.lt x.stamp) = false := by
    rw [← Bool.not_eq_true, inSpan_iff_natAbs]
    omega
  exact (handleSample_of_anchored running brk anchored).trans (if_pos out)

theorem handleSample_of_not_after (running : c.lock.timeless = false) (brk : x.brk = false) (anchored : c.anchor = some a)
    (near : -(2 : Int) ^ 36 ≤ timeDiff a.lt x.stamp) (before : timeDiff a.lt x.stamp ≤ 0) :
    handleSample x c = { clock := c, notices := 0, broke := false } := by
  have inside : inSpan (timeDiff a.lt x.stamp) = true := (inSpan_iff _).2 ⟨near, by omega⟩
  exact (handleSample_of_anchored running brk anchored).trans ((if_neg (by simp [inside])).trans (if_pos before))

theorem handleSample_of_projected (running : c.lock.timeless = false) (brk : x.brk = false) (anchored : c.anchor = some a)
    (after : 0 < timeDiff a.lt x.stamp) (projected : projection a c.trim x.stamp = some q) :
    handleSample x c = compared x (rvDiff q x.rv) c := by
  have inside : inSpan (timeDiff a.lt x.stamp) = true := (inSpan_iff_natAbs _).2 (projection_eq_some_iff.1 projected).1
  rw [handleSample_of_anchored running brk anchored, projected, if_neg (by simp [inside]), if_neg (by omega), Option.elim_some]

/-! ### A compared sample (R81 to R87) -/

variable {c' : ClockRecord} {f : NoticeSet}

theorem compared_of_in (inWindow : e.natAbs ≤ c.cfg.lockWindow)
    (counted : countIn (applied x e { c with lastError := some (saturate32 e) }) = (c', f)) :
    compared x e c = { clock := c', notices := f, broke := false } := by
  simp only [compared, classOf, if_pos inWindow, counted]

theorem compared_of_out (outside : c.cfg.lockWindow < e.natAbs) (noJump : e.natAbs ≤ c.cfg.jumpLimit)
    (counted : countOut (applied x e { c with lastError := some (saturate32 e) }) = (c', f)) :
    compared x e c = { clock := c', notices := f, broke := false } := by
  simp only [compared, classOf, if_neg (Nat.not_le.2 outside), if_pos noJump, counted]

theorem compared_of_jump (ordered : c.cfg.lockWindow ≤ c.cfg.jumpLimit) (jump : c.cfg.jumpLimit < e.natAbs) :
    compared x e c = jumpSample x { c with lastError := some (saturate32 e) } := by
  simp only [compared, classOf, if_neg (Nat.not_le.2 (ordered.trans_lt jump)), if_neg (Nat.not_le.2 jump)]

theorem countIn_acquiring_below (lock : c.lock = .acquiring) (below : c.inCount + 1 < c.cfg.enterCount) :
    countIn c = ({ c with inCount := c.inCount + 1 }, 0) := by
  rw [countIn, lock]
  exact if_neg (Nat.not_le.2 below)

theorem countIn_acquiring_full (lock : c.lock = .acquiring) (full : c.cfg.enterCount ≤ c.inCount + 1) :
    countIn c = ({ c with lock := .locked, inCount := 0, outCount := 0 }, 0x0008) := by
  rw [countIn, lock]
  exact if_pos full

theorem countIn_locked (lock : c.lock = .locked) : countIn c = ({ c with outCount := 0 }, 0) := by
  rw [countIn, lock]

theorem countIn_holdover (lock : c.lock = .holdover) :
    countIn c = ({ c with lock := .locked, inCount := 0, outCount := 0, holdover := none }, 0x0008) := by
  rw [countIn, lock]
  rfl

theorem countOut_acquiring (lock : c.lock = .acquiring) : countOut c = ({ c with inCount := 0 }, 0) := by
  rw [countOut, lock]

theorem countOut_locked_below (lock : c.lock = .locked) (below : c.outCount + 1 < c.cfg.leaveCount) :
    countOut c = ({ c with outCount := c.outCount + 1 }, 0) := by
  rw [countOut, lock]
  exact if_neg (Nat.not_le.2 below)

theorem countOut_locked_full (lock : c.lock = .locked) (full : c.cfg.leaveCount ≤ c.outCount + 1) :
    countOut c = ({ c with lock := .acquiring, inCount := 0, outCount := 0 }, 0x0010) := by
  rw [countOut, lock]
  exact if_pos full

theorem countOut_holdover (lock : c.lock = .holdover) :
    countOut c = ({ c with lock := .acquiring, inCount := 0, outCount := 0, holdover := none }, 0x0010) := by
  rw [countOut, lock]
  rfl

theorem jumpSample_of_reanchor (forced : c.cfg.jumpPolicy = .reanchor ∨ c.cfg.rejectLimit ≤ c.rejectRun + 1) :
    jumpSample x c = reanchor x c := by
  unfold jumpSample
  split
  · rfl
  next reject => exact if_pos (forced.resolve_left (by simp [reject]))

theorem jumpSample_of_reject (policy : c.cfg.jumpPolicy = .reject) (below : c.rejectRun + 1 < c.cfg.rejectLimit) :
    jumpSample x c = { clock := { c with rejectRun := c.rejectRun + 1 }, notices := 0, broke := false } := by
  unfold jumpSample
  rw [policy]
  exact if_neg (Nat.not_le.2 below)

/-- LOCK_LOST is told where a re-anchor leaves LOCKED or HOLDOVER (R78, R83). -/
theorem lockLost_of_running {l : LockState} (running : l.timeless = false) :
    flagWhen l.trusted .lockLost = if l = .acquiring then 0 else 0x0010 := by
  obtain rfl | rfl | rfl := LockState.timeless_eq_false_iff.1 running <;> rfl

/-! ## The whole take (R74, R88) -/

/-- Hearing a role leaves all but the last-heard times (R76). -/
theorem ClockRecord.hear_eq_with (c : ClockRecord) (r : Role) (now : LocalTime) :
    ∃ p u, c.hear r now = { c with heardPrimary := p, heardStandby := u } := by
  cases r with
  | primary => exact ⟨some now, c.heardStandby, rfl⟩
  | standby => exact ⟨c.heardPrimary, some now, rfl⟩

theorem restartSilence_fresh (now : LocalTime) (lock : c1.lock = .acquiring ∨ c1.lock = .locked) (cfg : c1.cfg = c.cfg) :
    restartSilence now c1 = { c1 with silence := some (c.freshSilence now) } := by
  rw [restartSilence_running now lock, startTimer_eq, cfg]
  rfl

/-- Taking the sample leaves the slots. -/
theorem State.takesActive.current_afterTake (takes : s.takesActive n x c) :
    (s.afterTake n).current x.clock = some (.live, .ofClock c) := by
  obtain ⟨-, -, live, -, -⟩ := takes
  exact live

/-- A take that ends no wakes writes the handled record and its notices. -/
theorem exec_sampleTake_handled (takes : s.takesActive n x c) (heard : c.hear x.role s.lt = c1)
    (handled : handleSample x c1 = { clock := c', notices := f, broke := false }) : exec .sampleTake s =
      .next ((s.afterTake n).withRecord x.clock.slot .live (.ofClock (restartSilence s.lt c')) f) := by
  rw [exec_sampleTake_active takes, applySample_eq takes.current_afterTake, heard, handled]
  rfl

/-- A take with a discontinuity ends the record's wakes besides (R78). -/
theorem exec_sampleTake_broke (takes : s.takesActive n x c) (heard : c.hear x.role s.lt = c1)
    (handled : handleSample x c1 = { clock := c', notices := f, broke := true }) : exec .sampleTake s =
      .next (((s.afterTake n).withRecord x.clock.slot .live (.ofClock (restartSilence s.lt c')) f).endWakes x.clock
        .discontinuity) := by
  rw [exec_sampleTake_active takes, applySample_eq takes.current_afterTake, heard, handled]
  rfl

/-- Settles O17: in UNSET and STALE the sample anchors; elsewhere one with BREAK re-anchors and ends the wakes. -/
theorem anchoringSampleAndBreak : Obligations.AnchoringSampleAndBreak := by
  intro s n x c takes
  obtain ⟨p, u, heard⟩ := c.hear_eq_with x.role s.lt
  rw [heard]
  refine ⟨fun lock idle => ?_, fun lock brk => ?_⟩
  · have lost : c.lock.timeless = true := by obtain lock | lock := lock <;> rw [lock] <;> rfl
    rw [exec_sampleTake_handled takes heard (handleSample_of_timeless lost), idle]
    rfl
  · have running := LockState.timeless_eq_false_iff.2 lock
    rw [exec_sampleTake_broke takes heard (handleSample_of_break running brk), ← lockLost_of_running running]
    rfl

/-- Settles O18: the sample is compared, its line applied, and the counters of its class and lock state moved. -/
theorem appliedSample : Obligations.AppliedSample := by
  intro s n x c a q takes brk anchored after _ projected noJump
  obtain ⟨p, u, heard⟩ := c.hear_eq_with x.role s.lt
  rw [heard]
  have leaves {l : LockState} {c' f} (lock : c.lock = l) (running : l.timeless = false)
      (counted : compared x (rvDiff q x.rv) { c with heardPrimary := p, heardStandby := u } =
        { clock := c', notices := f, broke := false })
      (timed : c'.lock = .acquiring ∨ c'.lock = .locked) (cfg : c'.cfg = c.cfg) :
      exec .sampleTake s = .next ((s.afterTake n).withRecord x.clock.slot .live
        (.ofClock { c' with silence := some (c.freshSilence s.lt) }) f) := by
    have handled := handleSample_of_projected (c := { c with heardPrimary := p, heardStandby := u })
      (lock ▸ running) brk anchored after projected
    rw [exec_sampleTake_handled takes heard (handled.trans counted), restartSilence_fresh s.lt timed cfg]
  refine ⟨fun inWindow => ?_, fun outside => ?_⟩
  · refine ⟨fun lock below => ?_, fun lock full => ?_, fun lock => ?_, fun lock => ?_⟩
    · exact leaves lock rfl (compared_of_in inWindow (countIn_acquiring_below lock below)) (.inl lock) rfl
    · exact leaves lock rfl (compared_of_in inWindow (countIn_acquiring_full lock full)) (.inr rfl) rfl
    · exact leaves lock rfl (compared_of_in inWindow (countIn_locked lock)) (.inr lock) rfl
    · exact leaves lock rfl (compared_of_in inWindow (countIn_holdover lock)) (.inr rfl) rfl
  · refine ⟨fun lock => ?_, fun lock below => ?_, fun lock full => ?_, fun lock => ?_⟩
    · exact leaves lock rfl (compared_of_out outside noJump (countOut_acquiring lock)) (.inl lock) rfl
    · exact leaves lock rfl (compared_of_out outside noJump (countOut_locked_below lock below)) (.inr lock) rfl
    · exact leaves lock rfl (compared_of_out outside noJump (countOut_locked_full lock full)) (.inl rfl) rfl
    · exact leaves lock rfl (compared_of_out outside noJump (countOut_holdover lock)) (.inl rfl) rfl

section
variable {p u : Option LocalTime}

/-- A sample that leaves the line alone restarts the silence timer, but in HOLDOVER (R80, R84, R88). -/
theorem exec_sampleTake_line_kept (takes : s.takesActive n x c)
    (heard : c.hear x.role s.lt = { c with heardPrimary := p, heardStandby := u }) (running : c.lock.timeless = false)
    {k : Nat} {err : Option Int} (handled : handleSample x { c with heardPrimary := p, heardStandby := u } =
      { clock := { c with heardPrimary := p, heardStandby := u, lastError := err, rejectRun := k }, notices := 0
        broke := false }) :
    exec .sampleTake s = .next ((s.afterTake n).withRecord x.clock.slot .live
      (.ofClock { c with
        heardPrimary := p, heardStandby := u, lastError := err, rejectRun := k
        silence := if c.lock = .holdover then c.silence else some (c.freshSilence s.lt) }) 0) := by
  rw [exec_sampleTake_handled takes heard handled]
  by_cases held : c.lock = .holdover
  · rw [if_pos held, restartSilence_other _ (by simp [held])]
  · have timed : c.lock = .acquiring ∨ c.lock = .locked := by
      simpa [held] using LockState.timeless_eq_false_iff.1 running
    rw [if_neg held, restartSilence_fresh (c := c)]
    · exact timed
    · rfl

/-- A re-anchor, with the last error it leaves (R83). -/
theorem exec_sampleTake_reanchor (takes : s.takesActive n x c)
    (heard : c.hear x.role s.lt = { c with heardPrimary := p, heardStandby := u }) (running : c.lock.timeless = false)
    {err : Option Int} (handled : handleSample x { c with heardPrimary := p, heardStandby := u } =
      reanchor x { c with heardPrimary := p, heardStandby := u, lastError := err }) :
    exec .sampleTake s = .next ((s.afterTake n).withRecord x.clock.slot .live
      (.ofClock { c with
        heardPrimary := p, heardStandby := u, anchor := some { lt := x.stamp, rv := x.rv }, lock := .acquiring
        lastError := err, inCount := 0, outCount := 0, rejectRun := 0, silence := some (c.freshSilence s.lt)
        holdover := none, updatePending := true })
      (0x0080 ||| (if c.lock = .acquiring then 0 else 0x0010))) := by
  rw [exec_sampleTake_handled takes heard handled, ← lockLost_of_running running]
  rfl

end

/-- Settles O19: by the sample's distance from the anchor, then by the jump policy and the reject run. -/
theorem setAsideAndJumpingSample : Obligations.SetAsideAndJumpingSample := by
  intro s n x c a takes lock brk anchored
  have running := LockState.timeless_eq_false_iff.2 lock
  obtain ⟨p, u, heard⟩ := c.hear_eq_with x.role s.lt
  rw [heard]
  refine ⟨fun near before => ?_, fun far => ?_, fun q after _ projected ordered jump => ?_⟩
  · exact exec_sampleTake_line_kept takes heard running (handleSample_of_not_after running brk anchored near before)
  · exact exec_sampleTake_reanchor takes heard running (handleSample_of_out_of_span running brk anchored far)
  have jumped := (handleSample_of_projected (c := { c with heardPrimary := p, heardStandby := u }) running brk anchored
    after projected).trans (compared_of_jump ordered jump)
  refine ⟨fun policy => ?_, fun _ full => ?_, fun policy below => ?_⟩
  · exact exec_sampleTake_reanchor takes heard running (jumped.trans (jumpSample_of_reanchor (.inl policy)))
  · exact exec_sampleTake_reanchor takes heard running (jumped.trans (jumpSample_of_reanchor (.inr full)))
  · exact exec_sampleTake_line_kept takes heard running (jumped.trans (jumpSample_of_reject policy below))

end Sys2Proof.Machine
end

section
/-! SUPPORT. The silence and holdover expiries, and SET-ANCHOR and SELECT-SOURCE accepted (R89 to R92, R95, R96). -/

namespace Sys2Proof.Machine

variable {s : State} {h : Handle} {i : SlotNo} {ph : Phase} {c : ClockRecord} {d : Timer} {r : Role} {u : LocalTime}

/-! ## Silence and holdover (R89 to R92) -/

theorem enterStale_of_current (cur : s.current h = some (ph, .ofClock c)) : enterStale h s =
    (s.withRecord h.slot ph
      (.ofClock { c with lock := .stale, silence := none, holdover := none, inCount := 0, outCount := 0, rejectRun := 0 })
      0x0040).endWakes h .noTimebase := by
  unfold enterStale
  rw [State.updClock_notify _ _ cur]
  rfl

/-- A silence expiry switches to the other role exactly when it is bound and was heard within one timeout (R89). -/
theorem switchRole_eq_some_iff {r' : Role} : switchRole h c s = some r' ↔
    ∃ r u, c.active = some r ∧ s.roleBound h r.other = true ∧ c.heard r.other = some u ∧
      timeDiff u s.lt ≤ (c.cfg.silenceMs : Int) * 25000 ∧ r.other = r' := by
  have timeout : (msTicks c.cfg.silenceMs : Int) = (c.cfg.silenceMs : Int) * 25000 := Nat.cast_mul ..
  unfold switchRole
  rw [timeout]
  cases c.active with
  | none => simp
  | some r => cases heard : c.heard r.other <;> simp [heard, and_assoc]

theorem silenceExpired_of_switch (cur : s.current h = some (ph, .ofClock c)) (switch : switchRole h c s = some r) :
    silenceExpired h c s = s.withRecord h.slot ph
      (.ofClock { c with active := some r, rejectRun := 0, silence := some (c.freshSilence s.lt) }) 0x0200 := by
  unfold silenceExpired
  rw [switch]
  exact State.updClock_notify _ _ cur

theorem silenceExpired_of_locked (cur : s.current h = some (ph, .ofClock c)) (stay : switchRole h c s = none)
    (lock : c.lock = .locked) (limit : c.cfg.holdoverMs ≠ 0) : silenceExpired h c s = s.withRecord h.slot ph
      (.ofClock { c with
        lock := .holdover, silence := none
        holdover := some { start := s.lt, deadline := s.lt + BitVec.ofNat 48 (c.cfg.holdoverMs * 25000) } }) 0x0020 := by
  unfold silenceExpired
  rw [stay, lock]
  dsimp only
  rw [if_neg limit, State.updClock_notify _ _ cur]
  rfl

theorem silenceExpired_stale (stay : switchRole h c s = none)
    (lock : c.lock = .acquiring ∨ c.lock = .locked ∧ c.cfg.holdoverMs = 0) : silenceExpired h c s = enterStale h s := by
  unfold silenceExpired
  rw [stay]
  obtain lock | ⟨lock, limit⟩ := lock
  · rw [lock]
  · rw [lock]
    exact if_pos limit

theorem exec_silenceExpiry (high : s.rstLow = false) (cur : s.current (s.handleOf i) = some (.live, .ofClock c))
    (running : c.silence = some d) (due : 0 ≤ timeDiff d.deadline s.lt) :
    exec (.silenceExpiry i) s = .next (silenceExpired (s.handleOf i) c s) := by
  refine (taken_high high).trans (congrArg Host.Outcome.next ?_)
  unfold takeSilenceExpiry
  rw [liveClock_eq_some.2 cur]
  dsimp only
  rw [running]
  exact if_pos ((reached_iff _ _).2 due)

theorem exec_holdoverExpiry (high : s.rstLow = false) (cur : s.current (s.handleOf i) = some (.live, .ofClock c))
    (running : c.holdover = some d) (due : 0 ≤ timeDiff d.deadline s.lt) :
    exec (.holdoverExpiry i) s = .next (enterStale (s.handleOf i) s) := by
  refine (taken_high high).trans (congrArg Host.Outcome.next ?_)
  unfold takeHoldoverExpiry
  rw [liveClock_eq_some.2 cur]
  dsimp only
  rw [running]
  exact if_pos ((reached_iff _ _).2 due)

/-- Settles O20: the expiry switches the source where R89 lets it, else moves the record to HOLDOVER or STALE. -/
theorem silenceAndHoldover : Obligations.SilenceAndHoldover := by
  intro s i c high cur
  refine ⟨fun d running due => ?_, fun d running due => ?_⟩
  · rw [exec_silenceExpiry high cur running due]
    refine ⟨fun r u active bound heard recent => ?_, fun tooLate => ?_⟩
    · exact congrArg _ (silenceExpired_of_switch cur
        (switchRole_eq_some_iff.2 ⟨r, u, active, bound, heard, recent, rfl⟩))
    · have stay : switchRole (s.handleOf i) c s = none := by
        refine Option.eq_none_iff_forall_ne_some.2 fun r' switch => ?_
        obtain ⟨r, u, active, bound, heard, recent, -⟩ := switchRole_eq_some_iff.1 switch
        exact absurd recent (not_le.2 (tooLate r u active bound heard))
      refine ⟨fun lock limit => congrArg _ (silenceExpired_of_locked cur stay lock limit), fun lock => ?_⟩
      exact congrArg _ ((silenceExpired_stale stay lock).trans (enterStale_of_current cur))
  · exact (exec_holdoverExpiry high cur running due).trans (congrArg _ (enterStale_of_current cur))

/-! ## SET-ANCHOR and SELECT-SOURCE (R95, R96) -/

/-- SET-ANCHOR tells LOCK_LOST where it takes a record from LOCKED or HOLDOVER (R95). -/
theorem lockLost_of_placed (l : LockState) :
    flagWhen l.trusted .lockLost = if l = .locked ∨ l = .holdover then 0x0010 else 0 := by
  cases l <;> rfl

theorem setAnchor_of_good {rv : RefValue} {trim : Int} (cur : s.current h = some (ph, .ofClock c))
    (active : ph.isDraining = false) (inRange : trimInRange trim = true) : setAnchor h rv trim s =
      (s.withRecord h.slot ph (.ofClock (c.placed (ph == .live) s.lt rv trim)) (flagWhen c.lock.trusted .lockLost)).hold
        .setAnchor (.ok (.lockState c.lock)) := by
  unfold setAnchor
  rw [checkClock_of_current cur]
  dsimp only
  rw [if_neg (by simp [active]), if_neg (by simp [inRange]), State.updClock_notify _ _ cur]

theorem ClockRecord.placed_eq (c : ClockRecord) (ph : Phase) (now : LocalTime) (rv : RefValue) (trim : Int) :
    c.placed (ph == .live) now rv trim = { c with
      anchor := some { lt := now, rv }, trim, lock := .acquiring, inCount := 0, outCount := 0, rejectRun := 0
      silence := if ph = .live then some (c.freshSilence now) else c.silence, holdover := none, updatePending := true } := by
  cases ph <;> rfl

theorem selectSource_of_active (cur : s.current h = some (ph, .ofClock c)) (bound : s.roleBound h r = true)
    (active : c.active = some r) : selectSource h r s = s.hold .selectSource (.ok (.activeSource (some r))) := by
  unfold selectSource
  rw [checkClock_of_current cur]
  exact (if_neg (by simp [bound])).trans (if_pos active)

theorem selectSource_of_other (cur : s.current h = some (ph, .ofClock c)) (bound : s.roleBound h r = true)
    (other : c.active ≠ some r) : selectSource h r s =
      (s.withRecord h.slot ph (.ofClock { c with active := some r, rejectRun := 0 }) 0x0200).hold .selectSource
        (.ok (.activeSource (some r))) := by
  unfold selectSource
  rw [checkClock_of_current cur]
  dsimp only
  rw [if_neg (by simp [bound]), if_neg other, State.updClock_notify _ _ cur]
  rfl

/-- Settles O21: each request's function past its checks. -/
theorem setAnchorAndSelectSource : Obligations.SetAnchorAndSelectSource := by
  refine ⟨fun s h rv trim ph c asked cur phase lo hi => exec_asked asked ?_, fun s h r ph c asked cur bound => ?_⟩
  · have active : ph.isDraining = false := by obtain rfl | rfl := phase <;> rfl
    have inRange : trimInRange trim = true := Bool.and_eq_true_iff.2 ⟨decide_eq_true lo, decide_eq_true hi⟩
    exact (setAnchor_of_good cur active inRange).trans (by rw [ClockRecord.placed_eq, lockLost_of_placed])
  · exact ⟨fun same => exec_asked asked (selectSource_of_active cur bound same),
      fun other => exec_asked asked (selectSource_of_other cur bound other)⟩

end Sys2Proof.Machine
end

section
/-! SUPPORT. What an operation inside the part does to the query ports, said once as `Accounts`: response queues grow at their
tails, the lease-use counts stay in balance, and each port is owed a known number of answers more than before (R105, R112). -/

namespace Sys2Proof.Machine

variable {s t u : State} {n m : PortNo} {owed owed' : PortNo → Int}

/-! ## The accounts of the ports -/

/-- Each port `n` is owed `owed n` answers more in `t` than in `s`; its response queue has grown at its tail, its lease-use
count is in balance if it was, and the rest of it and the Query Engine's pointer are as before. -/
structure Accounts (owed : PortNo → Int) (s t : State) : Prop where
  port : ∀ n, ∃ told use, t.port n = { s.port n with responses := (s.port n).responses ++ told, leaseUse := use }
  unfetched : ∀ n, (t.unfetched n : Int) = s.unfetched n + owed n
  leaseUse : LeaseUseBalance s → LeaseUseBalance t
  qePtr : t.qePtr = s.qePtr

/-- What the accounts of the ports are read from. -/
def State.books (s : State) : Vector Port 4 × Vector (Option Lease) 16 × List DeadlineEntry × PortNo :=
  (s.ports, s.leases, s.deadlines, s.qePtr)

theorem State.port_congr (e : t.ports = s.ports) (n : PortNo) : t.port n = s.port n := by
  unfold State.port
  simp only [e]

theorem State.leasesOf_congr (e : t.leases = s.leases) (n : PortNo) : t.leasesOf n = s.leasesOf n := by
  unfold State.leasesOf
  rw [e]

theorem Accounts.of_books (e : t.books = s.books) : Accounts 0 s t := by
  simp only [State.books, Prod.mk.injEq] at e
  obtain ⟨ports, leases, list, pointer⟩ := e
  refine ⟨fun n => ⟨[], (s.port n).leaseUse, ?_⟩, fun n => ?_, fun balance n => ?_, pointer⟩
  · rw [State.port_congr ports, List.append_nil]
  · unfold State.unfetched
    rw [State.port_congr ports, list, Pi.zero_apply, add_zero]
  · rw [State.port_congr ports, State.leasesOf_congr leases]
    exact balance n

theorem Accounts.refl (s : State) : Accounts 0 s s := .of_books rfl

theorem Accounts.trans (h : Accounts owed s t) (h' : Accounts owed' t u) : Accounts (owed + owed') s u where
  port n := by
    obtain ⟨told, use, e⟩ := h.port n
    obtain ⟨told', use', e'⟩ := h'.port n
    exact ⟨told ++ told', use', by rw [e', e, List.append_assoc]⟩
  unfetched n := by rw [h'.unfetched, h.unfetched, Pi.add_apply, add_assoc]
  leaseUse balance := h'.leaseUse (h.leaseUse balance)
  qePtr := h'.qePtr.trans h.qePtr

/-- What follows the accounts without touching them. -/
theorem Accounts.kept (h : Accounts owed s t) (e : u.books = t.books) : Accounts owed s u := by
  simpa using h.trans (.of_books e)

/-- What comes before the accounts without touching them. -/
theorem Accounts.after (h : Accounts owed t u) (e : t.books = s.books) : Accounts owed s u := by
  simpa using (Accounts.of_books e).trans h

/-- Accounts that come out even. -/
theorem Accounts.even (h : Accounts owed s t) (h' : Accounts owed' t u) (e : owed + owed' = 0) : Accounts 0 s u :=
  e ▸ h.trans h'

/-! ## Entries of the Deadline List -/

/-- The answer an entry of the Deadline List stands for, at its origin port (R105, R136). -/
def DeadlineEntry.claim (e : DeadlineEntry) (n : PortNo) : Int := if e.isFrom n then 1 else 0

/-- The answer a SPLICE's origin is owed: none for the management port (R136). -/
def Origin.claim : Origin → PortNo → Int
  | .port n _ => Pi.single n 1
  | .management => 0

/-- The answers the entries of a list stand for. -/
def claims (l : List DeadlineEntry) : PortNo → Int := (l.map DeadlineEntry.claim).sum

theorem claim_of_wake {e : DeadlineEntry} {tag : Byte} {named b : Handle} {p : RefValue}
    (work : e.work = .wake n tag named b p) : e.claim = Pi.single n 1 := by
  funext m
  unfold DeadlineEntry.claim DeadlineEntry.isFrom
  rw [work, Pi.single_apply]
  simp [eq_comm (a := m)]

theorem claim_of_splice {e : DeadlineEntry} {o : Origin} {h k : Handle} (work : e.work = .splice o h k) :
    e.claim = o.claim := by
  funext m
  unfold DeadlineEntry.claim DeadlineEntry.isFrom Origin.claim
  rw [work]
  cases o with
  | port n tag =>
    dsimp only
    rw [Pi.single_apply]
    simp [eq_comm (a := m)]
  | management => rfl

@[simp] theorem claims_cons (e : DeadlineEntry) (l : List DeadlineEntry) : claims (e :: l) = e.claim + claims l :=
  List.sum_cons

theorem claims_perm {l l' : List DeadlineEntry} (perm : l.Perm l') : claims l = claims l' := (perm.map _).sum_eq

theorem claims_split (p : DeadlineEntry → Bool) (l : List DeadlineEntry) :
    claims l = claims (l.filter p) + claims (l.filter fun e => !p e) := by
  rw [claims_perm (filter_split p l).1]
  unfold claims
  rw [List.map_append, List.sum_append]

/-- The claims of a list at a port count its entries from there. -/
theorem claims_apply (l : List DeadlineEntry) (n : PortNo) : claims l n = l.countP (DeadlineEntry.isFrom n) := by
  induction l with
  | nil => rfl
  | cons e l ih =>
    rw [claims_cons, Pi.add_apply, ih, List.countP_cons]
    unfold DeadlineEntry.claim
    split <;> simp [add_comm]

/-- Another Deadline List moves what the ports are owed by the difference of the claims. -/
theorem accounts_putDeadlines (l : List DeadlineEntry) : Accounts (claims l - claims s.deadlines) s (s.putDeadlines l) where
  port n := ⟨[], (s.port n).leaseUse, by rw [List.append_nil]; rfl⟩
  unfetched n := by
    have same : (s.putDeadlines l).port n = s.port n := rfl
    have list : (s.putDeadlines l).deadlines = l := rfl
    unfold State.unfetched
    rw [same, list, Pi.sub_apply, claims_apply, claims_apply]
    push_cast
    ring
  leaseUse balance := balance
  qePtr := rfl

theorem accounts_reorder {l : List DeadlineEntry} (perm : l.Perm s.deadlines) : Accounts 0 s (s.putDeadlines l) := by
  have h := accounts_putDeadlines (s := s) l
  rwa [claims_perm perm, sub_self] at h

/-- An entry that leaves the list leaves its claim open. -/
theorem accounts_take {e : DeadlineEntry} {rest : List DeadlineEntry} (perm : s.deadlines.Perm (e :: rest)) :
    Accounts (-e.claim) s (s.putDeadlines rest) := by
  have h := accounts_putDeadlines (s := s) rest
  rwa [claims_perm perm, claims_cons, sub_add_cancel_right] at h

/-- An entry that joins the list meets its claim. -/
theorem accounts_insert {e : DeadlineEntry} {l : List DeadlineEntry} (perm : l.Perm (e :: s.deadlines)) :
    Accounts e.claim s (s.putDeadlines l) := by
  have h := accounts_putDeadlines (s := s) l
  rwa [claims_perm perm, claims_cons, add_sub_cancel_right] at h

theorem accounts_arm (due : LocalTime) (w : Work) :
    Accounts (DeadlineEntry.claim { due, order := s.nextOrder, work := w }) s (s.arm due w) :=
  (accounts_insert (insertEntry_perm s.lt { due, order := s.nextOrder, work := w } s.deadlines)).kept rfl

/-- An operation done with each item of a list in turn. -/
theorem accounts_foldl {α : Type} {f : State → α → State} {g : α → PortNo → Int} {l : List α}
    (one : ∀ u, ∀ x ∈ l, Accounts (g x) u (f u x)) : Accounts (l.map g).sum s (l.foldl f s) := by
  induction l generalizing s with
  | nil => exact .refl s
  | cons x l ih =>
    rw [List.map_cons, List.sum_cons]
    exact (one s x List.mem_cons_self).trans (ih fun u y mem => one u y (List.mem_cons_of_mem _ mem))

/-- Entries taken from the list are dealt with one by one, each meeting its claim. -/
theorem accounts_sweep {p : DeadlineEntry → Bool} {f : State → DeadlineEntry → State}
    (one : ∀ u e, p e = true → Accounts e.claim u (f u e)) (books : u.books = (s.putDeadlines (s.deadlines.filter fun e => !p e)).books) :
    Accounts 0 s ((s.deadlines.filter p).foldl f u) := by
  have rest := (accounts_putDeadlines (s := s) (s.deadlines.filter fun e => !p e)).kept books
  have swept : Accounts (claims (s.deadlines.filter p)) u _ :=
    accounts_foldl fun u e mem => one u e (List.mem_filter.1 mem).2
  refine rest.even swept ?_
  rw [claims_split p s.deadlines]
  abel

/-! ## Answers -/

/-- A credited entry that joins a response queue is one answer (R105, R108). -/
theorem accounts_push (n : PortNo) {e : ResponseEntry} (credited : e.credited = true) :
    Accounts (Pi.single n 1) s (s.push n e) where
  port m := by
    rw [State.port_push]
    split
    next same => exact ⟨[e], (s.port n).leaseUse, by rw [same]⟩
    · exact ⟨[], (s.port m).leaseUse, by rw [List.append_nil]⟩
  unfetched m := by
    unfold State.unfetched
    rw [State.port_push, State.push_deadlines, Pi.single_apply]
    by_cases same : n = m
    · subst same
      simp [credited]
      ring
    · simp [same, Ne.symm same]
  leaseUse balance m := by
    have unrevoked : e.isRevoked = false := by simpa [ResponseEntry.credited] using credited
    have leases : (s.push n e).leasesOf m = s.leasesOf m := State.leasesOf_congr rfl m
    rw [State.port_push, leases]
    split
    next same =>
      subst same
      simpa [unrevoked] using balance n
    · exact balance m
  qePtr := rfl

theorem accounts_respond (n : PortNo) (code : PortCode) (tag : Byte) (a : PortAnswer) :
    Accounts (Pi.single n 1) s (s.respond n code tag a) := accounts_push n rfl

theorem accounts_tellSplice (o : Origin) (x : Ending) (b : SpliceBody) : Accounts o.claim s (s.tellSplice o x b) := by
  cases o with
  | port n tag => exact accounts_push n rfl
  | management => exact .of_books rfl

/-- A SPLICE entry that leaves the list and whose origin is told comes out even (R151). -/
theorem accounts_withdrawn {e : DeadlineEntry} {o : Origin} {h h' k : Handle} (x : Ending) (b : SpliceBody)
    (mem : e ∈ s.deadlines) (work : e.work = .splice o h' k) : Accounts 0 s ((s.dropSplice e h k).tellSplice o x b) := by
  have dropped : Accounts (-e.claim) s (s.dropSplice e h k) :=
    (accounts_take (List.perm_cons_erase mem)).kept (by simp [State.books, State.dropSplice, State.putDeadlines])
  refine dropped.even (accounts_tellSplice o x b) ?_
  rw [claim_of_splice work, neg_add_cancel]

/-- The wakes bound to a clock end, each with its completion (R150). -/
theorem accounts_endWakes (h : Handle) (x : Ending) : Accounts 0 s (s.endWakes h x) := by
  have one (u : State) (e : DeadlineEntry) (bound : e.isWakeOf h = true) : Accounts e.claim u (u.endWake x e) := by
    obtain ⟨n, tag, named, p, work⟩ := isWakeOf_iff.1 bound
    unfold State.endWake
    rw [claim_of_wake work, work]
    exact accounts_push n rfl
  exact (accounts_sweep one rfl).kept (by simp [State.books, State.endWakes, State.putDeadlines])

/-! ## Leases -/

theorem leasesOf_putLease (k : LeaseNo) (x : Option Lease) (n : PortNo) :
    (s.putLease k x).leasesOf n + ((s.lease k).any fun l => l.port == n).toNat =
      s.leasesOf n + (x.any fun l => l.port == n).toNat :=
  countP_set_add s.leases k.val k.isLt x _

/-- At one port, leases and REVOKED notices move against the lease-use count. -/
theorem accounts_tenure {told : List ResponseEntry} {use : Nat}
    (port : ∀ m, t.port m =
      if n = m then { s.port n with responses := (s.port n).responses ++ told, leaseUse := use } else s.port m)
    (revoked : ∀ e ∈ told, e.isRevoked = true) (list : t.deadlines = s.deadlines) (pointer : t.qePtr = s.qePtr)
    (others : ∀ m, n ≠ m → t.leasesOf m = s.leasesOf m)
    (own : ∀ waiting, (s.port n).leaseUse = s.leasesOf n + waiting → (s.port n).leaseUse ≤ 4 →
      use = t.leasesOf n + (waiting + told.length) ∧ use ≤ 4) : Accounts 0 s t where
  port m := by
    rw [port]
    split
    next same => exact ⟨told, use, by rw [same]⟩
    · exact ⟨[], (s.port m).leaseUse, by rw [List.append_nil]⟩
  unfetched m := by
    have uncredited : told.countP ResponseEntry.credited = 0 :=
      List.countP_eq_zero.2 fun e mem => by simp [ResponseEntry.credited, revoked e mem]
    unfold State.unfetched
    rw [port, list]
    split
    next same =>
      subst same
      simp [uncredited]
    · simp
  leaseUse balance m := by
    rw [port]
    split
    next same =>
      subst same
      dsimp only
      rw [List.countP_append, List.countP_eq_length.2 revoked]
      exact own _ (balance n).1 (balance n).2
    next other =>
      rw [others m other]
      exact balance m
  qePtr := pointer

theorem leasesOf_putLease_other {k : LeaseNo} {x : Option Lease} (held : ∀ l, s.lease k = some l → l.port = n)
    (put : ∀ l, x = some l → l.port = n) (m : PortNo) (other : n ≠ m) : (s.putLease k x).leasesOf m = s.leasesOf m := by
  have count := leasesOf_putLease (s := s) k x m
  have none_of (y : Option Lease) (own : ∀ l, y = some l → l.port = n) : (y.any fun l => l.port == m) = false := by
    cases y with
    | none => rfl
    | some l => simpa [own l rfl] using other
  rwa [none_of _ held, none_of _ put] at count

/-- A revoked lease is told to its holder, and stays in the lease-use count (R33, R112). -/
theorem accounts_revokeLease (h : Handle) (k : LeaseNo) : Accounts 0 s (s.revokeLease h k) := by
  unfold State.revokeLease
  split
  next l held =>
    split
    · have leases : (((s.putLease k none).updRecord h (Record.updLeaseCount (· - 1))).push l.port (.revoked k h)).leases =
          (s.putLease k none).leases := by simp
      have count := leasesOf_putLease (s := s) k none l.port
      rw [held] at count
      refine accounts_tenure (n := l.port) (told := [.revoked k h]) (use := (s.port l.port).leaseUse) (fun m => ?_)
        (by simp [ResponseEntry.isRevoked]) (by simp) (by simp) (fun m other => ?_) fun waiting use limit => ?_
      · rw [State.port_push]
        simp only [State.port_congr (State.updRecord_ports (s.putLease k none) h (Record.updLeaseCount (· - 1)))]
        rfl
      · rw [State.leasesOf_congr leases]
        exact leasesOf_putLease_other (by simp [held]) (by simp) m other
      · rw [State.leasesOf_congr leases]
        simp at count ⊢
        omega
    · exact .refl s
  · exact .refl s

/-- Every lease on a record is revoked (R33). -/
theorem accounts_revokeAll (h : Handle) : Accounts 0 s (s.revokeAll h) := by
  have revoked : Accounts ((List.finRange 16).map fun _ => 0).sum s _ :=
    accounts_foldl fun u k _ => accounts_revokeLease (s := u) h k
  rw [List.map_const', List.sum_replicate, smul_zero] at revoked
  exact revoked.kept (by simp [State.books, State.revokeAll])

/-- A lease is granted on a free entry to a port below its limit (R112, R158). -/
theorem accounts_granted {k : LeaseNo} {l : Lease} (free : s.lease k = none) (room : (s.port l.port).leaseUse < 4) :
    Accounts 0 s (((s.putLease k (some l)).updRecord l.named (Record.updLeaseCount (· + 1))).updPort l.port fun p =>
      { p with leaseUse := p.leaseUse + 1 }) := by
  have leases : (((s.putLease k (some l)).updRecord l.named (Record.updLeaseCount (· + 1))).updPort l.port fun p =>
      { p with leaseUse := p.leaseUse + 1 }).leases = (s.putLease k (some l)).leases := by simp
  have count := leasesOf_putLease (s := s) k (some l) l.port
  rw [free] at count
  refine accounts_tenure (n := l.port) (told := []) (use := (s.port l.port).leaseUse + 1) (fun m => ?_) (by simp) (by simp)
    (by simp) (fun m other => ?_) fun waiting use limit => ?_
  · rw [State.port_updPort]
    simp only [State.port_congr (State.updRecord_ports (s.putLease k (some l)) l.named (Record.updLeaseCount (· + 1)))]
    rw [List.append_nil]
    rfl
  · rw [State.leasesOf_congr leases]
    exact leasesOf_putLease_other (by simp [free]) (by simp) m other
  · rw [State.leasesOf_congr leases]
    simp at count ⊢
    omega

theorem giveUpLease_leases (k : LeaseNo) (l : Lease) : (s.giveUpLease k l).leases = (s.putLease k none).leases := by
  unfold State.giveUpLease
  dsimp only
  (repeat' split) <;> simp

/-- A lease is given up by the port that holds it (R112, R160). -/
theorem accounts_givenUp {k : LeaseNo} {l : Lease} (held : s.lease k = some l) :
    Accounts 0 s ((s.giveUpLease k l).updPort l.port fun p => { p with leaseUse := p.leaseUse - 1 }) := by
  have leases : ((s.giveUpLease k l).updPort l.port fun p => { p with leaseUse := p.leaseUse - 1 }).leases =
      (s.putLease k none).leases := giveUpLease_leases k l
  have count := leasesOf_putLease (s := s) k none l.port
  rw [held] at count
  refine accounts_tenure (n := l.port) (told := []) (use := (s.port l.port).leaseUse - 1) (fun m => ?_) (by simp) (by simp)
    (by simp) (fun m other => ?_) fun waiting use limit => ?_
  · rw [State.port_updPort]
    simp only [State.port_congr (State.giveUpLease_ports s k l)]
    rw [List.append_nil]
  · rw [State.leasesOf_congr leases]
    exact leasesOf_putLease_other (by simp [held]) (by simp) m other
  · rw [State.leasesOf_congr leases]
    simp at count ⊢
    omega

end Sys2Proof.Machine
end

section
/-! SUPPORT. The accounts of the ports through every command but those of the ports' own pins, PORT-RESET, PURGE and the resets: an
owner's event and an expiry come out even, and an evaluation answers the one request it served (R105, R107, R112). -/

namespace Sys2Proof.Machine

variable {s t u : State}

/-! ## What leaves the books alone -/

section
variable (s : State)

theorem startFrame_books (n : InputNo) : (startFrame n s).books = s.books := by
  unfold startFrame; split <;> rfl
theorem sampleInputBit_books (n : InputNo) (b : Bool) : (sampleInputBit n b s).books = s.books := by
  unfold sampleInputBit; split <;> rfl
theorem takeFrame_books (n : InputNo) (k : Nat) (bits : List Bool) : (takeFrame n k bits s).books = s.books := by
  unfold takeFrame; (repeat' split) <;> rfl
theorem endFrame_books (n : InputNo) : (endFrame n s).books = s.books := by
  unfold endFrame
  split
  · exact takeFrame_books _ _ _ _
  · rfl
  · rfl
theorem unblockReceiver_books (n : InputNo) : (unblockReceiver n s).books = s.books := by
  unfold unblockReceiver; split <;> rfl
theorem setAnchor_books (h : Handle) (v : RefValue) (r : Int) : (setAnchor h v r s).books = s.books := by
  unfold setAnchor; (repeat' split) <;> simp [State.books]
theorem selectSource_books (h : Handle) (r : Role) : (selectSource h r s).books = s.books := by
  unfold selectSource; (repeat' split) <;> simp [State.books]
theorem bindTag_books (i : Byte) (g : StreamTag) (h : Handle) (r : Role) : (bindTag i g h r s).books = s.books := by
  unfold bindTag; split <;> simp [State.books]
theorem removeBinding_books (b : Binding) : (removeBinding b s).books = s.books := by
  unfold removeBinding; dsimp only; split <;> simp [State.books]
theorem unbindTag_books (i : Byte) (g : StreamTag) : (unbindTag i g s).books = s.books := by
  unfold unbindTag
  split
  · rfl
  split
  · rfl
  next b _ => exact removeBinding_books s b
theorem setInputOffset_books (i : Byte) (o : Int) : (setInputOffset i o s).books = s.books := by
  unfold setInputOffset; (repeat' split) <;> rfl
theorem moveAlias_books (h : Handle) (a : AliasRecord) (n : Handle) : (moveAlias h a n s).books = s.books := by
  simp [moveAlias, State.books]
theorem createClock_books : (createClock s).books = s.books := by
  unfold createClock; split <;> rfl
theorem createAlias_books (h : Handle) : (createAlias h s).books = s.books := by
  unfold createAlias; (repeat' split) <;> simp [State.books]
theorem configure_books (h : Handle) (cs : List Change) : (configure h cs s).books = s.books := by
  unfold configure; (repeat' split) <;> simp [State.books]
theorem enable_books (h : Handle) : (enable h s).books = s.books := by
  unfold enable; (repeat' split) <;> rfl
theorem readRecord_books (n : Byte) : (readRecord n s).books = s.books := by
  unfold readRecord; split <;> rfl
theorem readPort_books (n : Byte) : (readPort n s).books = s.books := by
  unfold readPort; split <;> rfl
theorem nextNotice_books : (nextNotice s).books = s.books := by
  unfold nextNotice; (repeat' split) <;> rfl
theorem selectMgmt_books : (selectMgmt s).books = s.books := by
  unfold selectMgmt; split <;> rfl

end

/-! ## The Estimator -/

theorem accounts_applySample (x : Sample) (c : ClockRecord) : Accounts 0 s (applySample x c s) := by
  unfold applySample
  dsimp only
  split
  · exact (accounts_endWakes _ _).after (by simp [State.books])
  · exact .of_books (by simp [State.books])

theorem accounts_takeSample : Accounts 0 s (takeSample s) := by
  unfold takeSample
  split
  · exact .refl s
  next n x next_ =>
    refine Accounts.after (t := s.afterTake n) ?_ rfl
    change Accounts 0 (s.afterTake n) (useSample x (s.afterTake n))
    unfold useSample
    split
    · exact .refl _
    split
    · exact .refl _
    dsimp only
    split
    · exact accounts_applySample _ _
    split
    · exact (accounts_applySample _ _).after rfl
    · exact .of_books (by simp [State.books])

theorem accounts_enterStale (h : Handle) : Accounts 0 s (enterStale h s) :=
  (accounts_endWakes _ _).after (by simp [State.books])

theorem accounts_silenceExpired (h : Handle) (c : ClockRecord) : Accounts 0 s (silenceExpired h c s) := by
  unfold silenceExpired
  split
  · exact .of_books (by simp [State.books])
  split
  · split
    · exact accounts_enterStale h
    · exact .of_books (by simp [State.books])
  · exact accounts_enterStale h
  all_goals exact .refl s

theorem accounts_takeSilenceExpiry (i : SlotNo) : Accounts 0 s (takeSilenceExpiry i s) := by
  unfold takeSilenceExpiry
  split
  · exact .refl s
  split
  · exact .refl s
  split
  · exact accounts_silenceExpired _ _
  · exact .refl s

theorem accounts_takeHoldoverExpiry (i : SlotNo) : Accounts 0 s (takeHoldoverExpiry i s) := by
  unfold takeHoldoverExpiry
  split
  · exact .refl s
  split
  · exact .refl s
  split
  · exact accounts_enterStale _
  · exact .refl s

/-! ## The Deadline Unit -/

/-- A completed wake is one answer (R108, R142). -/
theorem accounts_wakeDone (n : PortNo) (tag : Byte) (x : Ending) (body : WakeBody) (b : Handle) :
    Accounts (Pi.single n 1) s ((s.push n (.wakeDone tag x body)).lowerWakeCount b) :=
  (accounts_push n (e := .wakeDone tag x body) rfl).kept (by simp [State.books])

/-- A wake taken from the list and recomputed is answered or put back (R146). -/
theorem accounts_recomputeWake (c : ClockRecord) {e : DeadlineEntry} {n : PortNo} {tag : Byte} {named b : Handle} {p : RefValue}
    (work : e.work = .wake n tag named b p) : Accounts e.claim s (recomputeWake c s e) := by
  unfold recomputeWake
  split
  next q => cases work.symm.trans q
  next q =>
    cases work.symm.trans q
    split
    · exact claim_of_wake work ▸ accounts_wakeDone n tag _ _ b
    · exact claim_of_wake work ▸ accounts_wakeDone n tag _ _ b
    next d _ => exact accounts_insert (e := { e with due := d }) (insertEntry_perm s.lt _ s.deadlines)

theorem accounts_takeUpdateNotice (i : SlotNo) : Accounts 0 s (takeUpdateNotice i s) := by
  unfold takeUpdateNotice
  split
  · exact .refl s
  split
  next c _ marked =>
    refine accounts_sweep (fun u e bound => ?_) (by simp [State.books, State.putDeadlines])
    obtain ⟨n, tag, named, p, work⟩ := isWakeOf_iff.1 bound
    exact accounts_recomputeWake c work
  · exact .refl s

theorem accounts_takeWakeExpiry : Accounts 0 s (takeWakeExpiry s) := by
  unfold takeWakeExpiry
  split
  · exact .refl s
  next e rest list =>
    split
    · exact .refl s
    next n tag named b p work =>
      split
      · refine (accounts_take (.of_eq list)).even (accounts_wakeDone (s := s.putDeadlines rest) n tag _ _ b) ?_
        rw [claim_of_wake work, neg_add_cancel]
      · exact .refl s

/-- An armed SPLICE that has left the list tells its origin, whether or not it can execute (R144). -/
theorem accounts_executeSplice (e : DeadlineEntry) (o : Origin) (h k : Handle) : Accounts o.claim s (executeSplice e o h k s) := by
  unfold executeSplice
  cases o with
  | port n tag =>
    split
    · exact (accounts_push n rfl).after (by simp [State.books])
    · exact accounts_push n rfl
    · exact accounts_push n rfl
  | management =>
    split
    · exact .of_books (by simp [State.books])
    · exact .refl s
    · exact .refl s

theorem accounts_takeSpliceExpiry : Accounts 0 s (takeSpliceExpiry s) := by
  unfold takeSpliceExpiry
  split
  · exact .refl s
  next e rest list =>
    split
    · exact .refl s
    next o h k work =>
      split
      · refine (accounts_take (.of_eq list)).even (accounts_executeSplice e o h k) ?_
        rw [claim_of_splice work, neg_add_cancel]
      · exact .refl s

theorem accounts_answerWake (n : PortNo) (tag : Byte) (h : Handle) (p : RefValue) (d : WakeDecision) :
    Accounts (Pi.single n 1) s (answerWake n tag h p d s) := by
  cases d with
  | refuse st f => exact accounts_respond n _ _ _
  | answer ending body => exact accounts_push n rfl
  | arm bound due =>
    have armed := accounts_arm (s := s) due (.wake n tag h bound p)
    rw [claim_of_wake rfl] at armed
    exact armed.kept (by simp [answerWake, State.books])

theorem accounts_cancelEntry {e : DeadlineEntry} {n : PortNo} {wanted : Byte} (mem : e ∈ s.deadlines)
    (tagged : e.hasTag n wanted = true) : Accounts 0 s (cancelEntry e n s) := by
  unfold cancelEntry
  split
  next m tag named b p work =>
    have own : m = n := by
      unfold DeadlineEntry.hasTag at tagged
      rw [work] at tagged
      simp at tagged
      exact tagged.1
    refine (accounts_take (List.perm_cons_erase mem)).even
      (accounts_wakeDone (s := s.putDeadlines (s.deadlines.erase e)) n tag _ _ b) ?_
    rw [claim_of_wake work, own, neg_add_cancel]
  next o h k work => exact accounts_withdrawn _ _ mem work

theorem accounts_cancelTag (n : PortNo) (own wanted : Byte) : Accounts (Pi.single n 1) s (cancelTag n own wanted s) := by
  unfold cancelTag
  split
  · exact accounts_respond n _ _ _
  next e found =>
    obtain ⟨mem, tagged⟩ := List.mem_filter.1 (earliestArmed_mem found)
    have answered := (accounts_cancelEntry mem tagged).trans (accounts_respond n .cancel own (.ok (.cancel e.kind e.due)))
    rwa [zero_add] at answered

/-! ## Leases, retargets and splices -/

theorem accounts_takeLease (n : PortNo) (tag : Byte) (h : Handle) : Accounts (Pi.single n 1) s (takeLease n tag h s) := by
  unfold takeLease
  split
  · exact accounts_respond n _ _ _
  next r _ =>
    split
    · exact accounts_respond n _ _ _
    next room =>
      split
      · exact accounts_respond n _ _ _
      next k free =>
        have granted := accounts_granted (l := { port := n, named := r.named, grant := s.lt }) (freeLease_eq_some free)
          (Nat.lt_of_not_le room)
        have answered := granted.trans (accounts_respond n .lease tag (.ok (.lease k r.named s.lt r.eff)))
        rwa [zero_add] at answered

theorem accounts_takeRelease (n : PortNo) (tag number : Byte) : Accounts (Pi.single n 1) s (takeRelease n tag number s) := by
  unfold takeRelease
  split
  · exact accounts_respond n _ _ _
  next k l found =>
    obtain ⟨held, rfl, -⟩ := leaseHeldBy_eq_some found
    dsimp only
    have answered := (accounts_givenUp held).trans (accounts_respond l.port .release tag (.ok (.release k l.named l.grant
      (((s.giveUpLease k l).updPort l.port fun p => { p with leaseUse := p.leaseUse - 1 }).slot
        l.named.slot).content.lifecycle)))
    rwa [zero_add] at answered

theorem accounts_takeRetarget (n : PortNo) (tag : Byte) (h k : Handle) :
    Accounts (Pi.single n 1) s (takeRetarget n tag h k s) := by
  unfold takeRetarget
  split
  · exact accounts_respond n _ _ _
  split
  · exact accounts_respond n _ _ _
  · exact (accounts_respond n _ _ _).after (moveAlias_books s _ _ _)

theorem accounts_mgmtRetarget (h k : Handle) : Accounts 0 s (mgmtRetarget h k s) := by
  unfold mgmtRetarget
  split
  · exact .of_books rfl
  split
  · exact .of_books rfl
  · exact .of_books (moveAlias_books s _ _ _)

/-- An armed SPLICE holds the place of its origin's answer (R168). -/
theorem accounts_armSplice (o : Origin) (h k : Handle) (d : LocalTime) : Accounts o.claim s (armSplice o h k d s) := by
  have armed := accounts_arm (s := s) d (.splice o h k)
  rw [claim_of_splice rfl] at armed
  exact armed.kept (by simp [armSplice, State.books])

theorem accounts_takeSplice (n : PortNo) (tag : Byte) (h k : Handle) (d : LocalTime) :
    Accounts (Pi.single n 1) s (takeSplice n tag h k d s) := by
  unfold takeSplice
  split
  · exact accounts_respond n _ _ _
  split
  · exact accounts_respond n _ _ _
  split
  · exact (accounts_push n rfl).after (moveAlias_books s _ _ _)
  split
  · exact accounts_respond n _ _ _
  · exact accounts_armSplice (.port n tag) h k d

theorem accounts_mgmtSplice (h k : Handle) (d : LocalTime) : Accounts 0 s (mgmtSplice h k d s) := by
  unfold mgmtSplice
  split
  · exact .of_books rfl
  split
  · exact .of_books rfl
  split
  · exact .of_books (moveAlias_books s _ _ _)
  split
  · exact .of_books rfl
  · exact (accounts_armSplice .management h k d).kept rfl

theorem accounts_withdrawSplice {a : AliasRecord} {e : DeadlineEntry} {o : Origin} {k : Handle} (h : Handle)
    (found : s.pendingEntry a = some (e, o, k)) : Accounts 0 s (withdrawSplice h e o k s) := by
  obtain ⟨mem, -, h', work⟩ := pendingEntry_eq_some found
  exact accounts_withdrawn _ _ mem work

theorem accounts_takeUnsplice (n : PortNo) (tag : Byte) (h : Handle) : Accounts (Pi.single n 1) s (takeUnsplice n tag h s) := by
  unfold takeUnsplice
  split
  · exact accounts_respond n _ _ _
  split
  · exact accounts_respond n _ _ _
  next e o k found =>
    have answered := (accounts_withdrawSplice h found).trans
      (accounts_respond n .unsplice tag (.ok (.unsplice h k e.due o)))
    rwa [zero_add] at answered

theorem accounts_mgmtUnsplice (h : Handle) : Accounts 0 s (mgmtUnsplice h s) := by
  unfold mgmtUnsplice
  split
  · exact .of_books rfl
  split
  · exact .of_books rfl
  next e o k found => exact (accounts_withdrawSplice h found).kept rfl

/-! ## Retirement -/

theorem accounts_detach (h : Handle) (r : Record) : Accounts 0 s (detach h r s) := by
  unfold detach
  split
  · exact (accounts_endWakes _ _).after (by simp [State.books])
  split
  · exact .refl s
  next e o k found =>
    obtain ⟨mem, -, h', work⟩ := pendingEntry_eq_some found
    exact accounts_withdrawn _ _ mem work

theorem accounts_retireRecord (h : Handle) (ph : Phase) (r : Record) (mode : RetireMode) :
    Accounts 0 s (retireRecord h ph r mode s).1 := by
  have detached : Accounts 0 s (if ph.isDraining then s else detach h r s) := by
    split
    · exact .refl s
    · exact accounts_detach h r
  rw [retireRecord_eq rfl]
  split
  · exact detached.kept (by simp [State.books])
  split
  · exact Accounts.kept (by simpa using detached.trans (accounts_revokeAll h)) (by simp [State.books])
  · exact detached.kept (by simp [State.books])

theorem accounts_retire (h : Handle) (mode : RetireMode) : Accounts 0 s (retire h mode s) := by
  unfold retire
  split
  · exact .of_books rfl
  split
  · exact .of_books rfl
  · exact (accounts_retireRecord _ _ _ _).kept rfl

theorem accounts_takeDrainExpiry (i : SlotNo) : Accounts 0 s (takeDrainExpiry i s) := by
  unfold takeDrainExpiry
  split
  · split
    · exact (accounts_revokeAll (s.handleOf i)).kept (by simp [State.books])
    · exact .refl s
  all_goals exact .refl s

/-! ## Owners' events and evaluations -/

/-- A management request that no port is the object of leaves the accounts even (R178). -/
theorem accounts_carryOut (q : MgmtRequest) (level : ∀ b l, q ≠ .setPortLevel b l) (reset : ∀ b, q ≠ .portReset b)
    (purge : q ≠ .purge) : Accounts 0 s (carryOut s q) := by
  cases q with
  | createClock => exact .of_books (createClock_books s)
  | createAlias h => exact .of_books (createAlias_books s h)
  | configure h cs => exact .of_books (configure_books s h cs)
  | enable h => exact .of_books (enable_books s h)
  | retire h mode => exact accounts_retire h mode
  | readRecord n => exact .of_books (readRecord_books s n)
  | bind i g h r => exact .of_books (bindTag_books s i g h r)
  | unbind i g => exact .of_books (unbindTag_books s i g)
  | setInputOffset i o => exact .of_books (setInputOffset_books s i o)
  | setAnchor h v r => exact .of_books (setAnchor_books s h v r)
  | selectSource h r => exact .of_books (selectSource_books s h r)
  | setPortLevel b l => exact absurd rfl (level b l)
  | portReset b => exact absurd rfl (reset b)
  | readPort b => exact .of_books (readPort_books s b)
  | retarget h k => exact accounts_mgmtRetarget h k
  | splice h k d => exact accounts_mgmtSplice h k d
  | unsplice h => exact accounts_mgmtUnsplice h
  | readIdentity | readTime | setMask => exact .of_books rfl
  | nextNotice => exact .of_books (nextNotice_books s)
  | purge => exact absurd rfl purge

/-- An evaluation answers, or arms, the one request it served (R107). -/
theorem accounts_evaluate (n : PortNo) (tag : Byte) (q : PortRequest) :
    Accounts (Pi.single n 1) (s.serve n) (evaluate s n tag q) := by
  cases q with
  | convert | invert | status | due => exact accounts_respond n _ _ _
  | wake h p => exact accounts_answerWake n tag h p _
  | lease h => exact accounts_takeLease n tag h
  | release number => exact accounts_takeRelease n tag number
  | cancel wanted => exact accounts_cancelTag n tag wanted
  | retarget h k => exact accounts_takeRetarget n tag h k
  | splice h k d => exact accounts_takeSplice n tag h k d
  | unsplice h => exact accounts_takeUnsplice n tag h

end Sys2Proof.Machine
end

section
/-! SUPPORT. Every command by what it does to the query ports, and with it the two balances through every step (R105, R112). -/

namespace Sys2Proof.Machine

variable {s t u : State} {cmd : Instr} {n : PortNo} {p p' : Port}

/-! ## One port changed by its own pins -/

/-- What a port's accounts are read from. -/
def Port.books (p : Port) : List QueuedRequest × List ResponseEntry × Nat × Nat :=
  (p.requests, p.responses, p.credits, p.leaseUse)

/-- A change of a port that keeps unfetched requests and free credits at their sum, and a lease-use count in balance. -/
structure Port.Even (p p' : Port) : Prop where
  credits : p'.requests.length + p'.responses.countP ResponseEntry.credited + p'.credits =
    p.requests.length + p.responses.countP ResponseEntry.credited + p.credits
  leaseUse : ∀ held, p.leaseUse = held + p.responses.countP ResponseEntry.isRevoked →
    p'.leaseUse = held + p'.responses.countP ResponseEntry.isRevoked ∧ p'.leaseUse ≤ p.leaseUse

theorem Port.Even.of_books (e : p'.books = p.books) : p.Even p' := by
  simp only [Port.books, Prod.mk.injEq] at e
  obtain ⟨requests, responses, credits, leaseUse⟩ := e
  refine ⟨by rw [requests, responses, credits], fun held balance => ?_⟩
  rw [responses, leaseUse]
  exact ⟨balance, le_rfl⟩

/-- What follows such a change without touching the accounts. -/
theorem Port.Even.kept {p'' : Port} (h : p.Even p') (e : p''.books = p'.books) : p.Even p'' := by
  simp only [Port.books, Prod.mk.injEq] at e
  obtain ⟨requests, responses, credits, leaseUse⟩ := e
  refine ⟨?_, fun held balance => ?_⟩
  · rw [requests, responses, credits]
    exact h.credits
  · rw [responses, leaseUse]
    exact h.leaseUse held balance

theorem selectPort_books (p : Port) : (selectPort p).books = p.books := by
  unfold selectPort; split <;> rfl
theorem completeFetchKind_books (p : Port) : (completeFetchKind p).books = p.books := by
  unfold completeFetchKind; split <;> rfl
theorem unblockPort_books (p : Port) : (unblockPort p).books = p.books := by
  unfold unblockPort; split <;> rfl

/-- An accepted request takes a credit for its place in the queue (R104, R105). -/
theorem acceptRequest_even (q : QueuedRequest) (p : Port) : p.Even (acceptRequest q p) := by
  unfold acceptRequest
  split
  · exact .of_books rfl
  · refine ⟨?_, fun held balance => ⟨balance, le_rfl⟩⟩
    dsimp only
    rw [List.length_append, List.length_singleton]
    omega

theorem endRequest_even (p : Port) : p.Even (endRequest p) := by
  unfold endRequest
  split
  · exact .of_books rfl
  · exact .of_books rfl
  · split
    · exact .of_books rfl
    next q _ => exact (acceptRequest_even q p).kept rfl
  all_goals exact .of_books rfl

theorem endRequest_responses (p : Port) : (endRequest p).responses = p.responses := by
  have accepted (q : QueuedRequest) : (acceptRequest q p).responses = p.responses := by
    unfold acceptRequest
    split <;> rfl
  unfold endRequest
  split
  · rfl
  · rfl
  · split
    · rfl
    · exact accepted _
  all_goals rfl

/-- The head of a response queue goes with its credit, or with its place in the lease-use count (R105, R111). -/
theorem removeHead_of_cons {e : ResponseEntry} {rest : List ResponseEntry} (list : p.responses = e :: rest) : removeHead p =
    if e.credited then { p with responses := rest, credits := p.credits + 1 }
    else { p with responses := rest, leaseUse := p.leaseUse - 1 } := by
  unfold removeHead
  rw [list]
  cases e <;> rfl

theorem removeHead_of_nil (list : p.responses = []) : removeHead p = p := by
  unfold removeHead
  rw [list]

theorem removeHead_even (p : Port) : p.Even (removeHead p) := by
  cases list : p.responses with
  | nil =>
    rw [removeHead_of_nil list]
    exact .of_books rfl
  | cons e rest =>
    rw [removeHead_of_cons list]
    cases credited : e.credited with
    | true =>
      have unrevoked : e.isRevoked = false := by simpa [ResponseEntry.credited] using credited
      refine ⟨?_, fun held balance => ⟨?_, le_rfl⟩⟩
      · simp [list, credited]
        omega
      · simpa [list, unrevoked] using balance
    | false =>
      have revoked : e.isRevoked = true := by simpa [ResponseEntry.credited] using credited
      refine ⟨by simp [list, credited], fun held balance => ?_⟩
      simp [list, revoked] at balance ⊢
      omega

theorem endFetch_even (p : Port) : p.Even (endFetch p) := by
  unfold endFetch
  split
  · dsimp only
    split
    · exact (removeHead_even p).kept rfl
    · exact .of_books rfl
  all_goals exact .of_books rfl

/-! ## Every command (R100 to R119) -/

/-- What a command does to the query ports. -/
inductive PortsMove (c : Instr) (s t : State) : Prop
  /-- The part's own work comes out even. -/
  | inside (h : Accounts 0 s t)
  /-- A request is served, and answered or armed (R107). -/
  | served {n : PortNo} {q : QueuedRequest} (granted : s.granted = some (n, q)) (h : Accounts (Pi.single n 1) (s.serve n) t)
  /-- One port changes by its own pins or its level; only a FETCH end moves its response queue (R111). -/
  | pin {n : PortNo} {f : Port → Port} (even : ∀ p : Port, p.Even (f p)) (queue : c = .queryFetchEnd n ∨ ∀ p, (f p).responses = p.responses)
      (h : Accounts 0 (s.updPort n f) t)
  /-- A port reset (R116). -/
  | emptied {n : PortNo} (own : c = .portReset) (h : Accounts 0 ((s.withoutPort n).updPort n Port.emptied) t)
  /-- A purge or a hard reset (R38, R118). -/
  | cleared (own : c = .purge ∨ c = .hardReset) (fresh : PortsFresh t) (leases : ∀ k, t.lease k = none)
      (list : t.deadlines = [])
  /-- RST_N returns high (R101). -/
  | released (low : s.rstLow = true) (port : ∀ n, (t.port n).books = (s.port n).books) (leases : t.leases = s.leases)
      (list : t.deadlines = s.deadlines)

theorem portsMove_of_taken {s' : State} (h : PortsMove cmd s s') (e : taken s s' = .next t) : PortsMove cmd s t := by
  unfold taken at e
  split at e <;> cases e
  · exact .inside (.refl s)
  · exact h

/-- The request an owner's event carries out is one of its own. -/
theorem exec_owner_command {x : Instr × MgmtCode} (mem : x ∈ ownerEvents) (e : exec x.1 s = .next t) :
    t = s ∨ ∃ q, s.asked q ∧ q.command = x.1 ∧ t = carryOut s q := by
  obtain rfl | ⟨q, asked, rfl⟩ := exec_owner mem e
  · exact .inl rfl
  by_cases own : q.command = x.1
  · exact .inr ⟨q, asked, own, rfl⟩
  · have idle (q' : MgmtRequest) (progress : s.inProgress = some q') : q'.command ≠ x.1 := by
      rw [inProgress_of_asked asked] at progress
      cases progress
      exact own
    rw [exec_not_owner mem idle] at e
    exact .inl (Host.Outcome.next.inj e).symm

theorem portsFresh_purgeAll (s : State) : PortsFresh (purgeAll s) := by
  intro n
  rw [port_purgeAll]
  exact ⟨rfl, rfl, rfl, rfl⟩

theorem lease_purgeAll (s : State) (k : LeaseNo) : (purgeAll s).lease k = none := by simp [purgeAll, State.lease]

theorem deadlines_purgeAll (s : State) : (purgeAll s).deadlines = [] := by unfold purgeAll; rfl

theorem portsMove_purge (fresh : PortsFresh t) (leases : ∀ k, t.lease k = none) (list : t.deadlines = []) (code : MgmtCode)
    (a : MgmtAnswer) : PortsMove .purge s (t.hold code a) := .cleared (.inl rfl) fresh leases list

theorem portsMove_carryOut (q : MgmtRequest) : PortsMove q.command s (carryOut s q) := by
  by_cases level : ∃ b l, q = .setPortLevel b l
  · obtain ⟨b, l, rfl⟩ := level
    change PortsMove _ s (setPortLevel b l s)
    unfold setPortLevel
    split
    · exact .inside (.of_books rfl)
    next n _ =>
      split
      · exact .inside (.of_books rfl)
      · exact .pin (n := n) (f := fun p => { p with level := l.toNat }) (fun p => .of_books rfl) (.inr fun _ => rfl)
          (.of_books rfl)
  by_cases reset : ∃ b, q = .portReset b
  · obtain ⟨b, rfl⟩ := reset
    change PortsMove _ s (portReset b s)
    cases e : portOfByte b with
    | none =>
      unfold portReset
      rw [e]
      exact .inside (.of_books rfl)
    | some n =>
      rw [portReset_of_good e]
      exact .emptied rfl (.of_books rfl)
  by_cases purge : q = .purge
  · subst purge
    exact portsMove_purge (portsFresh_purgeAll s) (lease_purgeAll s) (deadlines_purgeAll s) _ _
  · exact .inside (accounts_carryOut q (fun b l e => level ⟨b, l, e⟩) (fun b e => reset ⟨b, e⟩) purge)

theorem portsMove_of_owner {x : Instr × MgmtCode} (mem : x ∈ ownerEvents) (e : exec x.1 s = .next t) : PortsMove x.1 s t := by
  obtain rfl | ⟨q, -, own, rfl⟩ := exec_owner_command mem e
  · exact .inside (.refl t)
  · exact own ▸ portsMove_carryOut q

/-- An evaluation evaluates the request that is granted next, or does nothing (R107). -/
theorem exec_evaluation {x : Instr × PortCode} (mem : x ∈ evaluations) (e : exec x.1 s = .next t) :
    t = s ∨ ∃ n tag q, s.grants n tag q ∧ t = evaluate s n tag q := by
  by_cases next : ∃ n tag q, s.granted = some (n, { tag, request := q }) ∧ q.command = x.1
  · obtain ⟨n, tag, q, granted, own⟩ := next
    cases low : s.rstLow with
    | false =>
      rw [← own, exec_granted ⟨low, granted⟩] at e
      exact .inr ⟨n, tag, q, ⟨low, granted⟩, (Host.Outcome.next.inj e).symm⟩
    | true =>
      have other : x.1 ≠ .hardReset ∧ ∀ a b m, x.1 ≠ .resetRelease a b m := by
        revert x
        simp [evaluations]
      rw [exec_low low other.1 other.2] at e
      exact .inl (Host.Outcome.next.inj e).symm
  · have idle : exec x.1 s = .next s := by
      simp only [evaluations, List.mem_cons, List.not_mem_nil, or_false] at mem
      obtain rfl | rfl | rfl | rfl | rfl | rfl | rfl | rfl | rfl | rfl | rfl := mem
      all_goals
        refine Eq.trans (congrArg (taken s) ?_) (taken_self s)
        split
        next granted => exact absurd ⟨_, _, _, granted, rfl⟩ next
        · rfl
    rw [idle] at e
    exact .inl (Host.Outcome.next.inj e).symm

theorem portsMove_of_evaluation {x : Instr × PortCode} (mem : x ∈ evaluations) (e : exec x.1 s = .next t) :
    PortsMove x.1 s t := by
  obtain rfl | ⟨n, tag, q, grants, rfl⟩ := exec_evaluation mem e
  · exact .inside (.refl t)
  · exact .served grants.2 (accounts_evaluate n tag q)

/-- Every command is one of these. -/
theorem exec_portsMove (e : exec cmd s = .next t) : PortsMove cmd s t := by
  have owner (code : MgmtCode) (mem : (cmd, code) ∈ ownerEvents) : PortsMove cmd s t := portsMove_of_owner mem e
  have evaluation (code : PortCode) (mem : (cmd, code) ∈ evaluations) : PortsMove cmd s t := portsMove_of_evaluation mem e
  have inside {s' : State} (h : Accounts 0 s s') (e : taken s s' = .next t) : PortsMove cmd s t :=
    portsMove_of_taken (.inside h) e
  have mgmtPins {m : MgmtPort} (e : taken s (s.putMgmt m) = .next t) : PortsMove cmd s t :=
    inside (s' := s.putMgmt m) (.of_books rfl) e
  have edge {n : PortNo} {f : Port → Port} (even : ∀ p : Port, p.Even (f p))
      (queue : cmd = .queryFetchEnd n ∨ ∀ p, (f p).responses = p.responses)
      (e : taken s (s.updPort n f) = .next t) : PortsMove cmd s t := portsMove_of_taken (.pin even queue (.refl _)) e
  cases cmd with
  | lclkTick => exact inside (s' := { s with lt := s.lt + 1 }) (.of_books rfl) e
  | hardReset =>
    cases e
    exact .cleared (.inr rfl) (portsFresh_hardReset s) (cleared_hardReset s).lease rfl
  | resetRelease a b m =>
    cases low : s.rstLow with
    | true =>
      rw [exec_resetRelease_low a b m low] at e
      cases e
      exact .released low (fun n => by rw [port_releaseReset]; rfl) rfl rfl
    | false =>
      have idle : exec (.resetRelease a b m) s = .next s := by
        change Host.Outcome.next (if s.rstLow then _ else s) = _
        rw [low]
        rfl
      rw [idle] at e
      cases e
      exact .inside (.refl s)
  | frameStart n => exact inside (.of_books (startFrame_books s n)) e
  | receiverUnblock n => exact inside (.of_books (unblockReceiver_books s n)) e
  | frameEnd n => exact inside (.of_books (endFrame_books s n)) e
  | inputBitSampled n b => exact inside (.of_books (sampleInputBit_books s n b)) e
  | sampleTake => exact inside accounts_takeSample e
  | silenceExpiry i => exact inside (accounts_takeSilenceExpiry i) e
  | holdoverExpiry i => exact inside (accounts_takeHoldoverExpiry i) e
  | updateNotice i => exact inside (accounts_takeUpdateNotice i) e
  | wakeExpiry => exact inside accounts_takeWakeExpiry e
  | spliceExpiry => exact inside accounts_takeSpliceExpiry e
  | drainExpiry i => exact inside (accounts_takeDrainExpiry i) e
  | querySelect n => exact edge (fun p => .of_books (selectPort_books p)) (.inr fun p => congrArg (·.2.1) (selectPort_books p)) e
  | queryFetchSelect n =>
    exact edge (fun p => .of_books (completeFetchKind_books p)) (.inr fun p => congrArg (·.2.1) (completeFetchKind_books p)) e
  | queryBitSampled n b => exact edge (f := samplePortBit b) (fun p => .of_books rfl) (.inr fun _ => rfl) e
  | queryRequestEnd n => exact edge endRequest_even (.inr endRequest_responses) e
  | queryFetchEnd n => exact edge endFetch_even (.inl rfl) e
  | queryPortUnblock n =>
    exact edge (fun p => .of_books (unblockPort_books p)) (.inr fun p => congrArg (·.2.1) (unblockPort_books p)) e
  | mgmtSelect => exact inside (.of_books (selectMgmt_books s)) e
  | mgmtBitSampled | mgmtFetchSelect | mgmtRequestEnd | mgmtFetchEnd | mgmtPortUnblock =>
    exact mgmtPins e
  | convert => exact evaluation .convert (by decide)
  | invert => exact evaluation .invert (by decide)
  | status => exact evaluation .status (by decide)
  | due => exact evaluation .due (by decide)
  | wake => exact evaluation .wake (by decide)
  | lease => exact evaluation .lease (by decide)
  | release => exact evaluation .release (by decide)
  | cancel => exact evaluation .cancel (by decide)
  | retarget => exact evaluation .retarget (by decide)
  | splice => exact evaluation .splice (by decide)
  | unsplice => exact evaluation .unsplice (by decide)
  | createClock => exact owner .createClock (by decide)
  | createAlias => exact owner .createAlias (by decide)
  | configure => exact owner .configure (by decide)
  | enable => exact owner .enable (by decide)
  | retire => exact owner .retire (by decide)
  | readRecord => exact owner .readRecord (by decide)
  | bind => exact owner .bind (by decide)
  | unbind => exact owner .unbind (by decide)
  | setInputOffset => exact owner .setInputOffset (by decide)
  | setAnchor => exact owner .setAnchor (by decide)
  | selectSource => exact owner .selectSource (by decide)
  | setPortLevel => exact owner .setPortLevel (by decide)
  | portReset => exact owner .portReset (by decide)
  | readPort => exact owner .readPort (by decide)
  | mgmtRetarget => exact owner .retarget (by decide)
  | mgmtSplice => exact owner .splice (by decide)
  | mgmtUnsplice => exact owner .unsplice (by decide)
  | readIdentity => exact owner .readIdentity (by decide)
  | readTime => exact owner .readTime (by decide)
  | setMask => exact owner .setMask (by decide)
  | nextNotice => exact owner .nextNotice (by decide)
  | purge => exact owner .purge (by decide)

/-! ## The two balances -/

/-- Both balances are kept. -/
structure Balanced (s t : State) : Prop where
  credits : CreditsBalance s → CreditsBalance t
  leaseUse : LeaseUseBalance s → LeaseUseBalance t

theorem Accounts.balanced (h : Accounts 0 s t) : Balanced s t where
  credits balance n := by
    obtain ⟨told, use, port⟩ := h.port n
    have unfetched := h.unfetched n
    have whole := balance n
    have same : (t.port n).credits = (s.port n).credits := by rw [port]
    rw [Pi.zero_apply] at unfetched
    rw [same]
    omega
  leaseUse := h.leaseUse

theorem Balanced.trans (h : Balanced s t) (h' : Balanced t u) : Balanced s u :=
  ⟨h'.credits ∘ h.credits, h'.leaseUse ∘ h.leaseUse⟩

/-- A port changed evenly keeps both balances. -/
theorem balanced_updPort {f : Port → Port} (even : ∀ p : Port, p.Even (f p)) (n : PortNo) : Balanced s (s.updPort n f) where
  credits balance m := by
    have whole := balance m
    unfold State.unfetched at whole ⊢
    rw [State.port_updPort, State.updPort_deadlines]
    split
    next same =>
      subst same
      have := (even (s.port n)).credits
      omega
    · exact whole
  leaseUse balance m := by
    have leases : (s.updPort n f).leasesOf m = s.leasesOf m := State.leasesOf_congr rfl m
    rw [State.port_updPort, leases]
    split
    next same =>
      subst same
      obtain ⟨whole, limit⟩ := balance n
      obtain ⟨whole', le⟩ := (even (s.port n)).leaseUse _ whole
      exact ⟨whole', le.trans limit⟩
    · exact balance m

/-- The granted request is the head of its port's queue (R107). -/
theorem requests_of_granted {q : QueuedRequest} (granted : s.granted = some (n, q)) : ∃ rest, (s.port n).requests = q :: rest := by
  obtain ⟨m, -, head⟩ := List.exists_of_findSome?_eq_some granted
  obtain ⟨q', first, e⟩ := Option.map_eq_some_iff.1 head
  cases e
  exact List.head?_eq_some_iff.1 first

/-- A served request that has been answered or armed keeps both balances (R105). -/
theorem balanced_served {q : QueuedRequest} (granted : s.granted = some (n, q))
    (h : Accounts (Pi.single n 1) (s.serve n) t) : Balanced s t where
  credits balance m := by
    obtain ⟨rest, queue⟩ := requests_of_granted granted
    obtain ⟨told, use, port⟩ := h.port m
    have answered := h.unfetched m
    have whole := balance m
    have same : (t.port m).credits = (s.port m).credits := by
      rw [port, State.port_serve]
      split
      next own => rw [own]
      · rfl
    have served : ((s.serve n).unfetched m : Int) + Pi.single (M := fun _ => Int) n 1 m = s.unfetched m := by
      unfold State.unfetched
      rw [State.port_serve, State.serve_deadlines, Pi.single_apply]
      split
      next own =>
        subst own
        simp [queue]
        ring
      next other => simp [Ne.symm other]
    rw [same]
    omega
  leaseUse balance := h.leaseUse fun m => by
    have leases : (s.serve n).leasesOf m = s.leasesOf m := State.leasesOf_congr rfl m
    rw [State.port_serve, leases]
    split
    next own =>
      subst own
      exact balance n
    · exact balance m

/-- An entry comes from one port at most (R136). -/
theorem isFrom_inj {e : DeadlineEntry} {m : PortNo} (from_n : e.isFrom n = true) (from_m : e.isFrom m = true) : n = m := by
  unfold DeadlineEntry.isFrom at from_n from_m
  split at from_n <;> simp_all

/-- A port reset takes every entry, response and lease of its port, and nothing of the others' (R116, R153). -/
theorem balanced_emptied (n : PortNo) : Balanced s ((s.withoutPort n).updPort n Port.emptied) where
  credits balance m := by
    have list : ((s.withoutPort n).updPort n Port.emptied).deadlines = s.deadlines.filter fun e => !e.isFrom n :=
      congrArg State.deadlines (withoutPort_frame n s)
    unfold State.unfetched
    rw [State.port_updPort, list, List.countP_filter]
    split
    next own =>
      subst own
      have gone : s.deadlines.countP (fun e => e.isFrom n && !e.isFrom n) = 0 := List.countP_eq_zero.2 fun e _ => by simp
      rw [gone]
      rfl
    next other =>
      have kept : s.deadlines.countP (fun e => e.isFrom m && !e.isFrom n) = s.deadlines.countP (DeadlineEntry.isFrom m) := by
        refine List.countP_congr fun e _ => ?_
        cases from_n : e.isFrom n with
        | false => simp
        | true =>
          have : ¬e.isFrom m = true := fun from_m => other (isFrom_inj from_n from_m)
          simp [this]
      rw [kept, port_withoutPort]
      exact balance m
  leaseUse balance m := by
    have held : ((s.withoutPort n).updPort n Port.emptied).leasesOf m = if n = m then 0 else s.leasesOf m := by
      have leases : ((s.withoutPort n).updPort n Port.emptied).leasesOf m = (s.withoutPort n).leasesOf m := rfl
      rw [leases]
      unfold State.leasesOf
      rw [State.leases_toList, State.leases_toList, List.countP_map, List.countP_map]
      split
      next own =>
        subst own
        refine List.countP_eq_zero.2 fun k _ => ?_
        rw [Function.comp, lease_withoutPort]
        split
        · simp
        next kept => exact kept
      next other =>
        refine List.countP_congr fun k _ => ?_
        rw [Function.comp, Function.comp, lease_withoutPort]
        split
        next own =>
          obtain ⟨l, e, port⟩ := (Option.any_eq_true _ _).1 own
          rw [beq_iff_eq] at port
          simp [e, port, other]
        · rfl
    rw [State.port_updPort, held]
    split
    next own => exact ⟨rfl, Nat.zero_le _⟩
    · rw [port_withoutPort]
      exact balance m

theorem balanced_cleared (fresh : PortsFresh t) (leases : ∀ k, t.lease k = none) (list : t.deadlines = []) : Balanced s t where
  credits _ n := by
    obtain ⟨requests, responses, credits, -⟩ := fresh n
    unfold State.unfetched
    rw [requests, responses, credits, list]
    rfl
  leaseUse _ n := by
    obtain ⟨-, responses, -, leaseUse⟩ := fresh n
    have none_held : t.leasesOf n = 0 := by
      unfold State.leasesOf
      rw [State.leases_toList, List.countP_map]
      exact List.countP_eq_zero.2 fun k _ => by simp [leases k]
    rw [responses, leaseUse, none_held]
    exact ⟨rfl, Nat.zero_le _⟩

theorem balanced_released (port : ∀ n, (t.port n).books = (s.port n).books) (leases : t.leases = s.leases)
    (list : t.deadlines = s.deadlines) : Balanced s t := by
  simp only [Port.books, Prod.mk.injEq] at port
  refine ⟨fun balance n => ?_, fun balance n => ?_⟩ <;> obtain ⟨requests, responses, credits, leaseUse⟩ := port n
  · unfold State.unfetched
    rw [requests, responses, credits, list]
    exact balance n
  · rw [responses, leaseUse, State.leasesOf_congr leases]
    exact balance n

theorem PortsMove.balanced (move : PortsMove cmd s t) : Balanced s t := by
  cases move with
  | inside h => exact h.balanced
  | served granted h => exact balanced_served granted h
  | pin even _ h => exact (balanced_updPort even _).trans h.balanced
  | emptied _ h => exact (balanced_emptied _).trans h.balanced
  | cleared _ fresh leases list => exact balanced_cleared fresh leases list
  | released _ port leases list => exact balanced_released port leases list

theorem step_balanced (e : step s = .next t) : Balanced s t := by
  obtain rfl | ⟨cmd, rest, -, e⟩ := step_cases e
  · exact (Accounts.refl t).balanced
  · have waiting : Accounts 0 s { s with pending := rest } := .of_books rfl
    exact waiting.balanced.trans (exec_portsMove e).balanced

/-- The balances bound both queues (R105, R112). -/
theorem queues_bounded (credits : CreditsBalance s) (leaseUse : LeaseUseBalance s) (n : PortNo) :
    (s.port n).requests.length ≤ 8 ∧ (s.port n).responses.length ≤ 12 ∧ (s.port n).credits ≤ 8 := by
  have whole : s.unfetched n + (s.port n).credits = 8 := credits n
  obtain ⟨told, limit⟩ : _ ∧ (s.port n).leaseUse ≤ 4 := leaseUse n
  have split := List.length_eq_countP_add_countP ResponseEntry.isRevoked (l := (s.port n).responses)
  have credited : (s.port n).responses.countP (fun e => !e.isRevoked) = (s.port n).responses.countP ResponseEntry.credited := rfl
  unfold State.unfetched at whole
  simp only [Bool.not_eq_true, Bool.decide_eq_false] at split
  omega

/-- Settles O58: every command moves the ports' accounts in one of the ways of `PortsMove`, and each keeps both balances. -/
theorem creditsAndLeaseUseStayBalanced : Obligations.CreditsAndLeaseUseStayBalanced :=
  ⟨fun _ _ balance e => (step_balanced e).credits balance, fun _ _ balance e => (step_balanced e).leaseUse balance,
    fun _ => queues_bounded⟩

end Sys2Proof.Machine
end

section
/-! SUPPORT. The query port status byte (R102, R191), the ready line (R109), and the Query Engine's grant (R106, R107). -/

namespace Sys2Proof.Machine

variable {s t : State} {cmd : Instr} {n : PortNo} {p : Port}

/-! ## The status byte (R191) -/

theorem getLsbD_ofNat_eight {i x : Nat} {b : Bool} (inByte : i < 8) (bit : x / 2 ^ i % 2 = b.toNat) :
    (BitVec.ofNat 8 x).getLsbD i = b := by
  rw [BitVec.getLsbD_ofNat, decide_eq_true inByte, Bool.true_and, Nat.testBit_eq_decide_div_mod_eq, bit]
  cases b <;> rfl

/-- The flags stand in the low bits, whatever the credits. -/
theorem statusByte_flags (p : Port) : p.statusByte.getLsbD 2 = p.refused ∧ p.statusByte.getLsbD 1 = p.framing ∧
    p.statusByte.getLsbD 0 = p.purged := by
  have refused := p.refused.toNat_le
  have framing := p.framing.toNat_le
  have purged := p.purged.toNat_le
  exact ⟨getLsbD_ofNat_eight (by omega) (by omega), getLsbD_ofNat_eight (by omega) (by omega),
    getLsbD_ofNat_eight (by omega) (by omega)⟩

/-- RDY and the free credits stand above the flags, for as many credits as a port has. -/
theorem statusByte_ready (credits : p.credits ≤ 8) :
    (p.statusByte.getLsbD 7 = true ↔ p.responses ≠ []) ∧ p.statusByte.toNat / 8 % 16 = p.credits := by
  have refused := p.refused.toNat_le
  have framing := p.framing.toNat_le
  have purged := p.purged.toNat_le
  have ready := (!p.responses.isEmpty).toNat_le
  have bit : p.statusByte.getLsbD 7 = !p.responses.isEmpty := getLsbD_ofNat_eight (by omega) (by omega)
  refine ⟨?_, ?_⟩
  · rw [bit]
    simp
  · unfold Port.statusByte
    rw [BitVec.toNat_ofNat]
    omega

/-! ## QRDYn (R109) -/

theorem queryReady_iff : queryReady s n = true ↔ s.rstLow = false ∧ (s.port n).responses ≠ [] := by
  simp [queryReady]

/-- While RST_N is low every response queue is empty (R100). -/
theorem responses_of_low (holds : ResetHolds s) (low : s.rstLow = true) (n : PortNo) : (s.port n).responses = [] := by
  rw [holds low, port_hardReset]
  rfl

/-- No command but a hard reset takes RST_N low (R38). -/
theorem exec_high (e : exec cmd s = .next t) (reset : cmd ≠ .hardReset) (high : s.rstLow = false) : t.rstLow = false := by
  obtain run | ⟨own, -⟩ | ⟨-, a, b, m, -, rfl⟩ | ⟨-, -, rfl⟩ := exec_cases e
  · exact run.pins.1.trans high
  · exact absurd own reset
  · rfl
  · rw [State.hold_rstLow, purgeAll_rstLow]
    exact high

theorem Accounts.responses_ne_nil {owed : PortNo → Int} (h : Accounts owed s t) (some_ : (s.port n).responses ≠ []) :
    (t.port n).responses ≠ [] := by
  obtain ⟨told, use, port⟩ := h.port n
  rw [port]
  simp [some_]

/-- A response queue empties at a FETCH end of its port, a port reset, a purge or a hard reset alone. -/
theorem PortsMove.responses_ne_nil (move : PortsMove cmd s t) (high : s.rstLow = false) (some_ : (s.port n).responses ≠ [])
    (fetch : cmd ≠ .queryFetchEnd n) (reset : cmd ≠ .portReset) (purge : cmd ≠ .purge) (hard : cmd ≠ .hardReset) :
    (t.port n).responses ≠ [] := by
  cases move with
  | inside h => exact h.responses_ne_nil some_
  | @served m q granted h =>
    refine h.responses_ne_nil ?_
    rw [State.port_serve]
    split
    next own => exact own ▸ some_
    · exact some_
  | @pin m f even queue h =>
    refine h.responses_ne_nil ?_
    rw [State.port_updPort]
    split
    next own =>
      subst own
      rw [queue.resolve_left fetch]
      exact some_
    · exact some_
  | emptied own h => exact absurd own reset
  | cleared own => exact absurd own (not_or.2 ⟨purge, hard⟩)
  | released low => simp [high] at low

/-- Settles O30: the line is RST_N and the queue; a low RST_N holds the queue empty, and `PortsMove` says what empties it else. -/
theorem readyLine : Obligations.ReadyLine := by
  refine ⟨fun s parts n => ⟨?_, fun credits => (statusByte_ready credits).1, fun q k a b c => ?_⟩, fun c s t n e ready gone => ?_⟩
  · rw [queryReady_iff, and_iff_right_iff_imp]
    intro some_
    by_contra low
    exact some_ (responses_of_low parts.2 (by simpa using low) n)
  · simp [queryReady]
  · by_contra others
    simp only [not_or] at others
    obtain ⟨fetch, reset, purge, hard⟩ := others
    obtain ⟨high, some_⟩ := queryReady_iff.1 ready
    have still := queryReady_iff.2 ⟨exec_high e hard high, (exec_portsMove e).responses_ne_nil high some_ fetch reset purge hard⟩
    rw [gone] at still
    cases still

/-! ## The grant (R107) -/

/-- The port granted is the first from the pointer on whose queue holds a request. -/
theorem granted_of_first {q : QueuedRequest} {rest : List QueuedRequest} (queue : (s.port n).requests = q :: rest)
    (first : ∀ m : PortNo, (m - s.qePtr).val < (n - s.qePtr).val → (s.port m).requests = []) : s.granted = some (n, q) := by
  obtain ⟨ascending, all⟩ := rotation_ranked s.qePtr
  exact findSome?_of_ranked (rank := fun m => (m - s.qePtr).val) ascending (all n) (by simp [queue])
    fun m before => by simp [first m before]

/-- Every code has one evaluation. -/
theorem nodup_evaluations : (evaluations.map Prod.snd).Nodup := by decide

theorem command_mem_evaluations (q : PortRequest) : (q.command, q.code) ∈ evaluations := by
  cases q <;> simp [evaluations, PortRequest.command, PortRequest.code]

/-- The evaluation that serves a code is the event of any request with that code. -/
theorem command_of_evaluation {x : Instr × PortCode} {q : PortRequest} (mem : x ∈ evaluations) (code : x.2 = q.code) :
    q.command = x.1 :=
  congrArg Prod.fst (List.inj_on_of_nodup_map nodup_evaluations (command_mem_evaluations q) mem code.symm)

/-- Settles O38: the grant is served first, and what follows only answers or arms. -/
theorem grantOrder : Obligations.GrantOrder := by
  intro s n q rest high queue first
  have granted := granted_of_first queue first
  refine ⟨granted, fun x mem code => ⟨evaluate s n q.tag q.request, ?_, ?_⟩⟩
  · rw [← command_of_evaluation mem code]
    exact exec_granted ⟨high, granted⟩
  have answered := accounts_evaluate (s := s) n q.tag q.request
  have port (m : PortNo) : ((evaluate s n q.tag q.request).port m).requests = ((s.serve n).port m).requests ∧
      ((evaluate s n q.tag q.request).port m).level = (s.port m).level ∧
      ((evaluate s n q.tag q.request).port m).credits = (s.port m).credits ∧
      ((evaluate s n q.tag q.request).port m).tx = (s.port m).tx := by
    obtain ⟨told, use, port⟩ := answered.port m
    rw [port, State.port_serve]
    by_cases own : n = m
    · subst own
      exact ⟨rfl, by simp, by simp, by simp⟩
    · simp [own]
  refine ⟨answered.qePtr, ?_, fun m other => ?_, fun m => (port m).2⟩
  · rw [(port n).1, State.port_serve, if_pos rfl, queue]
    rfl
  · rw [(port m).1, State.port_serve, if_neg (Ne.symm other)]

end Sys2Proof.Machine
end

section
/-! SUPPORT. The edges of a query port (R101 to R104, R110, R111): one bit of a transaction, its ends, and the lengths of request
frames (R192). -/

namespace Sys2Proof.Machine

variable {s t : State} {n : PortNo} {p : Port} {st : Byte} {bits : List Bool} {b : Bool}

/-! ## Eight bits as a byte (R189) -/

theorem bitsOfByte_byteOfBits : ∀ b7 b6 b5 b4 b3 b2 b1 b0 : Bool,
    bitsOfByte (byteOfBits b7 b6 b5 b4 b3 b2 b1 b0) = [b7, b6, b5, b4, b3, b2, b1, b0] := by decide

theorem bytesOfBits_eq_singleton (eight : bits.length = 8) {x : Byte} : bytesOfBits bits = [x] ↔ bits = bitsOfByte x := by
  constructor
  · intro e
    match bits, eight with
    | [b7, b6, b5, b4, b3, b2, b1, b0], _ =>
      cases e
      exact (bitsOfByte_byteOfBits _ _ _ _ _ _ _ _).symm
  · rintro rfl
    exact bytesOfBits_bitsOfByte_append x []

/-! ## One bit of a transaction (R101, R110) -/

section
variable {σ : Type} {longest : Nat} {sel : Option σ}

theorem sample_kind (few : bits.length < 7) :
    (Transaction.kind st bits).sample longest sel b = .kind st (bits ++ [b]) := by
  have below : (bits ++ [b]).length < 8 := by rw [List.length_append, List.length_singleton]; omega
  exact if_pos below

/-- The eighth bit makes the transaction what its kind byte says. -/
theorem sample_eighth (seven : bits.length = 7) : (Transaction.kind st bits).sample longest sel b =
    if bits ++ [b] = bitsOfByte fetchKind then .fetch st 0 sel
    else .request st (bits ++ [b]) 8 (decide (bits ++ [b] ≠ bitsOfByte requestKind)) := by
  have eight : (bits ++ [b]).length = 8 := by rw [List.length_append, seven]; rfl
  have request : (bytesOfBits (bits ++ [b]) != [requestKind]) = decide (bits ++ [b] ≠ bitsOfByte requestKind) := by
    rw [Bool.eq_iff_iff, bne_iff_ne, decide_eq_true_iff, ne_eq, ne_eq, bytesOfBits_eq_singleton eight]
  unfold Transaction.sample
  dsimp only
  rw [eight, if_neg (lt_irrefl 8), request]
  simp only [bytesOfBits_eq_singleton eight]

end

/-! ## The edges as changes of the transaction -/

theorem State.updPort_congr {f g : Port → Port} (e : f (s.port n) = g (s.port n)) : s.updPort n f = s.updPort n g := by
  unfold State.updPort
  simp only [e]

/-- The state with one query port's transaction replaced. -/
def State.putTx (s : State) (n : PortNo) (x : Transaction Selection) : State := s.updPort n fun p => { p with tx := x }

@[simp] theorem State.port_putTx (x : Transaction Selection) : (s.putTx n x).port n = { s.port n with tx := x } := by
  simp [State.putTx]

@[simp] theorem State.putTx_putTx (x y : Transaction Selection) : (s.putTx n x).putTx n y = s.putTx n y :=
  State.updPort_updPort n _ _

/-- An edge of a port, by what it makes of the port. -/
theorem exec_edge {c : Instr} {f g : Port → Port} (edge : exec c s = taken s (s.updPort n f)) (high : s.rstLow = false)
    (e : f (s.port n) = g (s.port n)) : exec c s = .next (s.updPort n g) := by
  rw [edge, taken_high high, State.updPort_congr e]

theorem exec_queryBitSampled {x x' : Transaction Selection} (high : s.rstLow = false) (tx : (s.port n).tx = x)
    (e : x.sample 104 (s.port n).selection b = x') : exec (.queryBitSampled n b) s = .next (s.putTx n x') := by
  refine exec_edge (f := samplePortBit b) rfl high ?_
  unfold samplePortBit
  rw [tx]
  exact congrArg (fun y => { s.port n with tx := y }) e

theorem exec_queryFetchSelect (high : s.rstLow = false)
    (tx : (s.port n).tx = .kind st [true, false, true, false, false, false, true]) :
    exec (.queryFetchSelect n) s = .next (s.putTx n (.fetch st 0 (s.port n).selection)) := by
  refine exec_edge (f := completeFetchKind) rfl high ?_
  unfold completeFetchKind samplePortBit
  rw [tx]
  exact (if_pos rfl).trans (congrArg (fun y => { s.port n with tx := y }) ((sample_eighth rfl).trans (if_pos rfl)))

theorem exec_queryPortUnblock (high : s.rstLow = false) (tx : (s.port n).tx = .blocked) :
    exec (.queryPortUnblock n) s = .next (s.putTx n .idle) := by
  refine exec_edge (f := unblockPort) rfl high ?_
  unfold unblockPort
  rw [tx]

theorem exec_querySelect (high : s.rstLow = false) (tx : (s.port n).tx = .idle) : exec (.querySelect n) s =
    .next (s.updPort n fun p => { p with tx := .kind (s.port n).statusByte [], purgeMark := false }) := by
  refine exec_edge (f := selectPort) rfl high ?_
  unfold selectPort
  rw [tx]

/-- Settles O29: the status byte is read off its arithmetic, and each edge writes the transaction alone. -/
theorem portTransactionBits : Obligations.PortTransactionBits := by
  intro s n high becomes head
  refine ⟨fun tx credits => ⟨(s.port n).statusByte, exec_querySelect high tx, (statusByte_ready credits).1,
      (statusByte_ready credits).2, statusByte_flags _⟩, fun st bits b tx => ⟨fun few => ?_, fun seven => ⟨fun fetch => ?_,
      fun request => ?_, fun other wrong => ?_⟩⟩, fun st bits k m b tx => exec_queryBitSampled high tx rfl,
    fun st k sel b tx => exec_queryBitSampled high tx rfl, fun st tx => exec_queryFetchSelect high tx,
    exec_queryPortUnblock high⟩
  · exact exec_queryBitSampled high tx (sample_kind few)
  · exact exec_queryBitSampled high tx ((sample_eighth seven).trans (if_pos fetch))
  · refine exec_queryBitSampled high tx ((sample_eighth seven).trans ?_)
    have right : bits ++ [b] = bitsOfByte requestKind := request
    rw [right, if_neg (by decide)]
    rfl
  · refine exec_queryBitSampled high tx ((sample_eighth seven).trans ((if_neg other).trans ?_))
    have broken : bits ++ [b] ≠ bitsOfByte requestKind := wrong
    rw [decide_eq_true broken]

/-! ## The lengths of request frames (R192) -/

/-- The bytes of a request's body. -/
def PortCode.bodyLength : PortCode → Nat
  | .convert => 9
  | .invert => 7
  | .status => 2
  | .due => 7
  | .wake => 7
  | .lease => 2
  | .release => 1
  | .cancel => 1
  | .retarget => 4
  | .splice => 10
  | .unsplice => 2

/-- The table of R192: codes with the lengths of their frames. -/
def portFrames : List (Nat × Nat) := evaluations.map fun x => (x.2.code, x.2.bodyLength + 3)

theorem mem_portFrames {x : Nat × Nat} : x ∈ portFrames ↔ ∃ c : PortCode, x = (c.code, c.bodyLength + 3) := by
  constructor
  · intro mem
    obtain ⟨e, -, rfl⟩ := List.mem_map.1 mem
    exact ⟨e.2, rfl⟩
  · rintro ⟨c, rfl⟩
    cases c <;> decide

/-- A body of its code's length reads as a request of the code. -/
theorem readPortBody_of_length (c : PortCode) {body : List Byte} (length : body.length = c.bodyLength) :
    ∃ r, readPortBody (BitVec.ofNat 8 c.code) body = some r ∧ r.code = c := by
  cases c with
  | convert =>
    match body, length with
    | [_, _, _, _, _, _, _, _, _], _ => exact ⟨_, rfl, rfl⟩
  | invert | due | wake =>
    match body, length with
    | [_, _, _, _, _, _, _], _ => exact ⟨_, rfl, rfl⟩
  | status | lease | unsplice =>
    match body, length with
    | [_, _], _ => exact ⟨_, rfl, rfl⟩
  | release | cancel =>
    match body, length with
    | [_], _ => exact ⟨_, rfl, rfl⟩
  | retarget =>
    match body, length with
    | [_, _, _, _], _ => exact ⟨_, rfl, rfl⟩
  | splice =>
    match body, length with
    | [_, _, _, _, _, _, _, _, _, _], _ => exact ⟨_, rfl, rfl⟩

theorem some_of_ite {α : Type} {c : Prop} [Decidable c] {x y : Option α} {r : α} (e : (if c then x else y) = some r) :
    c ∧ x = some r ∨ y = some r := by
  by_cases holds : c
  · exact .inl ⟨holds, (if_pos holds).symm.trans e⟩
  · exact .inr ((if_neg holds).symm.trans e)

/-- Whatever reads as a request has its code and its code's length. -/
theorem readPortBody_some {code : Byte} {body : List Byte} {r : PortRequest} (e : readPortBody code body = some r) :
    code = BitVec.ofNat 8 r.code.code ∧ body.length = r.code.bodyLength := by
  unfold readPortBody at e
  iterate 11
    rcases some_of_ite e with ⟨rfl, read⟩ | e
    · split at read
      all_goals cases read
      exact ⟨rfl, rfl⟩
  cases e

end Sys2Proof.Machine
end

section
/-! SUPPORT. The end of a query transaction: a request judged (R103, R104, R192) or a FETCH completed (R111, R113). -/

namespace Sys2Proof.Machine

variable {s t : State} {n : PortNo} {p : Port} {st : Byte} {bits : List Bool} {k : Nat} {m : Bool}

/-! ## The frame of a transaction's bits (R103, R192) -/

theorem judgeQueryFrame_of_malformed (broken : m = true ∨ k % 8 ≠ 0 ∨ k ≠ bits.length) : judgeQueryFrame bits k m = none := by
  refine if_pos ?_
  simpa [or_assoc] using broken

theorem judgeQueryFrame_frameBits (bs : List Byte) : judgeQueryFrame (frameBits bs) (8 * bs.length) false = readPortFrame bs := by
  unfold judgeQueryFrame
  rw [bytesOfBits_frameBits, length_frameBits, if_neg (by simp)]

theorem readPortFrame_short {bs : List Byte} (short : bs.length < 3) : readPortFrame bs = none := by
  match bs, short with
  | [], _ => rfl
  | [_], _ => rfl
  | [_, _], _ => rfl

theorem readPortFrame_cons (code tag : Byte) (body : List Byte) : readPortFrame (0xa1 :: code :: tag :: body) =
    (readPortBody code body).map fun r => { tag, request := r } := by
  unfold readPortFrame
  exact if_pos rfl

theorem PortCode.toNat_ofNat_code (c : PortCode) : (BitVec.ofNat 8 c.code).toNat = c.code := by cases c <;> rfl

/-- A body reads as a request exactly when its code and its frame's length stand in the table of R192. -/
theorem readPortBody_eq_some_iff {code : Byte} {body : List Byte} :
    (∃ r, readPortBody code body = some r ∧ r.code.code = code.toNat) ↔ (code.toNat, body.length + 3) ∈ portFrames := by
  rw [mem_portFrames]
  constructor
  · rintro ⟨r, read, named⟩
    exact ⟨r.code, Prod.ext named.symm (congrArg (· + 3) (readPortBody_some read).2)⟩
  · rintro ⟨c, row⟩
    obtain ⟨named, length⟩ := Prod.mk.inj row
    have own : BitVec.ofNat 8 c.code = code := BitVec.eq_of_toNat_eq (c.toNat_ofNat_code.trans named.symm)
    obtain ⟨r, read, rfl⟩ := readPortBody_of_length c (Nat.add_right_cancel length)
    exact ⟨r, own ▸ read, named.symm⟩

theorem readPortBody_eq_none {code : Byte} {body : List Byte} (other : (code.toNat, body.length + 3) ∉ portFrames) :
    readPortBody code body = none := by
  rw [Option.eq_none_iff_forall_ne_some]
  intro r read
  refine other (readPortBody_eq_some_iff.1 ⟨r, read, ?_⟩)
  rw [(readPortBody_some read).1, r.code.toNat_ofNat_code]

/-! ## QUERY_REQUEST_END (R104) -/

theorem exec_queryRequestEnd_of_none (high : s.rstLow = false) (tx : (s.port n).tx = .request st bits k m)
    (none_ : judgeQueryFrame bits k m = none) :
    exec (.queryRequestEnd n) s = .next (s.updPort n fun p => { p with framing := true, tx := .idle }) := by
  refine exec_edge (f := endRequest) rfl high ?_
  unfold endRequest
  rw [tx]
  dsimp only
  rw [none_]
  rfl

theorem exec_queryRequestEnd_of_some {q : QueuedRequest} (high : s.rstLow = false)
    (tx : (s.port n).tx = .request st bits k m) (request : judgeQueryFrame bits k m = some q) :
    exec (.queryRequestEnd n) s = .next (s.updPort n fun p => { acceptRequest q p with tx := .idle }) := by
  refine exec_edge (f := endRequest) rfl high ?_
  unfold endRequest
  rw [tx]
  dsimp only
  rw [request]

theorem acceptRequest_of_no_credit (q : QueuedRequest) (none_ : p.credits = 0) :
    acceptRequest q p = { p with refused := true } := if_pos none_

theorem acceptRequest_of_credit (q : QueuedRequest) (free : p.credits ≠ 0) :
    acceptRequest q p = { p with credits := p.credits - 1, requests := p.requests ++ [q] } := if_neg free

/-- Settles O31: a malformed transaction is no request, and a frame is one exactly by the table of R192. -/
theorem queryRequestEnd : Obligations.QueryRequestEnd := by
  intro s n high ends framing lengths
  refine ⟨fun st tx => ?_, fun st b bits tx => ?_, fun st bits k m tx => ⟨fun broken => ?_, ?_⟩⟩
  · refine exec_edge (f := endRequest) rfl high ?_
    unfold endRequest
    rw [tx]
    rfl
  · refine exec_edge (f := endRequest) rfl high ?_
    unfold endRequest
    rw [tx]
    rfl
  · have tooLong : 104 < k ∧ bits.length ≤ 104 → k ≠ bits.length := by omega
    exact exec_queryRequestEnd_of_none high tx (judgeQueryFrame_of_malformed (broken.imp_right (Or.imp_right tooLong)))
  · rintro bs rfl rfl rfl
    have judged := judgeQueryFrame_frameBits bs
    refine ⟨fun short => exec_queryRequestEnd_of_none high tx (judged.trans (readPortFrame_short short)), ?_⟩
    rintro code tag body rfl
    rw [readPortFrame_cons] at judged
    refine ⟨fun other => exec_queryRequestEnd_of_none high tx ?_, fun row => ?_⟩
    · rw [judged, readPortBody_eq_none other]
      rfl
    · obtain ⟨r, read, named⟩ := readPortBody_eq_some_iff.2 row
      rw [read] at judged
      have accepted := exec_queryRequestEnd_of_some high tx judged
      refine ⟨r, named, fun none_ => accepted.trans ?_, fun free => accepted.trans ?_⟩
      · refine congrArg _ (State.updPort_congr ?_)
        rw [acceptRequest_of_no_credit _ none_]
      · refine congrArg _ (State.updPort_congr ?_)
        rw [acceptRequest_of_credit _ free]

/-! ## QUERY_FETCH_END (R111) -/

theorem exec_queryFetchEnd {sel : Option Selection} {f : Port → Port} (high : s.rstLow = false)
    (tx : (s.port n).tx = .fetch st k sel)
    (removed : (if fetchCompletes k sel then removeHead (s.port n) else s.port n) = f (s.port n)) :
    exec (.queryFetchEnd n) s = .next (s.updPort n fun p => { clearReported st (f p) with tx := .idle }) := by
  refine exec_edge (f := endFetch) rfl high ?_
  unfold endFetch
  rw [tx]
  exact congrArg (fun p => { clearReported st p with tx := .idle }) removed

theorem ResponseEntry.credited_iff {e : ResponseEntry} : e.credited = true ↔ ∀ i h, e ≠ .revoked i h := by
  cases e <;> simp [ResponseEntry.credited, ResponseEntry.isRevoked]

/-- Settles O32: `removeHead` by the kind of the head, when the response was clocked out whole. -/
theorem queryFetchEnd : Obligations.QueryFetchEnd := by
  intro s n st k sel high tx ends
  refine ⟨fun e rest queue own whole => ?_, fun x own kept => ?_, fun none_ => ?_⟩
  · have completes : fetchCompletes k sel = true := by
      rw [own]
      exact decide_eq_true whole
    have removed : (if fetchCompletes k sel then removeHead (s.port n) else s.port n) = _ :=
      (if_pos completes).trans (removeHead_of_cons queue)
    refine ⟨fun credited => ?_, ?_⟩
    · exact exec_queryFetchEnd (f := fun p => { p with responses := rest, credits := p.credits + 1 }) high tx
        (removed.trans (if_pos (ResponseEntry.credited_iff.2 credited)))
    · rintro i h rfl
      exact exec_queryFetchEnd (f := fun p => { p with responses := rest, leaseUse := p.leaseUse - 1 }) high tx removed
  · have aborted : fetchCompletes k sel = false := by
      rw [own]
      obtain short | gone := kept
      · simp [fetchCompletes, short]
      · simp [fetchCompletes, gone]
    exact exec_queryFetchEnd (f := id) high tx (if_neg (by simp [aborted]))
  · exact exec_queryFetchEnd (f := id) high tx (if_neg (by simp [none_, fetchCompletes]))

end Sys2Proof.Machine
end

section
/-! SUPPORT. Whole transactions, bit by bit: a FETCH (R102, R110, R111) and the requests of both kinds of port (R101 to R104, R175,
R177). -/

namespace Sys2Proof.Machine

variable {s t : State} {n : PortNo} {st : Byte}

/-! ## A run of bits -/

section
variable {σ : Type} {longest : Nat} {sel : Option σ}

/-- The transaction after a run of bits, none of which ends it. -/
def Transaction.sampleAll (longest : Nat) (sel : Option σ) (bits : List Bool) (x : Transaction σ) : Transaction σ :=
  bits.foldl (fun x b => x.sample longest sel b) x

theorem sampleAll_append (first rest : List Bool) (x : Transaction σ) :
    x.sampleAll longest sel (first ++ rest) = (x.sampleAll longest sel first).sampleAll longest sel rest :=
  List.foldl_append

theorem sampleAll_fetch (bits : List Bool) (k : Nat) :
    (Transaction.fetch st k sel).sampleAll longest sel bits = .fetch st (k + bits.length) sel := by
  induction bits generalizing k with
  | nil => rfl
  | cons b bits ih =>
    refine (ih (k + 1)).trans ?_
    rw [List.length_cons, Nat.add_assoc, Nat.add_comm 1]

/-- A REQUEST keeps every bit while there is room. -/
theorem sampleAll_request (bits kept : List Bool) (m : Bool) (room : kept.length + bits.length ≤ longest) :
    (Transaction.request st kept kept.length m).sampleAll longest sel bits =
      .request st (kept ++ bits) (kept ++ bits).length m := by
  induction bits generalizing kept with
  | nil =>
    rw [List.append_nil]
    rfl
  | cons b bits ih =>
    rw [List.length_cons] at room
    have sampled : (Transaction.request st kept kept.length m).sample longest sel b =
        .request st (kept ++ [b]) (kept ++ [b]).length m := by
      simp only [Transaction.sample, if_pos (show kept.length < longest by omega), List.length_append, List.length_singleton]
    have rest := ih (kept ++ [b]) (by rw [List.length_append, List.length_singleton]; omega)
    rw [List.append_assoc, List.singleton_append, ← sampled] at rest
    exact rest

/-- The kind byte of a FETCH. -/
theorem sampleAll_fetchKind : (Transaction.kind st []).sampleAll longest sel (bitsOfByte 0xa2) = .fetch st 0 sel := rfl

/-- The kind byte of a REQUEST. -/
theorem sampleAll_requestKind : (Transaction.kind st []).sampleAll longest sel (bitsOfByte 0xa1) =
    .request st (bitsOfByte 0xa1) 8 false := rfl

theorem frameBits_cons (b : Byte) (bs : List Byte) : frameBits (b :: bs) = bitsOfByte b ++ frameBits bs := List.flatMap_cons

/-- A frame that opens with the kind byte of a request, kept whole. -/
theorem sampleAll_requestFrame (rest : List Byte) (room : 8 * (0xa1 :: rest).length ≤ longest) :
    (Transaction.kind st []).sampleAll longest sel (frameBits (0xa1 :: rest)) =
      .request st (frameBits (0xa1 :: rest)) (8 * (0xa1 :: rest).length) false := by
  have fits : (bitsOfByte 0xa1).length + (frameBits rest).length ≤ longest := by
    rw [length_frameBits]
    exact le_of_eq_of_le (by simp [bitsOfByte]; omega) room
  rw [frameBits_cons, sampleAll_append, sampleAll_requestKind]
  refine (sampleAll_request _ (bitsOfByte 0xa1) false fits).trans ?_
  rw [← frameBits_cons, length_frameBits]

end

/-! ## A query port's transaction -/

theorem State.tx_putTx (x : Transaction Selection) : ((s.putTx n x).port n).tx = x := by
  rw [State.port_putTx]

theorem execAll_queryBits (bits : List Bool) (x : Transaction Selection) (cs : List Instr) (high : s.rstLow = false) :
    execAll (bits.map (.queryBitSampled n) ++ cs) (s.putTx n x) =
      execAll cs (s.putTx n (x.sampleAll 104 (s.port n).selection bits)) := by
  induction bits generalizing x with
  | nil => rfl
  | cons b bits ih =>
    have sampled : exec (.queryBitSampled n b) (s.putTx n x) = .next (s.putTx n (x.sample 104 (s.port n).selection b)) := by
      have edge := exec_queryBitSampled (s := s.putTx n x) (n := n) (b := b) high (State.tx_putTx x) rfl
      rw [State.putTx_putTx, State.port_putTx] at edge
      exact edge
    rw [List.map_cons, List.cons_append, execAll_cons sampled, ih]
    rfl

/-- The state of a port once selected, but for its transaction: the purge mark is cleared (R102). -/
def State.selected (s : State) (n : PortNo) : State := s.updPort n fun p => { p with purgeMark := false }

@[simp] theorem State.port_selected : (s.selected n).port n = { s.port n with purgeMark := false } := by
  simp [State.selected]

/-- A transaction from the assertion of the select to its end: what the end finds. -/
theorem execAll_queryTransaction (bits : List Bool) (e : Instr) (high : s.rstLow = false) (idle : (s.port n).tx = .idle) :
    execAll (.querySelect n :: (bits.map (.queryBitSampled n) ++ [e])) s = exec e ((s.selected n).putTx n
      ((Transaction.kind (s.port n).statusByte []).sampleAll 104 (s.port n).selection bits)) := by
  have select : exec (.querySelect n) s = .next ((s.selected n).putTx n (.kind (s.port n).statusByte [])) := by
    rw [exec_querySelect high idle]
    refine congrArg _ (Eq.symm ?_)
    exact State.updPort_updPort n _ _
  rw [execAll_cons select, execAll_queryBits (s := s.selected n) bits _ [e] high, execAll_singleton, State.port_selected]
  rfl

/-- A status byte reported every flag set at its capture. -/
theorem clearReported_statusByte {p q : Port} (refused : q.refused = p.refused) (framing : q.framing = p.framing)
    (purged : q.purged = p.purged) (mark : q.purgeMark = false) :
    clearReported p.statusByte q = { q with refused := false, framing := false, purged := false } := by
  obtain ⟨reported2, reported1, reported0⟩ := statusByte_flags p
  unfold clearReported reportedRefused reportedFraming reportedPurged
  rw [reported2, reported1, reported0, refused, framing, purged, mark, Bool.or_false, Bool.and_not_self, Bool.and_not_self,
    Bool.and_not_self]

/-- Settles O33: the kind byte selects the head, the bits after it count, and the end removes what was selected. -/
theorem fetchTakesTheHead : Obligations.FetchTakesTheHead := by
  intro s n e rest bits high idle queue whole
  have selection : (s.port n).selection = some { entry := e, inQueue := true } := by
    unfold Port.selection
    rw [queue]
    rfl
  rw [execAll_queryTransaction _ _ high idle, sampleAll_append, sampleAll_fetchKind, sampleAll_fetch, selection]
  have completes : fetchCompletes (0 + bits.length) (some { entry := e, inQueue := true }) = true :=
    decide_eq_true (by rw [Nat.zero_add, whole])
  refine Eq.trans (exec_queryFetchEnd (f := fun p => { p with
      responses := rest
      credits := if e.credited then p.credits + 1 else p.credits
      leaseUse := if e.credited then p.leaseUse else p.leaseUse - 1 }) high (State.tx_putTx _) ?_) ?_
  · rw [if_pos completes, removeHead_of_cons (p := ((s.selected n).putTx n _).port n) (e := e) (rest := rest) (by simp [queue])]
    cases e.credited <;> rfl
  · refine congrArg _ ((State.updPort_updPort n _ _).trans ((State.updPort_updPort n _ _).trans (State.updPort_congr ?_)))
    dsimp only [Function.comp_apply]
    rw [clearReported_statusByte, ← idle]
    all_goals rfl

/-! ## Requests (R104, R177) -/

/-- A frame that reads as a request opens with the kind byte, and R192 bounds its length. -/
theorem readPortFrame_some {frame : List Byte} {q : QueuedRequest} (e : readPortFrame frame = some q) :
    (∃ rest, frame = 0xa1 :: rest) ∧ frame.length ≤ 13 := by
  unfold readPortFrame at e
  split at e
  next kind code tag body =>
    split at e
    next own =>
      obtain ⟨r, read, -⟩ := Option.map_eq_some_iff.1 e
      have bounded : r.code.bodyLength ≤ 10 := by cases r.code <;> decide
      have length := (readPortBody_some read).2
      exact ⟨⟨_, congrArg (· :: code :: tag :: body) own⟩, by simp only [List.length_cons]; omega⟩
    · cases e
  · cases e

theorem readMgmtFrame_some {frame : List Byte} {r : MgmtRequest} (e : readMgmtFrame frame = some r) :
    ∃ rest, frame = 0xa1 :: rest := by
  unfold readMgmtFrame at e
  split at e
  next kind code body =>
    split at e
    next own => exact ⟨_, congrArg (· :: code :: body) own⟩
    · cases e
  · cases e

theorem judgeMgmtFrame_frameBits (bs : List Byte) : judgeMgmtFrame (frameBits bs) (8 * bs.length) false = readMgmtFrame bs := by
  unfold judgeMgmtFrame
  rw [bytesOfBits_frameBits, length_frameBits, if_neg (by simp)]

/-- A whole request on a query port with a free credit. -/
theorem execAll_queryRequest {frame : List Byte} {q : QueuedRequest} (high : s.rstLow = false) (idle : (s.port n).tx = .idle)
    (free : (s.port n).credits ≠ 0) (request : readPortFrame frame = some q) :
    execAll (.querySelect n :: ((frameBits frame).map (.queryBitSampled n) ++ [.queryRequestEnd n])) s =
      .next (s.updPort n fun p => { p with credits := p.credits - 1, requests := p.requests ++ [q], purgeMark := false }) := by
  obtain ⟨⟨rest, rfl⟩, short⟩ := readPortFrame_some request
  rw [execAll_queryTransaction _ _ high idle, sampleAll_requestFrame rest (by omega)]
  refine Eq.trans (exec_queryRequestEnd_of_some high (State.tx_putTx _) ((judgeQueryFrame_frameBits _).trans request)) ?_
  refine congrArg _ ((State.updPort_updPort n _ _).trans ((State.updPort_updPort n _ _).trans (State.updPort_congr ?_)))
  dsimp only [Function.comp_apply]
  rw [acceptRequest_of_credit, ← idle]
  exact free

/-! ## The management port's transaction -/

/-- The state with the management port's transaction replaced. -/
def State.putMgmtTx (s : State) (x : Transaction HeldResponse) : State := s.putMgmt { s.mgmt with tx := x }

/-- An edge of the management port, by what it makes of the port. -/
theorem exec_mgmtEdge {c : Instr} {m m' : MgmtPort} (edge : exec c s = taken s (s.putMgmt m)) (high : s.rstLow = false)
    (e : m = m') : exec c s = .next (s.putMgmt m') := by
  rw [edge, taken_high high, e]

theorem exec_mgmtSelect (high : s.rstLow = false) (idle : s.mgmt.tx = .idle) :
    exec .mgmtSelect s = .next (s.putMgmtTx (.kind s.mgmtStatusByte [])) := by
  have select : selectMgmt s = s.putMgmtTx (.kind s.mgmtStatusByte []) := by
    unfold selectMgmt
    rw [idle]
    rfl
  exact (taken_high high).trans (congrArg _ select)

theorem execAll_mgmtBits (bits : List Bool) (x : Transaction HeldResponse) (cs : List Instr) (high : s.rstLow = false) :
    execAll (bits.map .mgmtBitSampled ++ cs) (s.putMgmtTx x) =
      execAll cs (s.putMgmtTx (x.sampleAll 592 s.mgmt.req.selection bits)) := by
  induction bits generalizing x with
  | nil => rfl
  | cons b bits ih =>
    have sampled : exec (.mgmtBitSampled b) (s.putMgmtTx x) = .next (s.putMgmtTx (x.sample 592 s.mgmt.req.selection b)) :=
      exec_mgmtEdge (s := s.putMgmtTx x) rfl high rfl
    rw [List.map_cons, List.cons_append, execAll_cons sampled, ih]
    rfl

/-- A whole request on the management port in NONE. -/
theorem execAll_mgmtRequest {frame : List Byte} {r : MgmtRequest} (high : s.rstLow = false) (idle : s.mgmt.tx = .idle)
    (none_ : s.mgmt.req = .none) (request : readMgmtFrame frame = some r) (short : frame.length ≤ 74) :
    execAll (.mgmtSelect :: ((frameBits frame).map .mgmtBitSampled ++ [.mgmtRequestEnd])) s =
      .next { s with mgmt := { s.mgmt with req := .inProgress r } } := by
  obtain ⟨rest, rfl⟩ := readMgmtFrame_some request
  rw [execAll_cons (exec_mgmtSelect high idle), execAll_mgmtBits _ _ _ high, execAll_singleton,
    sampleAll_requestFrame rest (by omega)]
  refine Eq.trans (exec_mgmtEdge (m' := { s.mgmt with req := .inProgress r }) rfl high ?_) rfl
  unfold endMgmtRequest State.putMgmtTx State.putMgmt
  dsimp only
  rw [judgeMgmtFrame_frameBits, request]
  dsimp only
  unfold takeMgmtRequest
  rw [none_, ← idle]

/-- Settles O37: the bits are kept whole, and the end reads the frame back. -/
theorem requestsAreReceived : Obligations.RequestsAreReceived :=
  ⟨fun _ _ _ _ => execAll_queryRequest, fun _ _ _ => execAll_mgmtRequest⟩

end Sys2Proof.Machine
end

section
/-! SUPPORT. The data-out pins (R101, R110, R175, R180): the bit a transaction presents. -/

namespace Sys2Proof.Machine

variable {s : State} {n : PortNo}

/-! ## The bits of a frame, most significant bit first -/

theorem bitsOfByte_get (b : Byte) {i : Nat} (inByte : i < 8) : (bitsOfByte b)[i]? = some (b.getLsbD (7 - i)) := by
  match i, inByte with
  | 0, _ | 1, _ | 2, _ | 3, _ | 4, _ | 5, _ | 6, _ | 7, _ => rfl

theorem frameBits_get {bs : List Byte} {i j : Nat} {b : Byte} (inByte : j < 8) (byte : bs[i]? = some b) :
    (frameBits bs)[8 * i + j]? = some (b.getLsbD (7 - j)) := by
  induction bs generalizing i with
  | nil => cases byte
  | cons x bs ih =>
    rw [frameBits_cons]
    cases i with
    | zero =>
      cases byte
      rw [Nat.mul_zero, Nat.zero_add, List.getElem?_append_left (by simpa [bitsOfByte] using inByte), bitsOfByte_get _ inByte]
    | succ i =>
      have eight : (bitsOfByte x).length = 8 := rfl
      have after : 8 * (i + 1) + j - 8 = 8 * i + j := by omega
      rw [List.getElem?_append_right (by omega), eight, after]
      exact ih byte

theorem frameBits_beyond {bs : List Byte} {k : Nat} (beyond : 8 * bs.length ≤ k) : (frameBits bs)[k]? = none := by
  rw [List.getElem?_eq_none_iff, length_frameBits]
  exact beyond

/-! ## What a transaction presents -/

section
variable {σ : Type} (bytes : σ → List Byte)

theorem presentedBit_kind (st : Byte) {bits : List Bool} (few : bits.length < 8) :
    presentedBit bytes (.kind st bits) = some (st.getLsbD (7 - bits.length)) :=
  congrArg (fun o : Option Bool => some (o.getD false)) (bitsOfByte_get st few)

/-- The NONE code is a byte of zeros. -/
theorem presentedBit_fetch_none (st : Byte) (k : Nat) : presentedBit bytes (.fetch st k none) = some false := by
  have zero : (List.replicate 8 false)[k]?.getD false = false := by
    rw [List.getElem?_replicate]
    split <;> rfl
  exact congrArg some zero

theorem presentedBit_fetch_beyond (st : Byte) {k : Nat} {x : σ} (beyond : 8 * (bytes x).length ≤ k) :
    presentedBit bytes (.fetch st k (some x)) = some false :=
  congrArg (fun o : Option Bool => some (o.getD false)) (frameBits_beyond beyond)

theorem presentedBit_fetch (st : Byte) {i j : Nat} {x : σ} {b : Byte} (inByte : j < 8) (byte : (bytes x)[i]? = some b) :
    presentedBit bytes (.fetch st (8 * i + j) (some x)) = some (b.getLsbD (7 - j)) :=
  congrArg (fun o : Option Bool => some (o.getD false)) (frameBits_get inByte byte)

end

/-! ## The pins with RST_N high -/

theorem queryDataOut_high (high : s.rstLow = false) (n : PortNo) :
    queryDataOut s n (selectAsserted s n) = presentedBit (fun x => x.entry.bytes) (s.port n).tx := by
  unfold queryDataOut selectAsserted
  cases (s.port n).tx <;> simp [high, Transaction.state, presentedBit]

theorem mgmtDataOut_high (high : s.rstLow = false) :
    mgmtDataOut s (mgmtSelected s) = presentedBit HeldResponse.bytes s.mgmt.tx := by
  unfold mgmtDataOut mgmtSelected
  cases s.mgmt.tx <;> simp [high, Transaction.state, presentedBit]

/-- What `DataOutPins` asks of a port whose transaction presents `out`, whatever its responses are. -/
theorem presentedBit_rules {σ : Type} (bytes : σ → List Byte) {tx : Transaction σ} {out : Option Bool}
    (presents : out = presentedBit bytes tx) :
    (tx = .idle → out = none) ∧ (tx = .blocked → out = some false) ∧
    (∀ st bits, tx = .kind st bits → bits.length < 8 → out = some (st.getLsbD (7 - bits.length))) ∧
    (∀ st bits k m, tx = .request st bits k m → out = some false) ∧
    (∀ st k, tx = .fetch st k none → out = some false) ∧
    ∀ st k x, tx = .fetch st k (some x) →
      (8 * (bytes x).length ≤ k → out = some false) ∧
      ∀ i j b, k = 8 * i + j → j < 8 → (bytes x)[i]? = some b → out = some (b.getLsbD (7 - j)) := by
  subst presents
  refine ⟨?_, ?_, ?_, ?_, ?_, ?_⟩
  · rintro rfl
    rfl
  · rintro rfl
    rfl
  · rintro st bits rfl few
    exact presentedBit_kind bytes st few
  · rintro st bits k m rfl
    rfl
  · rintro st k rfl
    exact presentedBit_fetch_none bytes st k
  · rintro st k x rfl
    refine ⟨presentedBit_fetch_beyond bytes st, ?_⟩
    rintro i j b rfl inByte byte
    exact presentedBit_fetch bytes st inByte byte

/-- Settles O34: one rule for both kinds of port, on whatever their responses are made of. -/
theorem dataOutPins : Obligations.DataOutPins :=
  ⟨fun _ _ => ⟨rfl, rfl⟩, fun _ high =>
    ⟨fun n => presentedBit_rules _ (queryDataOut_high high n), presentedBit_rules _ (mgmtDataOut_high high)⟩⟩

end Sys2Proof.Machine
end

section
/-! SUPPORT. The timing queries that need a timebase (R120 to R132): what they answer, by the outcome of resolution, the lock
state and the computed value. -/

namespace Sys2Proof.Machine

variable {s : State} {n : PortNo} {tag : Byte} {h f : Handle} {use : UseKind} {st : Status} {r : Resolved} {x : PortResult}
  {compute : Resolved → Option PortResult} {q : PortRequest} {code : PortCode}

/-! ## The answer of a query that needs a timebase (R120, R123, R124) -/

theorem timingAnswer_of_fail (e : resolve s (s.port n).level use false h = .fail st f) :
    timingAnswer s n use h compute = .refused st f := by
  unfold timingAnswer
  rw [e]

theorem timingAnswer_of_pass (e : resolve s (s.port n).level use false h = .pass r) : timingAnswer s n use h compute =
    if r.clock.lock.timeless then .refused .noTimebase r.eff
    else (compute r).elim (.refused .outOfRange r.eff) .ok := by
  unfold timingAnswer
  rw [e]
  dsimp only
  cases compute r <;> rfl

theorem timingAnswer_of_timeless (e : resolve s (s.port n).level use false h = .pass r)
    (lost : r.clock.lock = .unset ∨ r.clock.lock = .stale) : timingAnswer s n use h compute = .refused .noTimebase r.eff := by
  refine (timingAnswer_of_pass e).trans (if_pos ?_)
  obtain lock | lock := lost <;> rw [lock] <;> rfl

theorem timingAnswer_of_running (e : resolve s (s.port n).level use false h = .pass r) (set : r.clock.lock ≠ .unset)
    (fresh : r.clock.lock ≠ .stale) :
    timingAnswer s n use h compute = (compute r).elim (.refused .outOfRange r.eff) .ok := by
  refine (timingAnswer_of_pass e).trans (if_neg ?_)
  cases lock : r.clock.lock with
  | unset => exact absurd lock set
  | stale => exact absurd lock fresh
  | acquiring | locked | holdover => exact nofun

/-- What `TimingQueries` asks of a granted request whose evaluation answers as `timingAnswer` does, whatever it computes. -/
theorem exec_timingAnswer (grants : s.grants n tag q)
    (answers : evaluate s n tag q = (s.serve n).respond n code tag (timingAnswer s n use h compute)) :
    (∀ st f, resolve s (s.port n).level use false h = .fail st f →
      exec q.command s = .next ((s.serve n).respond n code tag (.refused st f))) ∧
    ∀ r, resolve s (s.port n).level use false h = .pass r →
      (r.clock.lock = .unset ∨ r.clock.lock = .stale →
        exec q.command s = .next ((s.serve n).respond n code tag (.refused .noTimebase r.eff))) ∧
      (r.clock.lock ≠ .unset → r.clock.lock ≠ .stale →
        (compute r = none → exec q.command s = .next ((s.serve n).respond n code tag (.refused .outOfRange r.eff))) ∧
        ∀ x, compute r = some x → exec q.command s = .next ((s.serve n).respond n code tag (.ok x))) := by
  have ends {a : PortAnswer} (e : timingAnswer s n use h compute = a) :
      exec q.command s = .next ((s.serve n).respond n code tag a) := exec_grants grants (e ▸ answers)
  refine ⟨fun st f e => ends (timingAnswer_of_fail e), fun r e => ⟨fun lost => ends (timingAnswer_of_timeless e lost),
    fun set fresh => ⟨fun none => ends ?_, fun x value => ends ?_⟩⟩⟩
  · rw [timingAnswer_of_running e set fresh, none, Option.elim_none]
  · rw [timingAnswer_of_running e set fresh, value, Option.elim_some]

/-! ## STATUS (R129) -/

theorem statusAnswer_of_fail (e : resolve s (s.port n).level .convert false h = .fail st f) :
    statusAnswer s n h = .refused st f := by
  unfold statusAnswer
  rw [e]

theorem statusAnswer_of_pass (e : resolve s (s.port n).level .convert false h = .pass r) : statusAnswer s n h =
    .ok (.status r.eff s.lt r.phase.lifecycle r.clock.lock r.clock.active r.clock.trim r.clock.lastError
      (r.clock.anchor.map fun a => timeDiff a.lt s.lt)) := by
  unfold statusAnswer
  rw [e]
  rfl

/-- Settles O40: CONVERT, INVERT and DUE are one answer with a computation each; STATUS asks for no timebase. -/
theorem timingQueries : Obligations.TimingQueries := by
  intro s n tag h
  refine ⟨fun grants => exec_timingAnswer grants rfl, fun t grants => exec_timingAnswer grants rfl,
    fun v grants => exec_timingAnswer grants rfl, fun p grants => exec_timingAnswer grants rfl,
    fun grants => ⟨fun st f e => ?_, fun r e => ?_⟩⟩
  · exact exec_grants grants (congrArg ((s.serve n).respond n .status tag) (statusAnswer_of_fail e))
  · exact exec_grants grants (congrArg ((s.serve n).respond n .status tag) (statusAnswer_of_pass e))

end Sys2Proof.Machine
end

section
/-! SUPPORT. How far a projection moves between two instants on one line (R8, R126). -/

namespace Sys2Proof.Machine

/-- Offsets within half a word's range differ by the signed difference of the words they lead to. -/
theorem toInt_add_ofInt_sub_add_ofInt {w : Nat} (pos : 0 < w) (u : BitVec w) {x y : Int} (lo : -2 ^ (w - 1) ≤ y - x)
    (hi : y - x < 2 ^ (w - 1)) : (u + BitVec.ofInt w y - (u + BitVec.ofInt w x)).toInt = y - x := by
  have e : u + BitVec.ofInt w y - (u + BitVec.ofInt w x) = BitVec.ofInt w (y - x) := by
    rw [sub_eq_add_neg y x, BitVec.ofInt_add, BitVec.ofInt_neg]
    ring
  rw [e, BitVec.toInt_ofInt_eq_self pos lo hi]

/-- Time differences from one local time that lie within the span differ by the time difference of their ends (R3). -/
theorem timeDiff_of_span {a t u : LocalTime} (ht : (timeDiff a t).natAbs ≤ 2 ^ 36) (hu : (timeDiff a u).natAbs ≤ 2 ^ 36) :
    timeDiff t u = timeDiff a u - timeDiff a t := by
  have back (t : LocalTime) : t = a + BitVec.ofInt 48 (timeDiff a t) := by
    rw [timeDiff, BitVec.ofInt_toInt]
    ring
  calc timeDiff t u = timeDiff (a + BitVec.ofInt 48 (timeDiff a t)) (a + BitVec.ofInt 48 (timeDiff a u)) := by
        rw [← back, ← back]
    _ = timeDiff a u - timeDiff a t := toInt_add_ofInt_sub_add_ofInt (by decide) a (by omega) (by omega)

/-- Between two projections on one line lie the ticks between and the change of the trim's correction (R8). -/
theorem rvDiff_of_projections {a : Anchor} {r : Int} {t u : LocalTime} {p q : RefValue} (lo : -1048576 ≤ r)
    (hi : r ≤ 1048576) (hp : projection a r t = some p) (hq : projection a r u = some q) :
    rvDiff p q = timeDiff t u + (timeDiff a.lt u * r / 2 ^ 32 - timeDiff a.lt t * r / 2 ^ 32) := by
  obtain ⟨ht, rfl⟩ := projection_eq_some_iff.1 hp
  obtain ⟨hu, rfl⟩ := projection_eq_some_iff.1 hq
  have ct := correction_natAbs_le ht lo hi
  have cu := correction_natAbs_le hu lo hi
  rw [timeDiff_of_span ht hu]
  exact (toInt_add_ofInt_sub_add_ofInt (by decide) a.rv (by omega) (by omega)).trans (by ring)

/-- Over `k` ticks the correction moves by at most k/4096 counts, and one for its rounding (R7, R8). -/
theorem correction_change_bounds (d : Int) {k r : Int} (pos : 0 < k) (lo : -1048576 ≤ r) (hi : r ≤ 1048576) :
    -k ≤ (d + k) * r / 2 ^ 32 - d * r / 2 ^ 32 ∧ -(k / 4096) - 1 ≤ (d + k) * r / 2 ^ 32 - d * r / 2 ^ 32 ∧
      (d + k) * r / 2 ^ 32 - d * r / 2 ^ 32 ≤ k / 4096 + 1 := by
  have below : k * -1048576 ≤ k * r := Int.mul_le_mul_of_nonneg_left lo pos.le
  have above : k * r ≤ k * 1048576 := Int.mul_le_mul_of_nonneg_left hi pos.le
  rw [Int.add_mul]
  generalize k * r = x at *
  generalize d * r = y
  omega

/-- R126's bounds on one line, for two instants within the span. -/
theorem rvDiff_bounds_of_projections {a : Anchor} {r : Int} {t u : LocalTime} {p q : RefValue} (lo : -1048576 ≤ r)
    (hi : r ≤ 1048576) (hp : projection a r t = some p) (hq : projection a r u = some q) (later : 0 < timeDiff t u) :
    0 ≤ rvDiff p q ∧ timeDiff t u - timeDiff t u / 4096 - 1 ≤ rvDiff p q ∧
      rvDiff p q ≤ timeDiff t u + timeDiff t u / 4096 + 1 := by
  have bounds := correction_change_bounds (timeDiff a.lt t) later lo hi
  have far := timeDiff_of_span (projection_eq_some_iff.1 hp).1 (projection_eq_some_iff.1 hq).1
  have ends : timeDiff a.lt t + timeDiff t u = timeDiff a.lt u := by omega
  rw [ends] at bounds
  rw [rvDiff_of_projections lo hi hp hq]
  omega

end Sys2Proof.Machine
end
section
/-! SUPPORT. The line of a CLOCK record through every command but SAMPLE_TAKE and SET_ANCHOR (R126): the line a slot has after it
the slot had before it, but for the slot of a record just created. -/

namespace Sys2Proof.Machine

variable {s t u : State} {cmd : Instr}

/-! ## The line of a slot -/

/-- The anchor and trim of a CLOCK record (R8). -/
def ClockRecord.line (c : ClockRecord) : Option Anchor × Int := (c.anchor, c.trim)

/-- The line of a record; an ALIAS has none of its own. -/
def Record.line : Record → Option (Option Anchor × Int)
  | .ofClock c => some c.line
  | .ofAlias _ => none

/-- The line of the CLOCK record a slot holds. -/
def Slot.line (x : Slot) : Option (Option Anchor × Int) :=
  match x.content with
  | .active _ r => r.line
  | .free | .retired _ => none

theorem Slot.line_active {x : Slot} {ph : Phase} {r : Record} (e : x.content = .active ph r) : x.line = r.line := by
  unfold Slot.line
  rw [e]

theorem Slot.line_free {x : Slot} (e : x.content = .free) : x.line = none := by
  unfold Slot.line
  rw [e]

theorem line_of_current {h : Handle} {ph : Phase} {c : ClockRecord} (cur : s.current h = some (ph, .ofClock c)) :
    (s.slot h.slot).line = some c.line := Slot.line_active (State.current_eq_some.1 cur).2.2.2

theorem Record.line_updLeaseCount (g : Nat → Nat) (r : Record) : (r.updLeaseCount g).line = r.line := by
  cases r <;> rfl

/-- A change of a field keeps the line: no configured field is the anchor or the trim (R26). -/
theorem Record.line_change (r : Record) (ch : Change) : (r.change ch).line = r.line := by
  unfold Record.change
  split
  · rfl
  next f _ =>
    cases r with
    | ofAlias a => rfl
    | ofClock c => cases f <;> rfl

theorem Record.line_configured (r : Record) (cs : List Change) : (r.configured cs).line = r.line := by
  unfold Record.configured
  induction cs generalizing r with
  | nil => rfl
  | cons ch cs ih => exact (ih _).trans (r.line_change ch)

theorem Record.line_enabled (now : LocalTime) (r : Record) : (r.enabled now).line = r.line := by
  cases r with
  | ofAlias a => rfl
  | ofClock c =>
    unfold Record.enabled
    dsimp only
    split <;> rfl

/-- What keeps the core of a record keeps its line. -/
theorem Slot.line_core (x : Slot) : x.core.line = x.line := by
  unfold Slot.core
  split
  next ph r active =>
    rw [Slot.line_active active]
    cases r <;> rfl
  all_goals rfl

/-! ## Lines kept -/

/-- A line the slot has afterwards it had before. -/
def Slot.LineKept (x y : Slot) : Prop := ∀ l, y.line = some l → x.line = some l

theorem Slot.LineKept.refl (x : Slot) : x.LineKept x := fun _ => id

theorem Slot.LineKept.trans (x y z : Slot) (h : x.LineKept y) (h' : y.LineKept z) : x.LineKept z := fun l e => h l (h' l e)

theorem Slot.LineKept.of_eq {x y : Slot} (e : y.line = x.line) : x.LineKept y := fun _ q => e ▸ q

theorem Slot.LineKept.of_none {x y : Slot} (e : y.line = none) : x.LineKept y := by
  intro l q
  rw [e] at q
  cases q

theorem Slot.lineKept_active {x : Slot} {ph : Phase} {r r' : Record} (e : x.content = .active ph r) (line : r'.line = r.line)
    (ph' : Phase) (f : NoticeSet) : x.LineKept { x with content := .active ph' r', notices := f } :=
  .of_eq ((Slot.line_active rfl).trans (line.trans (Slot.line_active e).symm))

theorem Slot.lineKept_collected (x : Slot) (flags : NoticeSet) : x.LineKept (x.collected flags) := by
  unfold Slot.collected
  split
  · exact .of_none rfl
  · exact .of_eq rfl

/-- No slot has a line it did not have. -/
abbrev State.LinesKept : State → State → Prop := SlotsRel Slot.LineKept

theorem linesKept_of_slots (e : t.slots = s.slots) : s.LinesKept t := SlotsRel.of_slots Slot.LineKept.refl e

theorem linesKept_putSlot {i : SlotNo} {x : Slot} (kept : (s.slot i).LineKept x) : s.LinesKept (s.putSlot i x) :=
  SlotsRel.putSlot Slot.LineKept.refl kept

theorem linesKept_foldl {α : Type} {f : State → α → State} (hf : ∀ s x, State.LinesKept s (f s x)) (l : List α) :
    s.LinesKept (l.foldl f s) := SlotsRel.foldl Slot.LineKept.refl Slot.LineKept.trans hf l

namespace State.LinesKept

theorem refl (s : State) : s.LinesKept s := linesKept_of_slots rfl

theorem trans (kept : s.LinesKept t) (kept' : t.LinesKept u) : s.LinesKept u :=
  SlotsRel.trans Slot.LineKept.trans kept kept'

/-! ### One operation more -/

section
variable (kept : s.LinesKept t)
include kept

theorem slots (e : u.slots = t.slots) : s.LinesKept u := kept.trans (linesKept_of_slots e)

theorem push (n : PortNo) (e : ResponseEntry) : s.LinesKept (t.push n e) := kept.slots rfl

theorem respond (n : PortNo) (code : PortCode) (tag : Byte) (a : PortAnswer) : s.LinesKept (t.respond n code tag a) :=
  kept.slots rfl

theorem hold (code : MgmtCode) (a : MgmtAnswer) : s.LinesKept (t.hold code a) := kept.slots rfl

theorem updPort (n : PortNo) (f : Port → Port) : s.LinesKept (t.updPort n f) := kept.slots rfl

theorem updClock (h : Handle) {f : ClockRecord → ClockRecord} (line : ∀ c, (f c).line = c.line) :
    s.LinesKept (t.updClock h f) :=
  kept.trans (SlotsRel.updClock Slot.LineKept.refl fun x ph c e =>
    Slot.lineKept_active (r' := .ofClock (f c)) e (congrArg some (line c)) ph x.notices)

theorem updAlias (h : Handle) (f : AliasRecord → AliasRecord) : s.LinesKept (t.updAlias h f) :=
  kept.trans (SlotsRel.updAlias Slot.LineKept.refl fun x ph a e =>
    Slot.lineKept_active (r' := .ofAlias (f a)) e rfl ph x.notices)

theorem updRecord (h : Handle) {f : Record → Record} (line : ∀ r, (f r).line = r.line) : s.LinesKept (t.updRecord h f) :=
  kept.trans (SlotsRel.updRecord Slot.LineKept.refl fun x ph r e => Slot.lineKept_active e (line r) ph x.notices)

theorem notify (i : SlotNo) (f : NoticeSet) : s.LinesKept (t.notify i f) :=
  kept.trans (SlotsRel.notify Slot.LineKept.refl (.of_eq rfl))

/-- A slot that holds no CLOCK afterwards has no line to account for. -/
theorem putSlot {i : SlotNo} {x : Slot} (none : x.line = none) : s.LinesKept (t.putSlot i x) :=
  kept.trans (linesKept_putSlot (.of_none none))

theorem setPhase (h : Handle) (ph : Phase) : s.LinesKept (t.setPhase h ph) := by
  unfold State.setPhase
  split
  next r cur =>
    exact kept.trans (linesKept_putSlot (Slot.lineKept_active (State.current_eq_some.1 cur).2.2.2 rfl ph _))
  · exact kept

theorem raiseAliasCount (h : Handle) : s.LinesKept (t.raiseAliasCount h) := by
  refine kept.updClock h ?_
  exact fun _ => rfl

theorem lowerAliasCount (h : Handle) : s.LinesKept (t.lowerAliasCount h) := by
  refine kept.updClock h ?_
  exact fun _ => rfl

theorem lowerWakeCount (h : Handle) : s.LinesKept (t.lowerWakeCount h) := by
  refine kept.updClock h ?_
  exact fun _ => rfl

theorem endWakes (h : Handle) (x : Ending) : s.LinesKept (t.endWakes h x) := by
  have one (s : State) (e : DeadlineEntry) : s.LinesKept (s.endWake x e) := by
    unfold State.endWake
    split
    · exact .push (.refl s) _ _
    · exact .refl s
  have listed (l : List DeadlineEntry) : s.LinesKept (t.putDeadlines l) := kept.slots rfl
  unfold State.endWakes
  refine .updClock ((listed _).trans (linesKept_foldl one _)) _ ?_
  exact fun _ => rfl

theorem dropSplice (e : DeadlineEntry) (h n : Handle) : s.LinesKept (t.dropSplice e h n) := by
  have listed : s.LinesKept (t.putDeadlines (t.deadlines.erase e)) := kept.slots rfl
  exact .updAlias (.lowerAliasCount listed n) h _

theorem tellSplice (o : Origin) (x : Ending) (b : SpliceBody) : s.LinesKept (t.tellSplice o x b) := by
  unfold State.tellSplice
  split
  · exact .push kept _ _
  · exact .notify kept _ _

theorem enterRetired (i : SlotNo) : s.LinesKept (t.enterRetired i) := by
  unfold State.enterRetired
  split
  · exact .putSlot kept rfl
  · exact .putSlot (.lowerAliasCount kept _) rfl
  · exact kept
  · exact kept

theorem revokeAll (h : Handle) : s.LinesKept (t.revokeAll h) := by
  have one (s : State) (k : LeaseNo) : s.LinesKept (s.revokeLease h k) := by
    have freed : s.LinesKept (s.putLease k none) := linesKept_of_slots rfl
    unfold State.revokeLease
    split
    · split
      · exact .push (.updRecord freed h (Record.line_updLeaseCount _)) _ _
      · exact .refl s
    · exact .refl s
  exact .notify (kept.trans (linesKept_foldl one _)) _ _

end

end State.LinesKept

theorem State.GivenUp.linesKept (h : s.GivenUp t) : s.LinesKept t := by
  intro i
  cases h i with
  | kept same => exact .of_eq (by rw [← Slot.line_core, same, Slot.line_core])
  | ended draining retired => exact .of_none (by rw [retired]; rfl)

/-! ## The Deadline Unit -/

theorem linesKept_recomputeWake (c : ClockRecord) (s : State) (e : DeadlineEntry) : s.LinesKept (recomputeWake c s e) := by
  unfold recomputeWake
  split
  · exact .refl s
  · split
    · exact .lowerWakeCount (.push (.refl s) _ _) _
    · exact .lowerWakeCount (.push (.refl s) _ _) _
    · exact linesKept_of_slots rfl

theorem linesKept_takeUpdateNotice (i : SlotNo) : s.LinesKept (takeUpdateNotice i s) := by
  unfold takeUpdateNotice
  split
  · exact .refl s
  · split
    · have listed (l : List DeadlineEntry) : s.LinesKept (s.putDeadlines l) := linesKept_of_slots rfl
      unfold recomputeAll
      refine .trans (.updClock (listed _) _ ?_) (linesKept_foldl (linesKept_recomputeWake _) _)
      exact fun _ => rfl
    · exact .refl s

theorem linesKept_takeWakeExpiry : s.LinesKept (takeWakeExpiry s) := by
  unfold takeWakeExpiry
  split
  · exact .refl s
  split
  · exact .refl s
  split
  · exact .lowerWakeCount (.push (linesKept_of_slots rfl) _ _) _
  · exact .refl s

theorem linesKept_executeSplice (e : DeadlineEntry) (o : Origin) (h n : Handle) : s.LinesKept (executeSplice e o h n s) := by
  unfold executeSplice
  split
  · dsimp only
    split
    · exact .push (.lowerAliasCount (.updAlias (.refl s) _ _) _) _ _
    · exact .notify (.lowerAliasCount (.updAlias (.refl s) _ _) _) _ _
  all_goals
    split
    · exact .push (.refl s) _ _
    · exact .refl s

theorem linesKept_takeSpliceExpiry : s.LinesKept (takeSpliceExpiry s) := by
  have listed (l : List DeadlineEntry) : s.LinesKept (s.putDeadlines l) := linesKept_of_slots rfl
  unfold takeSpliceExpiry
  split
  · exact .refl s
  split
  · exact .refl s
  split
  · exact (listed _).trans (linesKept_executeSplice _ _ _ _)
  · exact .refl s

theorem linesKept_answerWake (n : PortNo) (tag : Byte) (h : Handle) (p : RefValue) (d : WakeDecision) :
    s.LinesKept (answerWake n tag h p d s) := by
  unfold answerWake
  split
  · exact .respond (.refl s) _ _ _ _
  · exact .push (.refl s) _ _
  · refine .updClock (linesKept_of_slots rfl) _ ?_
    exact fun _ => rfl

theorem linesKept_cancelTag (n : PortNo) (own wanted : Byte) : s.LinesKept (cancelTag n own wanted s) := by
  unfold cancelTag
  split
  · exact .respond (.refl s) _ _ _ _
  · refine .respond ?_ _ _ _ _
    unfold cancelEntry
    split
    · exact .lowerWakeCount (.push (linesKept_of_slots rfl) _ _) _
    · exact .tellSplice (.dropSplice (.refl s) _ _ _) _ _ _

/-! ## The Estimator's expiries, SELECT-SOURCE, BIND and UNBIND -/

theorem linesKept_enterStale (h : Handle) : s.LinesKept (enterStale h s) := by
  unfold enterStale
  refine .endWakes (.notify (.updClock (.refl s) _ ?_) _ _) _ _
  exact fun _ => rfl

theorem linesKept_silenceExpired (h : Handle) (c : ClockRecord) : s.LinesKept (silenceExpired h c s) := by
  unfold silenceExpired
  split
  · refine .notify (.updClock (.refl s) _ ?_) _ _
    exact fun _ => rfl
  split
  · split
    · exact linesKept_enterStale h
    · refine .notify (.updClock (.refl s) _ ?_) _ _
      exact fun _ => rfl
  · exact linesKept_enterStale h
  all_goals exact .refl s

theorem linesKept_takeSilenceExpiry (i : SlotNo) : s.LinesKept (takeSilenceExpiry i s) := by
  unfold takeSilenceExpiry
  split
  · exact .refl s
  split
  · exact .refl s
  split
  · exact linesKept_silenceExpired _ _
  · exact .refl s

theorem linesKept_takeHoldoverExpiry (i : SlotNo) : s.LinesKept (takeHoldoverExpiry i s) := by
  unfold takeHoldoverExpiry
  split
  · exact .refl s
  split
  · exact .refl s
  split
  · exact linesKept_enterStale _
  · exact .refl s

theorem linesKept_selectSource (h : Handle) (r : Role) : s.LinesKept (selectSource h r s) := by
  unfold selectSource
  split
  · exact .hold (.refl s) _ _
  split
  · exact .hold (.refl s) _ _
  split
  · exact .hold (.refl s) _ _
  · refine .hold (.notify (.updClock (.refl s) _ ?_) _ _) _ _
    exact fun _ => rfl

theorem linesKept_bindTag (input : Byte) (tag : StreamTag) (h : Handle) (role : Role) :
    s.LinesKept (bindTag input tag h role s) := by
  unfold bindTag
  split
  · exact .hold (.refl s) _ _
  · refine .hold (.updClock (linesKept_of_slots rfl) _ ?_) _ _
    exact fun _ => rfl

theorem linesKept_unbindTag (input : Byte) (tag : StreamTag) : s.LinesKept (unbindTag input tag s) := by
  unfold unbindTag
  split
  · exact .hold (.refl s) _ _
  split
  · exact .hold (.refl s) _ _
  · refine .hold ?_ _ _
    unfold removeBinding
    dsimp only
    split
    · refine .notify (.updClock (linesKept_of_slots rfl) _ ?_) _ _
      exact fun _ => rfl
    · exact linesKept_of_slots rfl

/-! ## Leases, retargets and splices -/

theorem linesKept_takeLease (n : PortNo) (tag : Byte) (h : Handle) : s.LinesKept (takeLease n tag h s) := by
  unfold takeLease
  split
  · exact .respond (.refl s) _ _ _ _
  split
  · exact .respond (.refl s) _ _ _ _
  split
  · exact .respond (.refl s) _ _ _ _
  · exact .respond (.updPort (.updRecord (linesKept_of_slots rfl) _ (Record.line_updLeaseCount _)) _ _) _ _ _ _

theorem linesKept_takeRelease (n : PortNo) (tag number : Byte) : s.LinesKept (takeRelease n tag number s) := by
  unfold takeRelease
  split
  · exact .respond (.refl s) _ _ _ _
  · exact .respond (.updPort (givenUp_giveUpLease _ _).linesKept _ _) _ _ _ _

theorem linesKept_moveAlias (h : Handle) (a : AliasRecord) (n : Handle) : s.LinesKept (moveAlias h a n s) :=
  .lowerAliasCount (.updAlias (.raiseAliasCount (.refl s) _) _ _) _

theorem linesKept_armSplice (o : Origin) (h n : Handle) (d : LocalTime) : s.LinesKept (armSplice o h n d s) := by
  have armed : s.LinesKept (s.arm d (.splice o h n)) := linesKept_of_slots rfl
  exact .updAlias (.raiseAliasCount armed _) _ _

theorem linesKept_withdrawSplice (h : Handle) (e : DeadlineEntry) (o : Origin) (n : Handle) :
    s.LinesKept (withdrawSplice h e o n s) := .tellSplice (.dropSplice (.refl s) _ _ _) _ _ _

theorem linesKept_takeRetarget (n : PortNo) (tag : Byte) (h k : Handle) : s.LinesKept (takeRetarget n tag h k s) := by
  unfold takeRetarget
  split
  · exact .respond (.refl s) _ _ _ _
  split
  · exact .respond (.refl s) _ _ _ _
  · exact .respond (linesKept_moveAlias _ _ _) _ _ _ _

theorem linesKept_mgmtRetarget (h k : Handle) : s.LinesKept (mgmtRetarget h k s) := by
  unfold mgmtRetarget
  split
  · exact .hold (.refl s) _ _
  split
  · exact .hold (.refl s) _ _
  · exact .hold (linesKept_moveAlias _ _ _) _ _

theorem linesKept_takeSplice (n : PortNo) (tag : Byte) (h k : Handle) (d : LocalTime) :
    s.LinesKept (takeSplice n tag h k d s) := by
  unfold takeSplice
  split
  · exact .respond (.refl s) _ _ _ _
  split
  · exact .respond (.refl s) _ _ _ _
  split
  · exact .push (linesKept_moveAlias _ _ _) _ _
  split
  · exact .respond (.refl s) _ _ _ _
  · exact linesKept_armSplice _ _ _ _

theorem linesKept_mgmtSplice (h k : Handle) (d : LocalTime) : s.LinesKept (mgmtSplice h k d s) := by
  unfold mgmtSplice
  split
  · exact .hold (.refl s) _ _
  split
  · exact .hold (.refl s) _ _
  split
  · exact .hold (linesKept_moveAlias _ _ _) _ _
  split
  · exact .hold (.refl s) _ _
  · exact .hold (linesKept_armSplice _ _ _ _) _ _

theorem linesKept_takeUnsplice (n : PortNo) (tag : Byte) (h : Handle) : s.LinesKept (takeUnsplice n tag h s) := by
  unfold takeUnsplice
  split
  · exact .respond (.refl s) _ _ _ _
  split
  · exact .respond (.refl s) _ _ _ _
  · exact .respond (linesKept_withdrawSplice _ _ _ _) _ _ _ _

theorem linesKept_mgmtUnsplice (h : Handle) : s.LinesKept (mgmtUnsplice h s) := by
  unfold mgmtUnsplice
  split
  · exact .hold (.refl s) _ _
  split
  · exact .hold (.refl s) _ _
  · exact .hold (linesKept_withdrawSplice _ _ _ _) _ _

/-! ## The Table Controller and the management port -/

theorem linesKept_createAlias (h : Handle) : s.LinesKept (createAlias h s) := by
  unfold createAlias
  split
  · exact .hold (.refl s) _ _
  split
  · exact .hold (.refl s) _ _
  split
  · exact .hold (.refl s) _ _
  · exact .hold (.putSlot (.raiseAliasCount (.refl s) _) rfl) _ _

theorem linesKept_configure (h : Handle) (cs : List Change) : s.LinesKept (configure h cs s) := by
  unfold configure
  split
  · exact .hold (.refl s) _ _
  split
  · exact .hold (.refl s) _ _
  · exact .hold (.updRecord (.refl s) _ fun r => r.line_configured cs) _ _

theorem linesKept_enable (h : Handle) : s.LinesKept (enable h s) := by
  unfold enable
  split
  · exact .hold (.refl s) _ _
  next ph r check =>
    have held := (State.current_eq_some.1 (checkHandle_pass.1 check)).2.2.2
    split
    · exact .hold (linesKept_putSlot (Slot.lineKept_active held (r.line_enabled s.lt) .live _)) _ _
    · exact .hold (.refl s) _ _
    · exact .hold (.refl s) _ _

theorem linesKept_detach (h : Handle) (r : Record) : s.LinesKept (detach h r s) := by
  have unbound (l : List Binding) : s.LinesKept { s with bindings := l } := linesKept_of_slots rfl
  unfold detach
  split
  · refine .endWakes (.updClock (unbound _) _ ?_) _ _
    exact fun _ => rfl
  · split
    · exact .refl s
    · exact .tellSplice (.dropSplice (.refl s) _ _ _) _ _ _

theorem linesKept_retire (h : Handle) (mode : RetireMode) : s.LinesKept (retire h mode s) := by
  unfold retire
  split
  · exact .hold (.refl s) _ _
  next ph r _ =>
    split
    · exact .hold (.refl s) _ _
    · have detached : s.LinesKept (if ph.isDraining then s else detach h r s) := by
        split
        · exact .refl s
        · exact linesKept_detach h r
      refine .hold ?_ _ _
      rw [retireRecord_eq rfl]
      split
      · exact .enterRetired detached _
      split
      · exact .enterRetired (.revokeAll detached _) _
      · exact .setPhase detached _ _

theorem linesKept_takeDrainExpiry (i : SlotNo) : s.LinesKept (takeDrainExpiry i s) := by
  unfold takeDrainExpiry
  split
  · split
    · exact .enterRetired (.revokeAll (.refl s) _) _
    · exact .refl s
  all_goals exact .refl s

theorem linesKept_portReset (b : Byte) : s.LinesKept (portReset b s) := by
  unfold portReset
  split
  · exact .hold (.refl s) _ _
  · exact .hold (.updPort (givenUp_portReset _).linesKept _ _) _ _

theorem linesKept_nextNotice : s.LinesKept (nextNotice s) := by
  unfold nextNotice
  split
  · exact linesKept_of_slots rfl
  split
  · exact .hold (linesKept_putSlot (Slot.lineKept_collected _ _)) _ _
  · exact .hold (.refl s) _ _

theorem linesKept_purgeAll : s.LinesKept (purgeAll s) := fun i => by
  rw [slot_purgeAll]
  exact .of_none rfl

/-! ## Every command -/

/-- A management request other than SET-ANCHOR and CREATE-CLOCK gives no slot a line. -/
theorem linesKept_carryOut {q : MgmtRequest} (anchor : q.command ≠ .setAnchor) (create : q.command ≠ .createClock) :
    s.LinesKept (carryOut s q) := by
  cases q with
  | createClock => exact absurd rfl create
  | createAlias h => exact linesKept_createAlias h
  | configure h cs => exact linesKept_configure h cs
  | enable h => exact linesKept_enable h
  | retire h mode => exact linesKept_retire h mode
  | readRecord n =>
    change s.LinesKept (readRecord n s)
    unfold readRecord
    split <;> exact linesKept_of_slots rfl
  | bind i g h r => exact linesKept_bindTag i g h r
  | unbind i g => exact linesKept_unbindTag i g
  | setInputOffset i o =>
    change s.LinesKept (setInputOffset i o s)
    unfold setInputOffset
    (repeat' split) <;> exact linesKept_of_slots rfl
  | setAnchor h v r => exact absurd rfl anchor
  | selectSource h r => exact linesKept_selectSource h r
  | setPortLevel b l =>
    change s.LinesKept (setPortLevel b l s)
    unfold setPortLevel
    (repeat' split) <;> exact linesKept_of_slots rfl
  | portReset b => exact linesKept_portReset b
  | readPort b =>
    change s.LinesKept (readPort b s)
    unfold readPort
    split <;> exact linesKept_of_slots rfl
  | retarget h k => exact linesKept_mgmtRetarget h k
  | splice h k d => exact linesKept_mgmtSplice h k d
  | unsplice h => exact linesKept_mgmtUnsplice h
  | readIdentity | readTime | setMask => exact linesKept_of_slots rfl
  | nextNotice => exact linesKept_nextNotice
  | purge => exact .hold linesKept_purgeAll _ _

/-- The evaluation of a granted request gives no slot a line. -/
theorem linesKept_evaluate (n : PortNo) (tag : Byte) (q : PortRequest) : s.LinesKept (evaluate s n tag q) := by
  have served : s.LinesKept (s.serve n) := linesKept_of_slots rfl
  cases q with
  | convert | invert | status | due => exact .respond served _ _ _ _
  | wake h p => exact served.trans (linesKept_answerWake n tag h p _)
  | lease h => exact served.trans (linesKept_takeLease n tag h)
  | release number => exact served.trans (linesKept_takeRelease n tag number)
  | cancel wanted => exact served.trans (linesKept_cancelTag n tag wanted)
  | retarget h k => exact served.trans (linesKept_takeRetarget n tag h k)
  | splice h k d => exact served.trans (linesKept_takeSplice n tag h k d)
  | unsplice h => exact served.trans (linesKept_takeUnsplice n tag h)

theorem linesKept_of_taken {s' : State} (kept : s.LinesKept s') (e : taken s s' = .next t) : s.LinesKept t := by
  unfold taken at e
  split at e <;> cases e
  · exact .refl s
  · exact kept

/-- No command but SAMPLE_TAKE, SET_ANCHOR and CREATE_CLOCK gives a slot a line it did not have. -/
theorem linesKept_exec (e : exec cmd s = .next t) (sample : cmd ≠ .sampleTake) (anchor : cmd ≠ .setAnchor)
    (create : cmd ≠ .createClock) : s.LinesKept t := by
  have owner (code : MgmtCode) (mem : (cmd, code) ∈ ownerEvents) : s.LinesKept t := by
    obtain rfl | ⟨q, -, own, rfl⟩ := exec_owner_command mem e
    · exact .refl t
    · exact linesKept_carryOut (own ▸ anchor) (own ▸ create)
  have evaluation (code : PortCode) (mem : (cmd, code) ∈ evaluations) : s.LinesKept t := by
    obtain rfl | ⟨n, tag, q, -, rfl⟩ := exec_evaluation mem e
    · exact .refl t
    · exact linesKept_evaluate n tag q
  have quiet {s' : State} (q : Quiet s s') (e : taken s s' = .next t) : s.LinesKept t :=
    linesKept_of_taken (linesKept_of_slots q.table.slots) e
  have port {n : PortNo} {f : Port → Port} (e : taken s (s.updPort n f) = .next t) : s.LinesKept t :=
    linesKept_of_taken (.updPort (.refl s) n f) e
  have mgmt {m : MgmtPort} (e : taken s (s.putMgmt m) = .next t) : s.LinesKept t :=
    linesKept_of_taken (s' := s.putMgmt m) (linesKept_of_slots rfl) e
  cases cmd with
  | lclkTick => exact linesKept_of_taken (s' := { s with lt := s.lt + 1 }) (linesKept_of_slots rfl) e
  | hardReset =>
    cases e
    exact fun i => .of_none (Slot.line_free ((cleared_hardReset s).slot i).1)
  | resetRelease a b m =>
    cases e
    split
    · exact linesKept_of_slots (slots_releaseReset a b m)
    · exact .refl s
  | frameStart n => exact quiet (startFrame_quiet n) e
  | receiverUnblock n => exact quiet (unblockReceiver_quiet n) e
  | frameEnd n => exact quiet (endFrame_quiet n) e
  | inputBitSampled n b => exact quiet (sampleInputBit_quiet n b) e
  | sampleTake => exact absurd rfl sample
  | silenceExpiry i => exact linesKept_of_taken (linesKept_takeSilenceExpiry i) e
  | holdoverExpiry i => exact linesKept_of_taken (linesKept_takeHoldoverExpiry i) e
  | updateNotice i => exact linesKept_of_taken (linesKept_takeUpdateNotice i) e
  | wakeExpiry => exact linesKept_of_taken linesKept_takeWakeExpiry e
  | spliceExpiry => exact linesKept_of_taken linesKept_takeSpliceExpiry e
  | drainExpiry i => exact linesKept_of_taken (linesKept_takeDrainExpiry i) e
  | querySelect | queryFetchSelect | queryBitSampled | queryRequestEnd | queryFetchEnd | queryPortUnblock => exact port e
  | mgmtSelect => exact quiet selectMgmt_quiet e
  | mgmtBitSampled | mgmtFetchSelect | mgmtRequestEnd | mgmtFetchEnd | mgmtPortUnblock => exact mgmt e
  | convert => exact evaluation .convert (by decide)
  | invert => exact evaluation .invert (by decide)
  | status => exact evaluation .status (by decide)
  | due => exact evaluation .due (by decide)
  | wake => exact evaluation .wake (by decide)
  | lease => exact evaluation .lease (by decide)
  | release => exact evaluation .release (by decide)
  | cancel => exact evaluation .cancel (by decide)
  | retarget => exact evaluation .retarget (by decide)
  | splice => exact evaluation .splice (by decide)
  | unsplice => exact evaluation .unsplice (by decide)
  | createClock => exact absurd rfl create
  | createAlias => exact owner .createAlias (by decide)
  | configure => exact owner .configure (by decide)
  | enable => exact owner .enable (by decide)
  | retire => exact owner .retire (by decide)
  | readRecord => exact owner .readRecord (by decide)
  | bind => exact owner .bind (by decide)
  | unbind => exact owner .unbind (by decide)
  | setInputOffset => exact owner .setInputOffset (by decide)
  | setAnchor => exact absurd rfl anchor
  | selectSource => exact owner .selectSource (by decide)
  | setPortLevel => exact owner .setPortLevel (by decide)
  | portReset => exact owner .portReset (by decide)
  | readPort => exact owner .readPort (by decide)
  | mgmtRetarget => exact owner .retarget (by decide)
  | mgmtSplice => exact owner .splice (by decide)
  | mgmtUnsplice => exact owner .unsplice (by decide)
  | readIdentity => exact owner .readIdentity (by decide)
  | readTime => exact owner .readTime (by decide)
  | setMask => exact owner .setMask (by decide)
  | nextNotice => exact owner .nextNotice (by decide)
  | purge => exact owner .purge (by decide)

/-- A creation writes a slot that held no record (R23). -/
theorem slot_createClock_of_record {i : SlotNo} {ph : Phase} {r : Record} (held : (s.slot i).content = .active ph r) :
    (createClock s).slot i = s.slot i := by
  unfold createClock
  split
  · rfl
  next j free =>
    have other : j ≠ i := by
      rintro rfl
      have empty := (freeSlot_eq_some free).2
      rw [held] at empty
      cases empty
    exact (State.slot_putSlot s j i _).trans (if_neg other)

/-- A CLOCK that is current before and after any other command has the line it had. -/
theorem line_exec {h : Handle} {ph ph' : Phase} {c c' : ClockRecord} (e : exec cmd s = .next t)
    (sample : cmd ≠ .sampleTake) (anchor : cmd ≠ .setAnchor) (cur : s.current h = some (ph, .ofClock c))
    (cur' : t.current h = some (ph', .ofClock c')) : c'.line = c.line := by
  have before := line_of_current cur
  have after := line_of_current cur'
  have kept : (s.slot h.slot).line = some c'.line := by
    by_cases create : cmd = .createClock
    · subst create
      obtain rfl | ⟨q, -, own, rfl⟩ := exec_owner_command (x := (.createClock, .createClock)) (by decide) e
      · exact after
      · cases q with
        | createClock =>
          have held := (State.current_eq_some.1 cur).2.2.2
          exact slot_createClock_of_record held ▸ after
        | _ => cases own
    · exact linesKept_exec e sample anchor create _ _ after
  exact Option.some.inj (kept.symm.trans before)

/-- Settles O11: R126's bounds are those of the trim's correction, and every other command keeps the lines. -/
theorem projectionAdvancesOnOneLine : Obligations.ProjectionAdvancesOnOneLine := by
  refine ⟨fun a r t1 t2 p1 p2 k lo hi h1 h2 ticks later => ?_, fun c s t h ph ph' x x' e cur cur' moved => ?_⟩
  · subst ticks
    exact rvDiff_bounds_of_projections lo hi h1 h2 later
  · by_contra other
    obtain ⟨sample, anchor⟩ := not_or.1 other
    obtain ⟨same_anchor, same_trim⟩ := Prod.ext_iff.1 (line_exec e sample anchor cur cur')
    exact moved.elim (· same_anchor) (· same_trim)

end Sys2Proof.Machine
end

section
/-! SUPPORT. The Deadline Unit's events on the tables: wakes that end with their clock (R150), and the expiry of the head of the
Deadline List (R142 to R145). -/

namespace Sys2Proof.Machine

variable {s : State} {h : Handle} {n : PortNo} {ph : Phase} {c : ClockRecord}

/-! ## Wakes that end with their clock (R150) -/

/-- The wakes bound to a handle end, whatever the handle names: list and response queues, then the record (R150). -/
theorem endWakes_eq_updClock (h : Handle) (x : Ending) : s.endWakes h x =
    ((s.putDeadlines (s.deadlines.filter fun e => !e.isWakeOf h)).append fun n => s.endedOn n h x).updClock h fun c =>
      { c with wakeCount := 0, updatePending := false } := by
  unfold State.endWakes
  dsimp only
  rw [foldl_append (g := fun e => e.ended s.lt x) fun t e q => by rw [endWake_eq_append, q]]
  simp only [flatMap_ended]
  rfl

/-- A record written without a notice is the slot's content alone. -/
theorem State.slot_withRecord_quiet (i : SlotNo) (ph : Phase) (r : Record) :
    (s.withRecord i ph r 0).slot i = { s.slot i with content := .active ph r } := by
  simp

/-- Settles O22: the completions are appended, and the record is the one slot written. -/
theorem wakesEndedByTheirClock : Obligations.WakesEndedByTheirClock := by
  intro s h x
  dsimp only
  refine ⟨?_, fun n => ?_, fun ph c cur => ?_, fun i other => ?_⟩
  · rw [endWakes_eq_updClock, slotsOnly_updClock]
    rfl
  · rw [endWakes_eq_updClock, State.SlotsOnly.port (slotsOnly_updClock _ _), State.port_append]
    rfl
  · rw [endWakes_eq x cur]
    exact State.slot_withRecord_quiet h.slot ph _
  · rw [endWakes_eq_updClock, State.slot_updClock_other _ other]
    rfl

/-! ## The head of the list (R142) -/

/-- A completed WAKE of a current CLOCK: the wake count falls, and the completion joins its port's queue (R22, R108). -/
theorem push_lowerWakeCount (cur : s.current h = some (ph, .ofClock c)) (n : PortNo) (x : ResponseEntry) :
    (s.push n x).lowerWakeCount h =
      (s.withRecord h.slot ph (.ofClock { c with wakeCount := c.wakeCount - 1 }) 0).push n x :=
  State.updClock_of_current (s := s.push n x) _ cur

theorem exec_wakeExpiry {e : DeadlineEntry} {rest : List DeadlineEntry} {tag : Byte} {named b : Handle} {p : RefValue}
    (high : s.rstLow = false) (list : s.deadlines = e :: rest) (work : e.work = .wake n tag named b p)
    (due : 0 ≤ timeDiff e.due s.lt) : exec .wakeExpiry s = .next (fireWake e n tag b p (s.putDeadlines rest)) := by
  refine (taken_high high).trans (congrArg _ ?_)
  unfold takeWakeExpiry
  simp only [list, work, (reached_iff _ _).2 due, if_true]
  rfl

theorem exec_spliceExpiry {e : DeadlineEntry} {rest : List DeadlineEntry} {o : Origin} {k : Handle}
    (high : s.rstLow = false) (list : s.deadlines = e :: rest) (work : e.work = .splice o h k)
    (due : 0 ≤ timeDiff e.due s.lt) : exec .spliceExpiry s = .next (executeSplice e o h k (s.putDeadlines rest)) := by
  refine (taken_high high).trans (congrArg _ ?_)
  unfold takeSpliceExpiry
  simp only [list, work, (reached_iff _ _).2 due, if_true]
  rfl

/-- A wake fired where its clock gives no lead (R143). -/
theorem fireWake_of_no_lead {e : DeadlineEntry} {tag : Byte} {p : RefValue} (cur : s.current h = some (ph, .ofClock c))
    (lead : c.lead p s.lt = none) : fireWake e n tag h p s =
      (s.withRecord h.slot ph (.ofClock { c with wakeCount := c.wakeCount - 1 }) 0).push n
        (.wakeDone tag .noTimebase (endedWakeBody s.lt h p e.due)) := by
  unfold fireWake
  simp only [State.clock_of_current cur, lead]
  exact push_lowerWakeCount cur n _

/-- A wake fired at a lead (R143). -/
theorem fireWake_of_lead {e : DeadlineEntry} {tag : Byte} {p : RefValue} {l : Int} (cur : s.current h = some (ph, .ofClock c))
    (lead : c.lead p s.lt = some l) : fireWake e n tag h p s =
      (s.withRecord h.slot ph (.ofClock { c with wakeCount := c.wakeCount - 1 }) 0).push n
        (.wakeDone tag (wakeEnding c.cfg.lateTolerance l) (firedWakeBody s.lt h c p l e.due)) := by
  unfold fireWake
  simp only [State.clock_of_current cur, lead]
  exact push_lowerWakeCount cur n _

/-- Settles O23: the head fires by its clock's lead at now. -/
theorem wakeFires : Obligations.WakeFires := by
  intro s e rest n tag named b p ph c high list work due cur
  have fired := exec_wakeExpiry high list work due
  have cur' : (s.putDeadlines rest).current b = some (ph, .ofClock c) := cur
  exact ⟨fun lead => fired.trans (congrArg _ (fireWake_of_no_lead cur' lead)),
    fun l lead => fired.trans (congrArg _ (fireWake_of_lead cur' lead))⟩

/-- An ALIAS moves to its new target, which lowers the count of the old target: two records in different slots (R144). -/
theorem updAlias_lowerAliasCount {a : AliasRecord} {pc : Phase} (k : Handle) (cur : s.current h = some (ph, .ofAlias a))
    (target : s.current a.target = some (pc, .ofClock c)) :
    (s.updAlias h fun a => { a with target := k, pendingSplice := none }).lowerAliasCount a.target =
      (s.withRecord h.slot ph (.ofAlias { a with target := k, pendingSplice := none }) 0).withRecord a.target.slot pc
        (.ofClock { c with aliasCount := c.aliasCount - 1 }) 0 := by
  have apart : h.slot ≠ a.target.slot := State.current_slot_ne cur target nofun
  rw [State.updAlias_of_current _ cur]
  exact State.updClock_of_current _ ((State.current_withRecord_other apart _ _ _).trans target)

/-- Settles O24: the ALIAS moves, and its origin is told. -/
theorem spliceExecutes : Obligations.SpliceExecutes := by
  intro s e rest o h k ph pc a c high list work due cur target
  have cur' : (s.putDeadlines rest).current h = some (ph, .ofAlias a) := cur
  have executed := exec_spliceExpiry high list work due
  have moved := updAlias_lowerAliasCount k cur' target
  refine ⟨fun n tag port => ?_, fun mgmt => ?_⟩
  · subst port
    rw [executed]
    unfold executeSplice
    simp only [cur', moved]
    rfl
  · subst mgmt
    have apart : h.slot ≠ a.target.slot := State.current_slot_ne cur target nofun
    rw [executed]
    unfold executeSplice
    simp only [cur', moved]
    rw [State.withRecord_comm _ _ _ _ _ _ apart, State.withRecord_notify, State.withRecord_comm _ _ _ _ _ _ apart.symm]
    rfl

end Sys2Proof.Machine
end

section
/-! SUPPORT. The Deadline Unit's port requests: WAKE by its tests in their order (R139 to R141), and CANCEL by the entry it finds
(R148). -/

namespace Sys2Proof.Machine

variable {s : State} {n : PortNo} {tag wanted : Byte} {h : Handle} {ph : Phase} {c : ClockRecord} {p : RefValue}

/-! ## WAKE (R140) -/

section
variable {r : Resolved} {now : LocalTime} {full : Bool} {l : Int}

theorem judgeWake_of_timeless (lost : r.clock.lock = .unset ∨ r.clock.lock = .stale) :
    judgeWake r now full p = .refuse .noTimebase r.eff := by
  refine if_pos ?_
  obtain lock | lock := lost <;> rw [lock] <;> rfl

theorem judgeWake_of_no_lead (lock : r.clock.lock.timeless = false) (lead : r.clock.lead p now = none) :
    judgeWake r now full p = .refuse .outOfRange r.eff := by
  simp [judgeWake, lock, lead]

theorem judgeWake_early (lock : r.clock.lock.timeless = false) (lead : r.clock.lead p now = some l)
    (early : (r.clock.cfg.farEarly : Int) < l) : judgeWake r now full p = .refuse .tooEarly r.eff := by
  simp [judgeWake, lock, lead, early]

theorem judgeWake_reached (lock : r.clock.lock.timeless = false) (lead : r.clock.lead p now = some l)
    (near : l ≤ (r.clock.cfg.farEarly : Int)) (past : l ≤ 0) : judgeWake r now full p =
      .answer (wakeEnding r.clock.cfg.lateTolerance l)
        { clock := r.eff, now, quality := some { lock := r.clock.lock, draining := false }, p := some p
          lead := some l, due := none, lateness := none } := by
  simp [judgeWake, lock, lead, not_lt.2 near, past]

/-- A wake in the future is armed at the inverse of its program time, if the line has one there and the list has room. -/
theorem judgeWake_ahead (lock : r.clock.lock.timeless = false) (lead : r.clock.lead p now = some l)
    (near : l ≤ (r.clock.cfg.farEarly : Int)) (ahead : 0 < l) : judgeWake r now full p =
      match r.clock.inverse p with
      | none => .refuse .outOfRange r.eff
      | some d => if full then .refuse .listFull r.named else .arm r.eff d := by
  simp only [judgeWake, lock, lead, if_neg (not_lt.2 near), if_neg (not_le.2 ahead)]
  rfl

end

/-- A granted WAKE is answered as its resolution and its tests decide. -/
theorem exec_wake {d : WakeDecision} (grants : s.grants n tag (.wake h p)) (decided : decideWake s n h p = d) :
    exec .wake s = .next (answerWake n tag h p d (s.serve n)) :=
  exec_grants grants (by rw [← decided]; rfl)

theorem decideWake_of_fail {st : Status} {f : Handle} (e : resolve s (s.port n).level .wake true h = .fail st f) :
    decideWake s n h p = .refuse st f := by
  unfold decideWake
  rw [e]

theorem decideWake_of_pass {r : Resolved} (e : resolve s (s.port n).level .wake true h = .pass r) :
    decideWake s n h p = judgeWake r s.lt s.listFull p := by
  unfold decideWake
  rw [e]

/-- A wake is armed on a current CLOCK (R141). -/
theorem answerWake_arm (cur : s.current h = some (ph, .ofClock c)) (named : Handle) (d : LocalTime) :
    answerWake n tag named p (.arm h d) s =
      { s.withRecord h.slot ph (.ofClock { c with wakeCount := c.wakeCount + 1 }) 0 with
        deadlines := insertEntry s.lt { due := d, order := s.nextOrder, work := .wake n tag named h p } s.deadlines
        nextOrder := s.nextOrder + 1 } :=
  State.updClock_of_current (s := s.arm d (.wake n tag named h p)) _ cur

theorem listFull_iff : s.listFull = true ↔ 48 ≤ s.deadlines.length := decide_eq_true_iff

/-- Settles O27: test by test, in the order of R140. -/
theorem wakeRequest : Obligations.WakeRequest := by
  intro s n tag h p grants
  refine ⟨fun st f e => exec_wake grants (decideWake_of_fail e), fun r ph e cur => ?_⟩
  have decided {d : WakeDecision} (judged : judgeWake r s.lt s.listFull p = d) :
      exec .wake s = .next (answerWake n tag h p d (s.serve n)) := exec_wake grants ((decideWake_of_pass e).trans judged)
  refine ⟨fun lost => decided (judgeWake_of_timeless lost), fun set fresh => ?_⟩
  have lock : r.clock.lock.timeless = false := by
    cases lock : r.clock.lock with
    | unset => exact absurd lock set
    | stale => exact absurd lock fresh
    | acquiring | locked | holdover => rfl
  refine ⟨fun lead => decided (judgeWake_of_no_lead lock lead), fun l lead =>
    ⟨fun early => decided (judgeWake_early lock lead early), fun near past => decided (judgeWake_reached lock lead near past),
      fun near ahead => ?_⟩⟩
  have judged := judgeWake_ahead (full := s.listFull) lock lead near ahead
  refine ⟨fun inverse => decided (d := .refuse .outOfRange r.eff) (by rw [judged, inverse]),
    fun d inverse => ⟨fun full => ?_, fun room => ?_⟩⟩
  · obtain ⟨-, -, named, -⟩ := resolve_pass e
    refine decided (d := .refuse .listFull h) ?_
    rw [judged, inverse, listFull_iff.2 full, named]
    rfl
  · have notFull : s.listFull = false := by
      rw [Bool.eq_false_iff, Ne, listFull_iff]
      exact Nat.not_le.2 room
    have armed : judgeWake r s.lt s.listFull p = .arm r.eff d := by
      rw [judged, inverse, notFull]
      rfl
    exact (decided armed).trans (congrArg _ (answerWake_arm (s := s.serve n) cur h d))

/-! ## CANCEL (R148) -/

/-- The entry armed before every other of a list is its earliest-armed. -/
theorem earliestArmed_eq_some {l : List DeadlineEntry} {e : DeadlineEntry} (mem : e ∈ l)
    (first : ∀ x ∈ l, x ≠ e → e.order < x.order) : earliestArmed l = some e := by
  induction l with
  | nil => cases mem
  | cons x l ih =>
    have later := fun y mem => first y (List.mem_cons_of_mem x mem)
    unfold earliestArmed
    by_cases rest : e ∈ l
    · rw [ih rest later]
      by_cases same : x = e
      · rw [same]
        simp
      · simp [first x List.mem_cons_self same]
    · obtain rfl := (List.mem_cons.1 mem).resolve_right rest
      split
      · rfl
      next m found =>
        have m_mem := earliestArmed_mem found
        have after : e.order < m.order := later m m_mem (fun q => rest (q ▸ m_mem))
        rw [if_neg (Nat.not_lt.2 after.le)]

/-- A CANCEL that finds no entry (R148). -/
theorem cancelTag_of_none {own : Byte} (none : ∀ e ∈ s.deadlines, e.hasTag n wanted = false) :
    cancelTag n own wanted s = s.respond n .cancel own (.refused .notFound Handle.null) := by
  have empty : s.deadlines.filter (DeadlineEntry.hasTag n wanted) = [] :=
    List.filter_eq_nil_iff.2 fun e mem => by simp [none e mem]
  unfold cancelTag
  rw [empty]
  rfl

/-- A CANCEL ends the first armed of the entries with its tag (R148). -/
theorem cancelTag_of_first {own : Byte} {e : DeadlineEntry} (mem : e ∈ s.deadlines) (tagged : e.hasTag n wanted = true)
    (first : ∀ x ∈ s.deadlines, x.hasTag n wanted = true → x ≠ e → e.order < x.order) : cancelTag n own wanted s =
      (cancelEntry e n s).respond n .cancel own (.ok (.cancel e.kind e.due)) := by
  have found : earliestArmed (s.deadlines.filter (DeadlineEntry.hasTag n wanted)) = some e :=
    earliestArmed_eq_some (List.mem_filter.2 ⟨mem, tagged⟩) fun x m =>
      first x (List.mem_filter.1 m).1 (List.mem_filter.1 m).2
  unfold cancelTag
  rw [found]

theorem cancelEntry_wake {e : DeadlineEntry} {named : Handle} (work : e.work = .wake n tag named h p)
    (cur : s.current h = some (ph, .ofClock c)) : cancelEntry e n s =
      ((s.putDeadlines (s.deadlines.erase e)).withRecord h.slot ph (.ofClock { c with wakeCount := c.wakeCount - 1 }) 0).push n
        (.wakeDone tag .cancelled
          { clock := named, now := s.lt, quality := none, p := none, lead := none, due := some e.due, lateness := none }) := by
  unfold cancelEntry
  simp only [work]
  exact push_lowerWakeCount (s := s.putDeadlines (s.deadlines.erase e)) cur n _

/-- A SPLICE entry leaves the list without executing: its new target's record and its ALIAS record (R151). -/
theorem dropSplice_of_current {e : DeadlineEntry} {k : Handle} {a : AliasRecord} {pk : Phase}
    (cur : s.current h = some (ph, .ofAlias a)) (target : s.current k = some (pk, .ofClock c)) : s.dropSplice e h k =
      ((s.putDeadlines (s.deadlines.erase e)).withRecord k.slot pk (.ofClock { c with aliasCount := c.aliasCount - 1 })
        0).withRecord h.slot ph (.ofAlias { a with pendingSplice := none }) 0 := by
  have apart : k.slot ≠ h.slot := State.current_slot_ne target cur nofun
  have lowered : (s.putDeadlines (s.deadlines.erase e)).lowerAliasCount k = _ := State.updClock_of_current _ target
  unfold State.dropSplice
  refine (congrArg (fun u : State => u.updAlias h _) lowered).trans ?_
  exact State.updAlias_of_current _ ((State.current_withRecord_other apart _ _ _).trans cur)

theorem cancelEntry_splice {e : DeadlineEntry} {k : Handle} {a : AliasRecord} {pk : Phase}
    (work : e.work = .splice (.port n tag) h k) (cur : s.current h = some (ph, .ofAlias a))
    (target : s.current k = some (pk, .ofClock c)) : cancelEntry e n s =
      (((s.putDeadlines (s.deadlines.erase e)).withRecord k.slot pk (.ofClock { c with aliasCount := c.aliasCount - 1 })
        0).withRecord h.slot ph (.ofAlias { a with pendingSplice := none }) 0).push n
        (.spliceDone tag .cancelled
          { aliasHandle := h, oldTarget := none, newTarget := k, now := s.lt, due := some e.due }) := by
  unfold cancelEntry
  simp only [work]
  rw [dropSplice_of_current cur target]
  rfl

/-- Settles O28: by whether the port has an entry with the tag, and by the kind of the one armed first. -/
theorem cancelRequest : Obligations.CancelRequest := by
  intro s n tag wanted grants
  have served {t : State} (e : cancelTag n tag wanted (s.serve n) = t) : exec .cancel s = .next t := exec_grants grants e
  refine ⟨fun none => served (cancelTag_of_none none), fun e mem first => ⟨fun named b p ph c work cur => ?_,
    fun h k ph pk a c work cur target => ?_⟩⟩
  · have tagged : e.hasTag n wanted = true := by simp [DeadlineEntry.hasTag, work]
    have kind : e.kind = .wake := by simp [DeadlineEntry.kind, work]
    refine served ((cancelTag_of_first (s := s.serve n) mem tagged first).trans ?_)
    rw [kind, cancelEntry_wake (s := s.serve n) work cur]
    rfl
  · have tagged : e.hasTag n wanted = true := by simp [DeadlineEntry.hasTag, work]
    have kind : e.kind = .splice := by simp [DeadlineEntry.kind, work]
    refine served ((cancelTag_of_first (s := s.serve n) mem tagged first).trans ?_)
    rw [kind, cancelEntry_splice (s := s.serve n) work cur target]
    rfl

end Sys2Proof.Machine
end

section
/-! SUPPORT. UPDATE_NOTICE in closed form (R146): each wake of the record is completed or given its new due LT, its record's wake
count falls by the completed ones, and the list keeps the others. -/

namespace Sys2Proof.Machine

variable {s u : State} {h : Handle} {n : PortNo} {ph : Phase} {c x : ClockRecord} {now : LocalTime} {e : DeadlineEntry}

/-! ## One wake -/

/-- The completion of a recomputed wake for `p` bound to `b`; none for one that stays armed (R145, R146). -/
def Recomputed.completion (c : ClockRecord) (now : LocalTime) (b : Handle) (p : RefValue) :
    Recomputed → Option (Ending × WakeBody)
  | .jumped l =>
    some (.jumped, { clock := b, now, quality := none, p := some p, lead := l, due := none, lateness := none })
  | .fired l d => some (wakeEnding c.cfg.lateTolerance l, firedWakeBody now b c p l d)
  | .moved _ => none

/-- The new due LT of a recomputed wake that stays armed (R146). -/
def Recomputed.newDue : Recomputed → Option LocalTime
  | .moved d => some d
  | .jumped _ | .fired .. => none

/-- The entry's completion by a recompute, if it is a wake of port `n` that ends (R146). -/
def DeadlineEntry.told (c : ClockRecord) (now : LocalTime) (n : PortNo) (e : DeadlineEntry) : Option ResponseEntry :=
  match e.work with
  | .wake m tag _ b p =>
    if m = n then ((recompute c now p).completion c now b p).map fun x => .wakeDone tag x.1 x.2 else none
  | .splice .. => none

/-- The entry with its new due LT, if it is a wake that stays armed (R146). -/
def DeadlineEntry.moved (c : ClockRecord) (now : LocalTime) (e : DeadlineEntry) : Option DeadlineEntry :=
  match e.work with
  | .wake _ _ _ _ p => (recompute c now p).newDue.map fun d => { e with due := d }
  | .splice .. => none

/-- The Deadline List after one wake, taken from it, has been recomputed (R146). -/
def reinsert (c : ClockRecord) (now : LocalTime) (l : List DeadlineEntry) (e : DeadlineEntry) : List DeadlineEntry :=
  match e.moved c now with
  | some e' => insertEntry now e' l
  | none => l

theorem Recomputed.completion_isSome (c : ClockRecord) (now : LocalTime) (b : Handle) (p : RefValue) (r : Recomputed) :
    (r.completion c now b p).isSome = r.newDue.isNone := by
  cases r <;> rfl

/-- A wake that stays armed does so at the inverse of its program time. -/
theorem inverse_of_newDue {p : RefValue} {d : LocalTime} (stays : (recompute c now p).newDue = some d) :
    c.inverse p = some d := by
  unfold recompute at stays
  split at stays
  · cases stays
  split at stays
  · cases stays
  split at stays
  · cases stays
  next inverse =>
    split at stays <;> cases stays
    exact inverse

theorem told_of_wake {m : PortNo} {tag : Byte} {named b : Handle} {p : RefValue} (work : e.work = .wake m tag named b p)
    (n : PortNo) : e.told c now n =
      if m = n then ((recompute c now p).completion c now b p).map fun x => .wakeDone tag x.1 x.2 else none := by
  unfold DeadlineEntry.told
  rw [work]

theorem moved_of_wake {m : PortNo} {tag : Byte} {named b : Handle} {p : RefValue} (work : e.work = .wake m tag named b p) :
    e.moved c now = (recompute c now p).newDue.map fun d => { e with due := d } := by
  unfold DeadlineEntry.moved
  rw [work]

/-! ## Every wake of the record -/

/-- The record with `k` wakes fewer bound to it (R22). -/
def ClockRecord.uncount (x : ClockRecord) (k : Nat) : ClockRecord := { x with wakeCount := x.wakeCount - k }

theorem ClockRecord.uncount_uncount (x : ClockRecord) (k m : Nat) : (x.uncount k).uncount m = x.uncount (k + m) := by
  unfold ClockRecord.uncount
  rw [Nat.sub_sub]

/-- How many of a list's wakes a recompute ends (R146). -/
def endedCount (c : ClockRecord) (now : LocalTime) (hit : List DeadlineEntry) : Nat :=
  hit.countP fun e => (e.moved c now).isNone

/-- The state after wakes of the CLOCK record `x` named by `h`, taken from the list, have been recomputed on the line of `c`: the
record with its wake count, the response queues, the list (R146). -/
def State.afterRecompute (u : State) (h : Handle) (ph : Phase) (x c : ClockRecord) (hit : List DeadlineEntry) : State :=
  ((u.withRecord h.slot ph (.ofClock (x.uncount (endedCount c u.lt hit))) 0).append
    fun n => hit.filterMap (DeadlineEntry.told c u.lt n)).putDeadlines (hit.foldl (reinsert c u.lt) u.deadlines)

theorem afterRecompute_nil (cur : u.current h = some (ph, .ofClock x)) : u.afterRecompute h ph x c [] = u := by
  have same : u.withRecord h.slot ph (.ofClock (x.uncount (endedCount c u.lt []))) 0 = u := State.withRecord_self cur
  unfold State.afterRecompute
  simp only [same, List.filterMap_nil, State.append_nil]
  rfl

/-- A record and queues written twice: the later record, both additions to the queues, the later list. -/
theorem withRecord_append_twice (u : State) (h : Handle) (ph : Phase) (r r' : Record) (f f' : PortNo → List ResponseEntry)
    (l l' : List DeadlineEntry) :
    (((((u.withRecord h.slot ph r 0).append f).putDeadlines l).withRecord h.slot ph r' 0).append f').putDeadlines l' =
      ((u.withRecord h.slot ph r' 0).append fun n => f n ++ f' n).putDeadlines l' := by
  have record : (u.withRecord h.slot ph r 0).withRecord h.slot ph r' 0 = u.withRecord h.slot ph r' 0 :=
    State.withRecord_withRecord h.slot ph ph r r' 0 0
  calc _ = ((((u.withRecord h.slot ph r 0).withRecord h.slot ph r' 0).append f).append f').putDeadlines l' := rfl
    _ = _ := by rw [record, State.append_append]

/-- One recompute after another. -/
theorem afterRecompute_cons (u : State) (h : Handle) (ph : Phase) (x c : ClockRecord) (e : DeadlineEntry)
    (hit : List DeadlineEntry) :
    (u.afterRecompute h ph x c [e]).afterRecompute h ph (x.uncount (endedCount c u.lt [e])) c hit =
      u.afterRecompute h ph x c (e :: hit) := by
  have queues (n : PortNo) : [e].filterMap (DeadlineEntry.told c u.lt n) ++ hit.filterMap (DeadlineEntry.told c u.lt n) =
      (e :: hit).filterMap (DeadlineEntry.told c u.lt n) := (List.filterMap_append (l := [e])).symm
  have record : (x.uncount (endedCount c u.lt [e])).uncount (endedCount c u.lt hit) =
      x.uncount (endedCount c u.lt (e :: hit)) := by
    have sum : endedCount c u.lt (e :: hit) = endedCount c u.lt [e] + endedCount c u.lt hit := List.countP_append (l₁ := [e])
    rw [ClockRecord.uncount_uncount, sum]
  refine (withRecord_append_twice u h ph _ _ _ _ _ _).trans ?_
  exact congrArg₂ (fun r q => ((u.withRecord h.slot ph (.ofClock r) 0).append q).putDeadlines _) record (funext queues)

/-- A wake that ends is told to its port and counted; any other takes its new place and leaves record and queues alone. -/
theorem recomputeWake_eq (bound : e.isWakeOf h = true) (cur : u.current h = some (ph, .ofClock x)) :
    recomputeWake c u e = u.afterRecompute h ph x c [e] := by
  obtain ⟨m, tag, named, p, work⟩ := isWakeOf_iff.1 bound
  have completed (y : Ending × WakeBody) (r : (recompute c u.lt p).completion c u.lt h p = some y) :
      (u.push m (.wakeDone tag y.1 y.2)).lowerWakeCount h = u.afterRecompute h ph x c [e] := by
    have stays := Recomputed.completion_isSome c u.lt h p (recompute c u.lt p)
    rw [r, Option.isSome_some, eq_comm, Option.isNone_iff_eq_none] at stays
    have moved : e.moved c u.lt = none := by rw [moved_of_wake work, stays, Option.map_none]
    have count : endedCount c u.lt [e] = 1 := by simp [endedCount, moved]
    have list : [e].foldl (reinsert c u.lt) u.deadlines = u.deadlines := by simp [reinsert, moved]
    have told (n : PortNo) : [e].filterMap (DeadlineEntry.told c u.lt n) =
        if m = n then [.wakeDone tag y.1 y.2] else [] := by
      by_cases own : m = n <;> simp [told_of_wake work, r, own]
    unfold State.afterRecompute
    rw [push_lowerWakeCount cur, State.push_eq_append, funext told, count, list]
    rfl
  unfold recomputeWake
  split
  next q => cases work.symm.trans q
  next q =>
    cases work.symm.trans q
    split
    next l r => exact completed (.jumped, _) (by rw [r]; rfl)
    next l d r => exact completed (wakeEnding c.cfg.lateTolerance l, firedWakeBody u.lt h c p l d) (by rw [r]; rfl)
    next d r =>
      have moved : e.moved c u.lt = some { e with due := d } := by rw [moved_of_wake work, r]; rfl
      have count : endedCount c u.lt [e] = 0 := by simp [endedCount, moved]
      have list : [e].foldl (reinsert c u.lt) u.deadlines = insertEntry u.lt { e with due := d } u.deadlines := by
        simp [reinsert, moved]
      have told (n : PortNo) : [e].filterMap (DeadlineEntry.told c u.lt n) = [] := by
        simp [told_of_wake work, r, Recomputed.completion]
      have same : u.withRecord h.slot ph (.ofClock (x.uncount 0)) 0 = u := State.withRecord_self cur
      unfold State.afterRecompute
      rw [funext told, count, list, same, State.append_nil]
      rfl

/-- Wakes bound to a current CLOCK, taken from the list, are recomputed in list order (R146). -/
theorem foldl_recomputeWake {hit : List DeadlineEntry} (bound : ∀ e ∈ hit, e.isWakeOf h = true)
    (cur : u.current h = some (ph, .ofClock x)) : hit.foldl (recomputeWake c) u = u.afterRecompute h ph x c hit := by
  induction hit generalizing u x with
  | nil => exact (afterRecompute_nil cur).symm
  | cons e hit ih =>
    have written : (u.afterRecompute h ph x c [e]).current h = _ := State.current_withRecord_self cur ph _ 0
    rw [List.foldl_cons, recomputeWake_eq (bound e List.mem_cons_self) cur,
      ih (fun y mem => bound y (List.mem_cons_of_mem e mem)) written, afterRecompute_cons]

/-- The state after the mark of a current CLOCK has been taken (R146). -/
theorem recomputeAll_eq (cur : s.current h = some (ph, .ofClock c)) : recomputeAll h c s =
    (s.putDeadlines (s.deadlines.filter fun e => !e.isWakeOf h)).afterRecompute h ph { c with updatePending := false } c
      (s.deadlines.filter (DeadlineEntry.isWakeOf h)) := by
  have cleared : (s.putDeadlines (s.deadlines.filter fun e => !e.isWakeOf h)).updClock h
      (fun c => { c with updatePending := false }) = _ := State.updClock_of_current _ cur
  have written : ((s.putDeadlines (s.deadlines.filter fun e => !e.isWakeOf h)).withRecord h.slot ph
      (.ofClock { c with updatePending := false }) 0).current h = _ := State.current_withRecord_self cur ph _ 0
  refine (congrArg (List.foldl (recomputeWake c) · _) cleared).trans ?_
  refine (foldl_recomputeWake (fun e mem => (List.mem_filter.1 mem).2) written).trans ?_
  refine congrArg (fun u : State => (u.append _).putDeadlines _) ?_
  exact State.withRecord_withRecord (s := s.putDeadlines _) h.slot ph ph _ _ 0 0

theorem exec_updateNotice {i : SlotNo} (high : s.rstLow = false) (cur : s.current (s.handleOf i) = some (ph, .ofClock c))
    (marked : c.updatePending = true) : exec (.updateNotice i) s = .next (recomputeAll (s.handleOf i) c s) := by
  refine (taken_high high).trans (congrArg _ ?_)
  unfold takeUpdateNotice
  rw [State.clock_of_current cur]
  exact if_pos marked

/-! ## What the list keeps -/

theorem foldl_reinsert_perm (c : ClockRecord) (now : LocalTime) (hit l : List DeadlineEntry) :
    (hit.foldl (reinsert c now) l).Perm (hit.filterMap (DeadlineEntry.moved c now) ++ l) := by
  induction hit generalizing l with
  | nil => exact .refl l
  | cons e hit ih =>
    rw [List.foldl_cons, List.filterMap_cons]
    refine (ih _).trans ?_
    unfold reinsert
    cases e.moved c now with
    | none => exact .refl _
    | some e' => exact ((insertEntry_perm now e' l).append_left _).trans List.perm_middle

/-- The elements a function keeps of those with `p`, before those without `p`, are those it keeps with the others left as they
are. -/
theorem filterMap_filter_append_perm {α : Type} (p : α → Bool) (f : α → Option α) (l : List α) :
    ((l.filter p).filterMap f ++ l.filter fun x => !p x).Perm (l.filterMap fun x => if p x then f x else some x) := by
  induction l with
  | nil => exact .refl _
  | cons x l ih =>
    cases hit : p x with
    | false =>
      simp only [List.filter_cons, List.filterMap_cons, hit, Bool.not_false, if_true, Bool.false_eq_true, if_false]
      exact List.perm_middle.trans (ih.cons x)
    | true =>
      simp only [List.filter_cons, List.filterMap_cons, hit, Bool.not_true, if_true, Bool.false_eq_true, if_false]
      cases f x with
      | none => exact ih
      | some y => exact ih.cons y

/-! ## The obligation -/

/-- The obligation's words for a recomputed wake's end. -/
theorem completion_eq (c : ClockRecord) (now : LocalTime) (b : Handle) (p : RefValue) :
    (recompute c now p).completion c now b p =
      match c.lead p now with
      | none => (Recomputed.jumped none).completion c now b p
      | some l =>
        if (c.cfg.farEarly : Int) < l then (Recomputed.jumped (some l)).completion c now b p
        else
          match c.inverse p with
          | none => (Recomputed.jumped (some l)).completion c now b p
          | some d => if 0 < timeDiff now d then none else (Recomputed.fired l d).completion c now b p := by
  unfold recompute
  cases c.lead p now with
  | none => rfl
  | some l =>
    dsimp only
    by_cases far : (c.cfg.farEarly : Int) < l
    · rw [if_pos far, if_pos far]
    · rw [if_neg far, if_neg far]
      cases c.inverse p with
      | none => rfl
      | some d =>
        dsimp only
        by_cases ahead : 0 < timeDiff now d
        · rw [if_pos ahead, if_neg (not_le.2 ahead)]
          rfl
        · rw [if_neg ahead, if_pos (not_lt.1 ahead)]

/-- What a port is told of an entry, in the words of the obligation. -/
theorem told_of_bound (c : ClockRecord) (now : LocalTime) (h : Handle) (n : PortNo) (e : DeadlineEntry) :
    (if e.isWakeOf h then e.told c now n else none) =
      match e.work with
      | .wake m tag _ b p =>
        if b = h ∧ m = n then ((recompute c now p).completion c now h p).map fun x => .wakeDone tag x.1 x.2 else none
      | .splice .. => none := by
  unfold DeadlineEntry.told DeadlineEntry.isWakeOf
  cases e.work with
  | splice o k m => rfl
  | wake m tag named b p =>
    by_cases own : b = h
    · simp [own]
    · simp [own]

/-- What becomes of an entry, in the words of the obligation. -/
theorem moved_of_bound (c : ClockRecord) (now : LocalTime) (h : Handle) (e : DeadlineEntry) :
    (if e.isWakeOf h then e.moved c now else some e) =
      match e.work with
      | .wake _ _ _ b p =>
        if b = h then
          if ((recompute c now p).completion c now h p).isSome then none
          else (c.inverse p).map fun d => { e with due := d }
        else some e
      | .splice .. => some e := by
  unfold DeadlineEntry.moved DeadlineEntry.isWakeOf
  cases e.work with
  | splice o k m => rfl
  | wake m tag named b p =>
    by_cases own : b = h
    · simp only [own, beq_self_eq_true, if_true, Recomputed.completion_isSome]
      cases due : (recompute c now p).newDue with
      | none => rfl
      | some d =>
        rw [inverse_of_newDue due]
        rfl
    · simp [own]

/-- Which entries are completed, in the words of the obligation. -/
theorem ended_of_bound (c : ClockRecord) (now : LocalTime) (h : Handle) (e : DeadlineEntry) :
    ((e.moved c now).isNone && e.isWakeOf h) =
      match e.work with
      | .wake _ _ _ b p => b == h && ((recompute c now p).completion c now h p).isSome
      | .splice .. => false := by
  unfold DeadlineEntry.moved DeadlineEntry.isWakeOf
  cases e.work with
  | splice o k m => rfl
  | wake m tag named b p => simp only [Option.isNone_map, Recomputed.completion_isSome, Bool.and_comm]

/-- Settles O25: the closed form of the recompute, part by part. -/
theorem updateNotice : Obligations.UpdateNotice := by
  intro s i ph c high cur marked h jumped ends
  have ends_eq : ends = fun p => (recompute c s.lt p).completion c s.lt h p :=
    funext fun p => (completion_eq c s.lt h p).symm
  clear_value ends
  subst ends_eq
  refine ⟨_, (exec_updateNotice high cur marked).trans (congrArg _ (recomputeAll_eq cur)), rfl, fun n => ?_, ?_, ?_,
    fun j other => ?_⟩
  · have queue : (s.deadlines.filter (DeadlineEntry.isWakeOf h)).filterMap (DeadlineEntry.told c s.lt n) = _ :=
      List.filterMap_filter.trans (List.filterMap_congr fun e _ => told_of_bound c s.lt h n e)
    refine (State.port_append _ n).trans ?_
    exact congrArg (fun l => { s.port n with responses := (s.port n).responses ++ l }) queue
  · refine (foldl_reinsert_perm c s.lt _ _).trans ((filterMap_filter_append_perm _ _ _).trans (.of_eq ?_))
    exact List.filterMap_congr fun e _ => moved_of_bound c s.lt h e
  · have count : endedCount c s.lt (s.deadlines.filter (DeadlineEntry.isWakeOf h)) = _ :=
      List.countP_filter.trans (congrArg (List.countP · s.deadlines) (funext fun e => ended_of_bound c s.lt h e))
    refine (State.slot_withRecord_quiet i ph _).trans ?_
    exact congrArg (fun k => { s.slot i with
      content := .active ph (.ofClock ({ c with updatePending := false }.uncount k)) }) count
  · exact (State.slot_withRecord (s := s) i j ph _ 0).trans (if_neg other.symm)

end Sys2Proof.Machine
end

section
/-! SUPPORT. List order (R137): a strict order on entries of different arming order, kept where an entry is put in its place, where
entries leave, and from one tick to the next. -/

namespace Sys2Proof.Machine

variable {now : LocalTime} {a b e x : DeadlineEntry} {l hit : List DeadlineEntry}

/-! ## List order on entries -/

theorem precedes_iff : a.precedes now b = true ↔
    timeDiff now a.due < timeDiff now b.due ∨ timeDiff now a.due = timeDiff now b.due ∧ a.order < b.order := by
  simp [DeadlineEntry.precedes]

theorem precedes_trans (ab : a.precedes now b = true) (bx : b.precedes now x = true) : a.precedes now x = true := by
  rw [precedes_iff] at *
  omega

/-- Of two entries armed one after the other, one precedes. -/
theorem precedes_of_not (distinct : a.order ≠ b.order) (ba : ¬b.precedes now a = true) : a.precedes now b = true := by
  rw [precedes_iff] at *
  omega

/-- The list is in list order (R137). -/
abbrev InListOrder (now : LocalTime) (l : List DeadlineEntry) : Prop := l.Pairwise fun a b => a.precedes now b = true

/-- An entry put in its place leaves the list in order (R137). -/
theorem inListOrder_insertEntry (sorted : InListOrder now l) (fresh : ∀ x ∈ l, x.order ≠ e.order) :
    InListOrder now (insertEntry now e l) := by
  induction l with
  | nil => exact List.pairwise_singleton _ _
  | cons x l ih =>
    obtain ⟨first, rest⟩ := List.pairwise_cons.1 sorted
    unfold insertEntry
    split
    next before =>
      refine List.pairwise_cons.2 ⟨fun y mem => ?_, sorted⟩
      obtain rfl | mem := List.mem_cons.1 mem
      · exact before
      · exact precedes_trans before (first y mem)
    next after =>
      refine List.pairwise_cons.2 ⟨fun y mem => ?_, ih rest fun y mem => fresh y (List.mem_cons_of_mem x mem)⟩
      obtain rfl | mem := List.mem_cons.1 ((insertEntry_perm now e l).mem_iff.1 mem)
      · exact precedes_of_not (fresh x List.mem_cons_self) after
      · exact first y mem

/-- A recomputed wake keeps its arming order (R146). -/
theorem moved_order {c : ClockRecord} {e' : DeadlineEntry} (moved : e.moved c now = some e') : e'.order = e.order := by
  unfold DeadlineEntry.moved at moved
  split at moved
  · obtain ⟨d, -, rfl⟩ := Option.map_eq_some_iff.1 moved
    rfl
  · cases moved

/-- Recomputed wakes find their places again (R146). -/
theorem inListOrder_foldl_reinsert (c : ClockRecord) (sorted : InListOrder now l)
    (distinct : (hit ++ l).Pairwise fun a b => a.order ≠ b.order) : InListOrder now (hit.foldl (reinsert c now) l) := by
  induction hit generalizing l with
  | nil => exact sorted
  | cons e hit ih =>
    obtain ⟨others, rest⟩ := List.pairwise_cons.1 distinct
    rw [List.foldl_cons]
    unfold reinsert
    split
    next e' moved =>
      have order := moved_order moved
      have fresh : ∀ y ∈ hit ++ l, y.order ≠ e'.order := fun y mem => order ▸ (others y mem).symm
      refine ih (inListOrder_insertEntry sorted fun y mem => fresh y (List.mem_append_right hit mem)) ?_
      have perm : (hit ++ insertEntry now e' l).Perm (e' :: (hit ++ l)) :=
        ((insertEntry_perm now e' l).append_left hit).trans List.perm_middle
      exact (perm.pairwise_iff Ne.symm).2 (List.pairwise_cons.2 ⟨fun y mem => (fresh y mem).symm, rest⟩)
    next => exact ih sorted rest

/-! ## One tick (R1, R3) -/

/-- A tick brings every instant one tick nearer, but one overdue by 2^47 ticks. -/
theorem timeDiff_tick {d : LocalTime} (near : -(2 : Int) ^ 47 < timeDiff now d) : timeDiff (now + 1) d = timeDiff now d - 1 := by
  have bounds := timeDiff_bounds now d
  have moved := timeDiff_add_ofInt (now + 1) (x := timeDiff now d - 1) (by omega) (by omega)
  have same : now + 1 + BitVec.ofInt 48 (timeDiff now d - 1) = d := by
    unfold timeDiff
    rw [sub_eq_add_neg, BitVec.ofInt_add, BitVec.ofInt_toInt]
    have one : BitVec.ofInt 48 (-1) = -1 := rfl
    rw [one]
    ring
  rwa [same] at moved

theorem inListOrder_tick (sorted : InListOrder now l) (near : ∀ e ∈ l, -(2 : Int) ^ 47 < timeDiff now e.due) :
    InListOrder (now + 1) l := by
  refine List.Pairwise.imp_of_mem (fun ma mb ab => ?_) sorted
  rw [precedes_iff] at *
  rw [timeDiff_tick (near _ ma), timeDiff_tick (near _ mb)]
  omega

end Sys2Proof.Machine
end

section
/-! SUPPORT. Every command by what it does to the Deadline List: entries leave it, one is armed, or those of one clock find new
places (R137, R141, R146, R168). -/

namespace Sys2Proof.Machine

variable {s t u : State} {cmd : Instr}

/-! ## Entries that leave the list -/

/-- Entries leave the Deadline List, and the others keep their order. -/
def State.Thins (s t : State) : Prop := t.deadlines.Sublist s.deadlines

namespace State.Thins

theorem kept (e : t.deadlines = s.deadlines) : s.Thins t := by
  unfold State.Thins
  rw [e]

theorem refl (s : State) : s.Thins s := .kept rfl

theorem filtered {p : DeadlineEntry → Bool} (e : t.deadlines = s.deadlines.filter p) : s.Thins t := by
  unfold State.Thins
  rw [e]
  exact List.filter_sublist

theorem erased {x : DeadlineEntry} (e : t.deadlines = s.deadlines.erase x) : s.Thins t := by
  unfold State.Thins
  rw [e]
  exact List.erase_sublist

theorem emptied (e : t.deadlines = []) : s.Thins t := by
  unfold State.Thins
  rw [e]
  exact List.nil_sublist _

/-- What follows without touching the list. -/
theorem andKept (h : s.Thins t) (e : u.deadlines = t.deadlines) : s.Thins u := by
  unfold State.Thins
  rw [e]
  exact h

/-- What leaves the accounts of the ports alone leaves the list alone. -/
theorem of_books (e : t.books = s.books) : s.Thins t := .kept (congrArg (·.2.2.1) e)

end State.Thins

section
variable (s : State)

@[simp] theorem State.endWakes_deadlines (h : Handle) (x : Ending) :
    (s.endWakes h x).deadlines = s.deadlines.filter fun e => !e.isWakeOf h := by
  rw [endWakes_eq_updClock, State.updClock_deadlines]
  rfl

@[simp] theorem State.dropSplice_deadlines (e : DeadlineEntry) (h n : Handle) :
    (s.dropSplice e h n).deadlines = s.deadlines.erase e := by
  simp [State.dropSplice]

@[simp] theorem State.revokeAll_deadlines (h : Handle) : (s.revokeAll h).deadlines = s.deadlines := by
  have one (s : State) (k : LeaseNo) : (s.revokeLease h k).deadlines = s.deadlines := by
    unfold State.revokeLease
    (repeat' split) <;> simp
  unfold State.revokeAll
  rw [State.notify_deadlines]
  exact foldl_rel (R := fun s t => t.deadlines = s.deadlines) (fun _ => rfl) (fun h h' => h'.trans h) one _ _

end

/-- The wakes bound to a clock end, after what has left the list alone (R150). -/
theorem State.Thins.endWakes (e : t.deadlines = s.deadlines) (h : Handle) (x : Ending) : s.Thins (t.endWakes h x) :=
  .filtered (by rw [State.endWakes_deadlines, e])

/-! ## The Estimator -/

theorem thins_applySample (x : Sample) (c : ClockRecord) : s.Thins (applySample x c s) := by
  unfold applySample
  dsimp only
  split
  · exact .endWakes (by simp) _ _
  · exact .kept (by simp)

theorem thins_takeSample : s.Thins (takeSample s) := by
  unfold takeSample
  split
  · exact .refl s
  next n x _ =>
    change s.Thins (useSample x (s.afterTake n))
    unfold useSample
    split
    · exact .refl s
    split
    · exact .refl s
    dsimp only
    split
    · exact thins_applySample (s := s.afterTake n) _ _
    split
    · exact thins_applySample (s := (s.afterTake n).notify _ _) _ _
    · exact .kept (by simp [State.afterTake])

theorem thins_enterStale (h : Handle) : s.Thins (enterStale h s) := by
  unfold enterStale
  exact .endWakes (by simp) _ _

theorem thins_silenceExpired (h : Handle) (c : ClockRecord) : s.Thins (silenceExpired h c s) := by
  unfold silenceExpired
  split
  · exact .kept (by simp)
  split
  · split
    · exact thins_enterStale h
    · exact .kept (by simp)
  · exact thins_enterStale h
  all_goals exact .refl s

theorem thins_takeSilenceExpiry (i : SlotNo) : s.Thins (takeSilenceExpiry i s) := by
  unfold takeSilenceExpiry
  split
  · exact .refl s
  split
  · exact .refl s
  split
  · exact thins_silenceExpired _ _
  · exact .refl s

theorem thins_takeHoldoverExpiry (i : SlotNo) : s.Thins (takeHoldoverExpiry i s) := by
  unfold takeHoldoverExpiry
  split
  · exact .refl s
  split
  · exact .refl s
  split
  · exact thins_enterStale _
  · exact .refl s

/-! ## Expiries and CANCEL -/

/-- The head of the list is taken. -/
theorem State.Thins.taken {e : DeadlineEntry} {rest : List DeadlineEntry} (list : s.deadlines = e :: rest)
    (rests : t.deadlines = rest) : s.Thins t := by
  unfold State.Thins
  rw [list, rests]
  exact List.sublist_cons_self e rest

theorem thins_takeWakeExpiry : s.Thins (takeWakeExpiry s) := by
  unfold takeWakeExpiry
  split
  · exact .refl s
  next e rest list =>
    split
    · exact .refl s
    · split
      · exact .taken list (by simp [fireWake])
      · exact .refl s

theorem executeSplice_deadlines (e : DeadlineEntry) (o : Origin) (h k : Handle) (s : State) :
    (executeSplice e o h k s).deadlines = s.deadlines := by
  unfold executeSplice
  dsimp only
  (repeat' split) <;> simp

theorem thins_takeSpliceExpiry : s.Thins (takeSpliceExpiry s) := by
  unfold takeSpliceExpiry
  split
  · exact .refl s
  next e rest list =>
    split
    · exact .refl s
    · split
      · exact .taken list (executeSplice_deadlines _ _ _ _ _)
      · exact .refl s

theorem thins_cancelTag (n : PortNo) (own wanted : Byte) : s.Thins (cancelTag n own wanted s) := by
  unfold cancelTag
  split
  · exact .refl s
  next e _ =>
    refine .erased (x := e) ?_
    unfold cancelEntry
    split <;> simp

/-! ## Leases, retargets and splices -/

theorem thins_takeLease (n : PortNo) (tag : Byte) (h : Handle) : s.Thins (takeLease n tag h s) := by
  unfold takeLease grantLease
  (repeat' split) <;> exact .kept (by simp)

theorem thins_takeRelease (n : PortNo) (tag number : Byte) : s.Thins (takeRelease n tag number s) := by
  unfold takeRelease
  split
  · exact .refl s
  · exact .kept (by simp)

theorem moveAlias_deadlines (h : Handle) (a : AliasRecord) (n : Handle) : (moveAlias h a n s).deadlines = s.deadlines :=
  congrArg (·.2.2.1) (moveAlias_books s h a n)

theorem thins_takeRetarget (n : PortNo) (tag : Byte) (h k : Handle) : s.Thins (takeRetarget n tag h k s) := by
  unfold takeRetarget
  split
  · exact .refl s
  split
  · exact .refl s
  · exact .kept (moveAlias_deadlines _ _ _)

theorem thins_mgmtRetarget (h k : Handle) : s.Thins (mgmtRetarget h k s) := by
  unfold mgmtRetarget
  split
  · exact .refl s
  split
  · exact .refl s
  · exact .kept (moveAlias_deadlines _ _ _)

theorem withdrawSplice_deadlines (h : Handle) (e : DeadlineEntry) (o : Origin) (n : Handle) :
    (withdrawSplice h e o n s).deadlines = s.deadlines.erase e := by
  simp [withdrawSplice]

theorem thins_takeUnsplice (n : PortNo) (tag : Byte) (h : Handle) : s.Thins (takeUnsplice n tag h s) := by
  unfold takeUnsplice
  split
  · exact .refl s
  split
  · exact .refl s
  · exact .erased (withdrawSplice_deadlines _ _ _ _)

theorem thins_mgmtUnsplice (h : Handle) : s.Thins (mgmtUnsplice h s) := by
  unfold mgmtUnsplice
  split
  · exact .refl s
  split
  · exact .refl s
  · exact .erased (withdrawSplice_deadlines _ _ _ _)

/-! ## Retirement and PORT-RESET -/

theorem thins_detach (h : Handle) (r : Record) : s.Thins (detach h r s) := by
  unfold detach
  split
  · exact .endWakes (by simp) _ _
  · split
    · exact .refl s
    next e o k _ => exact .erased (x := e) (by simp)

theorem thins_retire (h : Handle) (mode : RetireMode) : s.Thins (retire h mode s) := by
  unfold retire
  split
  · exact .refl s
  next ph r _ =>
    split
    · exact .refl s
    · have detached : s.Thins (if ph.isDraining then s else detach h r s) := by
        split
        · exact .refl s
        · exact thins_detach h r
      refine State.Thins.andKept (t := (retireRecord h ph r mode s).1) ?_ rfl
      rw [retireRecord_eq rfl]
      split
      · exact detached.andKept (by simp)
      split
      · exact detached.andKept (by simp)
      · exact detached.andKept (by simp)

theorem thins_takeDrainExpiry (i : SlotNo) : s.Thins (takeDrainExpiry i s) := by
  unfold takeDrainExpiry
  (repeat' split) <;> exact .kept (by simp)

theorem thins_portReset (b : Byte) : s.Thins (portReset b s) := by
  cases e : portOfByte b with
  | none =>
    unfold portReset
    rw [e]
    exact .refl s
  | some n =>
    rw [portReset_of_good e]
    refine .filtered (p := fun e => !e.isFrom n) ?_
    rw [State.hold_deadlines, State.updPort_deadlines, withoutPort_frame]

/-! ## Every command -/

/-- What a command does to the Deadline List. -/
inductive ListMove (s t : State) : Prop
  /-- Entries leave it. -/
  | thins (h : s.Thins t)
  /-- An entry is armed (R141, R168). -/
  | armed {due : LocalTime} {w : Work}
      (list : t.deadlines = insertEntry s.lt { due, order := s.nextOrder, work := w } s.deadlines)
  /-- The wakes of one clock are recomputed (R146). -/
  | recomputed {h : Handle} {c : ClockRecord} (list : t.deadlines =
      (s.deadlines.filter (DeadlineEntry.isWakeOf h)).foldl (reinsert c s.lt) (s.deadlines.filter fun e => !e.isWakeOf h))

theorem armSplice_deadlines (o : Origin) (h k : Handle) (d : LocalTime) (s : State) : (armSplice o h k d s).deadlines =
    insertEntry s.lt { due := d, order := s.nextOrder, work := .splice o h k } s.deadlines := by
  simp [armSplice, State.arm]

theorem listMove_takeUpdateNotice (i : SlotNo) : ListMove s (takeUpdateNotice i s) := by
  unfold takeUpdateNotice
  split
  · exact .thins (.refl s)
  next c clock =>
    split
    · obtain ⟨ph, cur⟩ := clock_eq_some clock
      exact .recomputed (by rw [recomputeAll_eq cur]; rfl)
    · exact .thins (.refl s)

theorem listMove_answerWake (n : PortNo) (tag : Byte) (h : Handle) (p : RefValue) (d : WakeDecision) :
    ListMove s (answerWake n tag h p d s) := by
  cases d with
  | refuse st f => exact .thins (.refl s)
  | answer ending body => exact .thins (.refl s)
  | arm bound due => exact .armed (State.updClock_deadlines _ _ _)

theorem listMove_takeSplice (n : PortNo) (tag : Byte) (h k : Handle) (d : LocalTime) :
    ListMove s (takeSplice n tag h k d s) := by
  unfold takeSplice
  split
  · exact .thins (.refl s)
  split
  · exact .thins (.refl s)
  split
  · exact .thins (.kept (moveAlias_deadlines _ _ _))
  split
  · exact .thins (.refl s)
  · exact .armed (armSplice_deadlines _ _ _ _ _)

theorem listMove_mgmtSplice (h k : Handle) (d : LocalTime) : ListMove s (mgmtSplice h k d s) := by
  unfold mgmtSplice
  split
  · exact .thins (.refl s)
  split
  · exact .thins (.refl s)
  split
  · exact .thins (.kept (moveAlias_deadlines _ _ _))
  split
  · exact .thins (.refl s)
  · exact .armed (armSplice_deadlines _ _ _ _ _)

theorem listMove_carryOut (q : MgmtRequest) : ListMove s (carryOut s q) := by
  cases q with
  | createClock => exact .thins (.of_books (createClock_books s))
  | createAlias h => exact .thins (.of_books (createAlias_books s h))
  | configure h cs => exact .thins (.of_books (configure_books s h cs))
  | enable h => exact .thins (.of_books (enable_books s h))
  | retire h mode => exact .thins (thins_retire h mode)
  | readRecord n => exact .thins (.of_books (readRecord_books s n))
  | bind i g h r => exact .thins (.of_books (bindTag_books s i g h r))
  | unbind i g => exact .thins (.of_books (unbindTag_books s i g))
  | setInputOffset i o => exact .thins (.of_books (setInputOffset_books s i o))
  | setAnchor h v r => exact .thins (.of_books (setAnchor_books s h v r))
  | selectSource h r => exact .thins (.of_books (selectSource_books s h r))
  | setPortLevel b l =>
    change ListMove s (setPortLevel b l s)
    unfold setPortLevel
    (repeat' split) <;> exact .thins (.kept rfl)
  | portReset b => exact .thins (thins_portReset b)
  | readPort b => exact .thins (.of_books (readPort_books s b))
  | retarget h k => exact .thins (thins_mgmtRetarget h k)
  | splice h k d => exact listMove_mgmtSplice h k d
  | unsplice h => exact .thins (thins_mgmtUnsplice h)
  | readIdentity | readTime | setMask => exact .thins (.kept rfl)
  | nextNotice => exact .thins (.of_books (nextNotice_books s))
  | purge => exact .thins (.emptied (deadlines_purgeAll s))

/-- The evaluation of a granted request; the grant leaves the list alone (R107). -/
theorem listMove_evaluate (n : PortNo) (tag : Byte) (q : PortRequest) : ListMove (s.serve n) (evaluate s n tag q) := by
  cases q with
  | convert | invert | status | due => exact .thins (.kept rfl)
  | wake h p => exact listMove_answerWake n tag h p _
  | lease h => exact .thins (thins_takeLease n tag h)
  | release number => exact .thins (thins_takeRelease n tag number)
  | cancel wanted => exact .thins (thins_cancelTag n tag wanted)
  | retarget h k => exact .thins (thins_takeRetarget n tag h k)
  | splice h k d => exact listMove_takeSplice n tag h k d
  | unsplice h => exact .thins (thins_takeUnsplice n tag h)

theorem listMove_of_serve (h : ListMove (s.serve n) t) : ListMove s t := by
  cases h with
  | thins h => exact .thins h
  | armed list => exact .armed list
  | recomputed list => exact .recomputed list

theorem listMove_of_taken {s' : State} (h : ListMove s s') (e : taken s s' = .next t) : ListMove s t := by
  unfold taken at e
  split at e <;> cases e
  · exact .thins (.refl s)
  · exact h

/-- Every command is one of these. -/
theorem exec_listMove (e : exec cmd s = .next t) : ListMove s t := by
  have owner (code : MgmtCode) (mem : (cmd, code) ∈ ownerEvents) : ListMove s t := by
    obtain rfl | ⟨q, -, -, rfl⟩ := exec_owner_command mem e
    · exact .thins (.refl t)
    · exact listMove_carryOut q
  have evaluation (code : PortCode) (mem : (cmd, code) ∈ evaluations) : ListMove s t := by
    obtain rfl | ⟨n, tag, q, -, rfl⟩ := exec_evaluation mem e
    · exact .thins (.refl t)
    · exact listMove_of_serve (listMove_evaluate n tag q)
  have thin {s' : State} (thins : s.Thins s') (e : taken s s' = .next t) : ListMove s t := listMove_of_taken (.thins thins) e
  have quiet {s' : State} (q : Quiet s s') (e : taken s s' = .next t) : ListMove s t := thin (.kept q.table.deadlines) e
  have port {n : PortNo} {f : Port → Port} (e : taken s (s.updPort n f) = .next t) : ListMove s t :=
    thin (s' := s.updPort n f) (.kept rfl) e
  have mgmt {m : MgmtPort} (e : taken s (s.putMgmt m) = .next t) : ListMove s t := thin (s' := s.putMgmt m) (.kept rfl) e
  cases cmd with
  | lclkTick => exact thin (s' := { s with lt := s.lt + 1 }) (.kept rfl) e
  | hardReset =>
    cases e
    exact .thins (.emptied rfl)
  | resetRelease a b m =>
    cases e
    refine .thins (.kept ?_)
    split <;> rfl
  | frameStart n => exact quiet (startFrame_quiet n) e
  | receiverUnblock n => exact quiet (unblockReceiver_quiet n) e
  | frameEnd n => exact quiet (endFrame_quiet n) e
  | inputBitSampled n b => exact quiet (sampleInputBit_quiet n b) e
  | sampleTake => exact thin thins_takeSample e
  | silenceExpiry i => exact thin (thins_takeSilenceExpiry i) e
  | holdoverExpiry i => exact thin (thins_takeHoldoverExpiry i) e
  | updateNotice i => exact listMove_of_taken (listMove_takeUpdateNotice i) e
  | wakeExpiry => exact thin thins_takeWakeExpiry e
  | spliceExpiry => exact thin thins_takeSpliceExpiry e
  | drainExpiry i => exact thin (thins_takeDrainExpiry i) e
  | querySelect | queryFetchSelect | queryBitSampled | queryRequestEnd | queryFetchEnd | queryPortUnblock => exact port e
  | mgmtSelect => exact quiet selectMgmt_quiet e
  | mgmtBitSampled | mgmtFetchSelect | mgmtRequestEnd | mgmtFetchEnd | mgmtPortUnblock => exact mgmt e
  | convert => exact evaluation .convert (by decide)
  | invert => exact evaluation .invert (by decide)
  | status => exact evaluation .status (by decide)
  | due => exact evaluation .due (by decide)
  | wake => exact evaluation .wake (by decide)
  | lease => exact evaluation .lease (by decide)
  | release => exact evaluation .release (by decide)
  | cancel => exact evaluation .cancel (by decide)
  | retarget => exact evaluation .retarget (by decide)
  | splice => exact evaluation .splice (by decide)
  | unsplice => exact evaluation .unsplice (by decide)
  | createClock => exact owner .createClock (by decide)
  | createAlias => exact owner .createAlias (by decide)
  | configure => exact owner .configure (by decide)
  | enable => exact owner .enable (by decide)
  | retire => exact owner .retire (by decide)
  | readRecord => exact owner .readRecord (by decide)
  | bind => exact owner .bind (by decide)
  | unbind => exact owner .unbind (by decide)
  | setInputOffset => exact owner .setInputOffset (by decide)
  | setAnchor => exact owner .setAnchor (by decide)
  | selectSource => exact owner .selectSource (by decide)
  | setPortLevel => exact owner .setPortLevel (by decide)
  | portReset => exact owner .portReset (by decide)
  | readPort => exact owner .readPort (by decide)
  | mgmtRetarget => exact owner .retarget (by decide)
  | mgmtSplice => exact owner .splice (by decide)
  | mgmtUnsplice => exact owner .unsplice (by decide)
  | readIdentity => exact owner .readIdentity (by decide)
  | readTime => exact owner .readTime (by decide)
  | setMask => exact owner .setMask (by decide)
  | nextNotice => exact owner .nextNotice (by decide)
  | purge => exact owner .purge (by decide)

/-- A list in order, its entries armed one after another and before the next, stays in the order of the same instant. -/
theorem ListMove.inListOrder (move : ListMove s t) (sorted : InListOrder s.lt s.deadlines)
    (distinct : s.deadlines.Pairwise fun a b => a.order ≠ b.order) (armed : ∀ e ∈ s.deadlines, e.order < s.nextOrder) :
    InListOrder s.lt t.deadlines := by
  cases move with
  | thins thins => exact sorted.sublist thins
  | armed list =>
    rw [list]
    exact inListOrder_insertEntry sorted fun e mem => (armed e mem).ne
  | recomputed list =>
    rw [list]
    refine inListOrder_foldl_reinsert _ (sorted.sublist List.filter_sublist) ?_
    exact ((filter_split _ s.deadlines).1.pairwise_iff Ne.symm).1 distinct

/-- Settles O26: a tick moves every difference alike, and every other command keeps the instant. -/
theorem deadlineListStaysInOrder : Obligations.DeadlineListStaysInOrder := by
  intro cmd s t tied sorted near e
  obtain ⟨-, distinct, entries, -⟩ := tied
  have move : InListOrder s.lt t.deadlines :=
    (exec_listMove e).inListOrder sorted distinct fun x mem => (entries x mem).1
  by_cases tick : cmd = .lclkTick
  · subst tick
    cases low : s.rstLow with
    | true =>
      rw [exec_lclkTick_low low] at e
      cases e
      exact sorted
    | false =>
      rw [exec_lclkTick_high low] at e
      cases e
      exact inListOrder_tick sorted (near rfl)
  by_cases reset : cmd = .hardReset
  · subst reset
    cases e
    exact .nil
  · rw [exec_lt tick reset e]
    exact move

end Sys2Proof.Machine
end

section
/-! SUPPORT. LEASE and RELEASE (R157, R158, R160): the entry of the Lease Table each finds, and what becomes of the record whose
lease is taken or given up. -/

namespace Sys2Proof.Machine

variable {s t : State} {n : PortNo} {tag number : Byte} {h : Handle} {k : LeaseNo} {l : Lease} {ph p : Phase} {x : Record}
  {r : Resolved} {c : ClockRecord} {a : AliasRecord}

/-! ## LEASE (R157, R158) -/

/-- The lowest-numbered free entry of the Lease Table is taken for a new lease (R158). -/
theorem freeLease_of_first (free : s.lease k = none) (first : ∀ j, j < k → s.lease j ≠ none) : s.freeLease = some k :=
  find?_finRange (by rw [free]; rfl) fun j before =>
    Option.isNone_eq_false_iff.2 (Option.isSome_iff_ne_none.2 (first j before))

theorem takeLease_of_fail {st : Status} {f : Handle} (e : resolve s (s.port n).level .lease true h = .fail st f) :
    takeLease n tag h s = s.respond n .lease tag (.refused st f) := by
  unfold takeLease
  rw [e]

theorem takeLease_of_limit (e : resolve s (s.port n).level .lease true h = .pass r)
    (limit : Config.leaseUseLimit ≤ (s.port n).leaseUse) :
    takeLease n tag h s = s.respond n .lease tag (.refused .leaseLimit h) := by
  unfold takeLease
  rw [e]
  exact if_pos limit

theorem takeLease_of_free (e : resolve s (s.port n).level .lease true h = .pass r)
    (room : (s.port n).leaseUse < Config.leaseUseLimit) (free : s.freeLease = some k) :
    takeLease n tag h s = grantLease k n tag r s := by
  unfold takeLease
  rw [e]
  dsimp only
  rw [if_neg (Nat.not_le.2 room), free]

/-- A lease is granted on a current record (R158). -/
theorem grantLease_of_current (cur : s.current r.named = some (ph, x)) : grantLease k n tag r s =
    (((s.putLease k (some { port := n, named := r.named, grant := s.lt })).withRecord r.named.slot ph
      (x.updLeaseCount (· + 1)) 0).updPort n fun p => { p with leaseUse := p.leaseUse + 1 }).respond n .lease tag
      (.ok (.lease k r.named s.lt r.eff)) := by
  have cur' : (s.putLease k (some { port := n, named := r.named, grant := s.lt })).current r.named = some (ph, x) := cur
  unfold grantLease
  rw [State.updRecord_of_current _ cur']

/-! ## RELEASE (R160) -/

theorem leaseHeldBy_of_lease (num : k.val = number.toNat) (held : s.lease k = some l) (port : l.port = n) :
    s.leaseHeldBy n number = some (k, l) := by
  obtain ⟨i, bound⟩ := k
  obtain rfl : i = number.toNat := num
  unfold State.leaseHeldBy
  rw [dif_pos bound, held]
  exact if_pos port

theorem leaseHeldBy_of_none (other : ∀ k l, s.lease k = some l → k.val = number.toNat → l.port ≠ n) :
    s.leaseHeldBy n number = none :=
  Option.eq_none_iff_forall_ne_some.2 fun ⟨k, l⟩ found =>
    have ⟨held, port, num⟩ := leaseHeldBy_eq_some found
    other k l held num port

theorem takeRelease_of_none (e : s.leaseHeldBy n number = none) :
    takeRelease n tag number s = s.respond n .release tag (.refused .notFound Handle.null) := by
  unfold takeRelease
  rw [e]

/-- A RELEASE of a held lease gives it up and reports the lifecycle its record is left in (R160). -/
theorem takeRelease_of_held {life : Lifecycle} (held : s.leaseHeldBy n number = some (k, l)) (gives : s.giveUpLease k l = t)
    (left : (t.slot l.named.slot).content.lifecycle = life) : takeRelease n tag number s =
      (t.updPort n fun p => { p with leaseUse := p.leaseUse - 1 }).respond n .release tag
        (.ok (.release k l.named l.grant life)) := by
  unfold takeRelease
  rw [held]
  dsimp only
  rw [gives, ← left]
  rfl

theorem leaseCount_updLeaseCount (f : Nat → Nat) (x : Record) : (x.updLeaseCount f).leaseCount = f x.leaseCount := by
  cases x <;> rfl

/-- A record enters RETIRED as if its lease count had not been written before (R34). -/
theorem enterRetired_updLeaseCount (cur : s.current h = some (ph, x)) (f : Nat → Nat) :
    (s.withRecord h.slot ph (x.updLeaseCount f) 0).enterRetired h.slot =
      (s.lowerTarget x).putSlot h.slot ((s.slot h.slot).retiredAs x.kind) := by
  rw [enterRetired_of_current (State.current_withRecord_self cur _ _ _), lowerTarget_withRecord cur, Record.kind_updLeaseCount]
  simp [Slot.retiredAs]

/-- A lease given up lowers its record's lease count, and a DRAINING record whose last lease it was enters RETIRED (R160). -/
theorem giveUpLease_of_current (cur : s.current l.named = some (ph, x)) : s.giveUpLease k l =
    if ph.isDraining = true ∧ x.leaseCount ≤ 1 then
      ((s.putLease k none).lowerTarget x).putSlot l.named.slot ((s.slot l.named.slot).retiredAs x.kind)
    else (s.putLease k none).withRecord l.named.slot ph (x.updLeaseCount (· - 1)) 0 := by
  have cur' : (s.putLease k none).current l.named = some (ph, x) := cur
  have retires : _ = ((s.putLease k none).lowerTarget x).putSlot l.named.slot ((s.slot l.named.slot).retiredAs x.kind) :=
    enterRetired_updLeaseCount cur' (· - 1)
  unfold State.giveUpLease
  dsimp only
  rw [← retires, State.updRecord_of_current _ cur', State.current_withRecord_self cur']
  cases ph with
  | reserved | live => exact (if_neg (fun q => nomatch q.1)).symm
  | draining d => simp [Phase.isDraining, leaseCount_updLeaseCount, Nat.sub_eq_zero_iff_le]

/-! ## Both requests -/

/-- Settles O41: LEASE by its checks in their order, RELEASE by whether the lease was the last of a DRAINING record. -/
theorem leaseAndRelease : Obligations.LeaseAndRelease := by
  refine ⟨fun s n tag h grants => ?_, fun s n tag number grants => ?_⟩
  · have served {t : State} (e : takeLease n tag h (s.serve n) = t) : exec .lease s = .next t := exec_grants grants e
    have level : ((s.serve n).port n).level = (s.port n).level := State.level_serve n n
    have leaseUse : ((s.serve n).port n).leaseUse = (s.port n).leaseUse := by simp [State.port_serve]
    refine ⟨fun st f e => served (takeLease_of_fail (by rw [level]; exact e)), fun r ph x e cur => ?_⟩
    have e' : resolve (s.serve n) ((s.serve n).port n).level .lease true h = .pass r := by rw [level]; exact e
    refine ⟨fun limit => served (takeLease_of_limit e' (leaseUse ▸ limit)), fun k room free first => ?_⟩
    obtain ⟨-, -, named, -⟩ := resolve_pass e
    subst named
    exact served ((takeLease_of_free e' (leaseUse ▸ room) (freeLease_of_first free first)).trans (grantLease_of_current cur))
  · have served {t : State} (e : takeRelease n tag number (s.serve n) = t) : exec .release s = .next t := exec_grants grants e
    refine ⟨fun other => served (takeRelease_of_none (leaseHeldBy_of_none other)), fun k l ph x num held port cur => ?_⟩
    have found : (s.serve n).leaseHeldBy n number = some (k, l) := leaseHeldBy_of_lease num held port
    have given := giveUpLease_of_current (s := s.serve n) (k := k) cur
    refine ⟨fun stays => ?_, fun drains last => ⟨?_, ?_⟩⟩
    · exact served (takeRelease_of_held found (given.trans (if_neg stays)) (by simp [lifecycle_active]))
    · rintro c rfl
      have retires := given.trans (if_pos ⟨drains, last⟩)
      exact served (takeRelease_of_held found retires (by simp [Slot.retiredAs, Content.lifecycle]))
    · rintro a p c rfl target
      have target' : ((s.serve n).putLease k none).current a.target = some (p, .ofClock c) := target
      have lowered : ((s.serve n).putLease k none).lowerTarget (.ofAlias a) = _ := State.updClock_of_current _ target'
      rw [if_pos ⟨drains, last⟩, lowered] at given
      exact served (takeRelease_of_held found given (by simp [Slot.retiredAs, Content.lifecycle]))

end Sys2Proof.Machine
end

section
/-! SUPPORT. RETARGET and SPLICE accepted, from a port and from the management port: the ALIAS moves at once (R165, R167), or the
SPLICE is armed (R168). -/

namespace Sys2Proof.Machine

variable {s : State} {h k : Handle} {d : LocalTime} {ph pk po : Phase} {a : AliasRecord} {ck co : ClockRecord} {n : PortNo}
  {tag : Byte}

/-! ## The records of an ALIAS and of its targets -/

/-- A CLOCK and then an ALIAS are written: two records in different slots. -/
theorem updClock_updAlias (cur : s.current h = some (ph, .ofAlias a)) (target : s.current k = some (pk, .ofClock ck))
    (f : ClockRecord → ClockRecord) (g : AliasRecord → AliasRecord) : (s.updClock k f).updAlias h g =
      (s.withRecord k.slot pk (.ofClock (f ck)) 0).withRecord h.slot ph (.ofAlias (g a)) 0 := by
  have apart : k.slot ≠ h.slot := State.current_slot_ne target cur nofun
  rw [State.updClock_of_current f target]
  exact State.updAlias_of_current g ((State.current_withRecord_other apart _ _ _).trans cur)

/-- An ALIAS moves at once, and the counts of its targets with it, unless the two are one clock (R165). -/
theorem moveAlias_of_current (cur : s.current h = some (ph, .ofAlias a)) (new : s.current k = some (pk, .ofClock ck))
    (old : s.current a.target = some (po, .ofClock co)) : moveAlias h a k s =
      let s1 := s.withRecord h.slot ph (.ofAlias { a with target := k }) 0
      if k = a.target then s1
      else (s1.withRecord k.slot pk (.ofClock { ck with aliasCount := ck.aliasCount + 1 }) 0).withRecord a.target.slot po
        (.ofClock { co with aliasCount := co.aliasCount - 1 }) 0 := by
  have new_apart : k.slot ≠ h.slot := State.current_slot_ne new cur nofun
  have new' := (State.current_withRecord_other new_apart.symm ph (.ofAlias { a with target := k }) 0).trans new
  have raised : (s.raiseAliasCount k).updAlias h (fun a => { a with target := k }) = _ :=
    (updClock_updAlias cur new _ _).trans (State.withRecord_comm _ _ _ _ _ _ new_apart)
  have after := current_withRecord new' pk (.ofClock { ck with aliasCount := ck.aliasCount + 1 }) 0
  unfold moveAlias
  rw [raised]
  dsimp only
  split
  next same =>
    obtain rfl := same
    refine (State.updClock_of_current _ ((after _).trans (if_pos rfl))).trans ?_
    rw [State.withRecord_withRecord]
    exact State.withRecord_self new'
  next apart =>
    have old_apart : h.slot ≠ a.target.slot := State.current_slot_ne cur old nofun
    refine State.updClock_of_current _ ((after _).trans ((if_neg (Ne.symm apart)).trans ?_))
    exact (State.current_withRecord_other old_apart _ _ _).trans old

/-- A SPLICE is armed in its place, on its new target and its ALIAS (R168). -/
theorem armSplice_of_current (cur : s.current h = some (ph, .ofAlias a)) (target : s.current k = some (pk, .ofClock ck))
    (origin : Origin) (d : LocalTime) : armSplice origin h k d s =
      { (s.withRecord k.slot pk (.ofClock { ck with aliasCount := ck.aliasCount + 1 }) 0).withRecord h.slot ph
          (.ofAlias { a with pendingSplice := some s.nextOrder }) 0 with
        deadlines := insertEntry s.lt { due := d, order := s.nextOrder, work := .splice origin h k } s.deadlines
        nextOrder := s.nextOrder + 1 } :=
  updClock_updAlias (s := s.arm d (.splice origin h k)) cur target _ _

/-! ## The requests, past their checks -/

theorem timePast_iff {now : LocalTime} : timePast d now = true ↔ timeDiff now d ≤ 0 := decide_eq_true_iff

theorem checkAliasFromPort_serve (cur : s.current h = some (ph, .ofAlias a)) (enabled : ph ≠ .reserved)
    (top : (s.port n).level = 0) : checkAliasFromPort (s.serve n) ((s.serve n).port n).level h = .pass (ph, a) :=
  checkAliasFromPort_pass.2 ⟨cur, enabled, (State.level_serve n n).trans top⟩

theorem takeRetarget_of_pass (pass : checkAliasFromPort s (s.port n).level h = .pass (ph, a))
    (move : checkMove s h k (ph, a) = .pass a) : takeRetarget n tag h k s =
      (moveAlias h a k s).respond n .retarget tag (.ok (.retarget h a.target k)) := by
  unfold takeRetarget
  rw [pass]
  dsimp only
  rw [move]

theorem takeSplice_of_pass (pass : checkAliasFromPort s (s.port n).level h = .pass (ph, a))
    (move : checkMove s h k (ph, a) = .pass a) : takeSplice n tag h k d s =
      if timePast d s.lt then
        (moveAlias h a k s).push n (.spliceDone tag .done
          { aliasHandle := h, oldTarget := some a.target, newTarget := k, now := s.lt, due := none })
      else if s.listFull then s.respond n .splice tag (.refused .listFull h)
      else armSplice (.port n tag) h k d s := by
  unfold takeSplice
  rw [pass]
  dsimp only
  rw [move]

theorem mgmtRetarget_of_pass (cur : s.current h = some (ph, .ofAlias a)) (move : checkMove s h k (ph, a) = .pass a) :
    mgmtRetarget h k s = (moveAlias h a k s).hold .retarget (.ok (.retarget h a.target k)) := by
  unfold mgmtRetarget
  rw [checkAliasFromMgmt_pass.2 cur]
  dsimp only
  rw [move]

theorem mgmtSplice_of_pass (cur : s.current h = some (ph, .ofAlias a)) (move : checkMove s h k (ph, a) = .pass a) :
    mgmtSplice h k d s =
      if timePast d s.lt then (moveAlias h a k s).hold .splice (.ok (.spliceExecuted h a.target k s.lt))
      else if s.listFull then s.hold .splice (.refused .listFull Handle.null)
      else (armSplice .management h k d s).hold .splice (.ok (.spliceArmed h k d)) := by
  unfold mgmtSplice
  rw [checkAliasFromMgmt_pass.2 cur]
  dsimp only
  rw [move]

/-- Settles O43: each request passes its checks, and the ALIAS and its two targets are written. -/
theorem aliasMovesAtOnce : Obligations.AliasMovesAtOnce := by
  intro s h k ph pk po a ck co high cur new old stays active idle moved
  have move : checkMove s h k (ph, a) = .pass a := checkMove_pass.2 ⟨rfl, stays, idle, pk, ck, new, active⟩
  have moves : moveAlias h a k s = moved s := moveAlias_of_current cur new old
  refine ⟨fun n tag live top => ?_, fun asked => ?_, fun t past asked => ?_⟩
  · have pass := checkAliasFromPort_serve cur (live ▸ nofun) top
    have served : moveAlias h a k (s.serve n) = moved (s.serve n) := moveAlias_of_current (s := s.serve n) cur new old
    refine ⟨fun granted => exec_grants ⟨high, granted⟩ ?_, fun t past granted => exec_grants ⟨high, granted⟩ ?_⟩
    · rw [← served]
      exact takeRetarget_of_pass pass move
    · rw [← served]
      exact (takeSplice_of_pass pass move).trans (if_pos (timePast_iff.2 past))
  · rw [← moves]
    exact exec_asked ⟨high, asked⟩ (mgmtRetarget_of_pass cur move)
  · rw [← moves]
    exact exec_asked ⟨high, asked⟩ ((mgmtSplice_of_pass cur move).trans (if_pos (timePast_iff.2 past)))

/-- Settles O44: the time is ahead, and the list is full or the entry is armed. -/
theorem spliceIsArmed : Obligations.SpliceIsArmed := by
  intro s h k t ph pk a ck high cur target stays active idle ahead armed
  have move : checkMove s h k (ph, a) = .pass a := checkMove_pass.2 ⟨rfl, stays, idle, pk, ck, target, active⟩
  have future : ¬timePast t s.lt = true := fun past => (timePast_iff.1 past).not_gt ahead
  have notFull (room : s.deadlines.length < 48) : ¬s.listFull = true := fun full => (listFull_iff.1 full).not_gt room
  refine ⟨fun n tag live top granted => ?_, fun asked => ?_⟩
  · have pass := checkAliasFromPort_serve cur (live ▸ nofun) top
    have spliced := (takeSplice_of_pass (tag := tag) pass move).trans (if_neg future)
    have ends {u : State} (e : takeSplice n tag h k t (s.serve n) = u) : exec .splice s = .next u :=
      exec_grants ⟨high, granted⟩ e
    refine ⟨fun full => ends (spliced.trans (if_pos (listFull_iff.2 full))), fun room => ?_⟩
    exact ends ((spliced.trans (if_neg (notFull room))).trans (armSplice_of_current (s := s.serve n) cur target _ t))
  · have spliced := (mgmtSplice_of_pass cur move).trans (if_neg future)
    have ends {u : State} (e : mgmtSplice h k t s = u) : exec .mgmtSplice s = .next u := exec_asked ⟨high, asked⟩ e
    refine ⟨fun full => ends (spliced.trans (if_pos (listFull_iff.2 full))), fun room => ?_⟩
    rw [ends (spliced.trans (if_neg (notFull room))), armSplice_of_current cur target]

end Sys2Proof.Machine
end

section
/-! SUPPORT. UNSPLICE (R170): the pending splice it finds, and what becomes of its entry, its records and its origin. -/

namespace Sys2Proof.Machine

variable {s : State} {h k : Handle} {ph pk : Phase} {a : AliasRecord} {c : ClockRecord} {e : DeadlineEntry} {o : Origin}
  {n : PortNo} {tag : Byte}

theorem takeUnsplice_of_none (pass : checkAliasFromPort s (s.port n).level h = .pass (ph, a))
    (idle : s.pendingEntry a = none) : takeUnsplice n tag h s = s.respond n .unsplice tag (.refused .notFound h) := by
  unfold takeUnsplice
  rw [pass]
  dsimp only
  rw [idle]

theorem takeUnsplice_of_entry (pass : checkAliasFromPort s (s.port n).level h = .pass (ph, a))
    (pending : s.pendingEntry a = some (e, o, k)) : takeUnsplice n tag h s =
      (withdrawSplice h e o k s).respond n .unsplice tag (.ok (.unsplice h k e.due o)) := by
  unfold takeUnsplice
  rw [pass]
  dsimp only
  rw [pending]

theorem mgmtUnsplice_of_none (cur : s.current h = some (ph, .ofAlias a)) (idle : s.pendingEntry a = none) :
    mgmtUnsplice h s = s.hold .unsplice (.refused .notFound Handle.null) := by
  unfold mgmtUnsplice
  rw [checkAliasFromMgmt_pass.2 cur]
  dsimp only
  rw [idle]

theorem mgmtUnsplice_of_entry (cur : s.current h = some (ph, .ofAlias a)) (pending : s.pendingEntry a = some (e, o, k)) :
    mgmtUnsplice h s = (withdrawSplice h e o k s).hold .unsplice (.ok (.unsplice h k e.due o)) := by
  unfold mgmtUnsplice
  rw [checkAliasFromMgmt_pass.2 cur]
  dsimp only
  rw [pending]

/-- A splice armed by a port is withdrawn: the port gets a completion (R170). -/
theorem withdrawSplice_port (cur : s.current h = some (ph, .ofAlias a)) (target : s.current k = some (pk, .ofClock c)) :
    withdrawSplice h e (.port n tag) k s =
      (((s.putDeadlines (s.deadlines.erase e)).withRecord k.slot pk (.ofClock { c with aliasCount := c.aliasCount - 1 })
        0).withRecord h.slot ph (.ofAlias { a with pendingSplice := none }) 0).push n
        (.spliceDone tag .cancelled
          { aliasHandle := h, oldTarget := none, newTarget := k, now := s.lt, due := some e.due }) := by
  unfold withdrawSplice
  rw [dropSplice_of_current cur target]
  rfl

/-- A splice armed by the management port is withdrawn: SPLICE_CANCELLED is set on the ALIAS (R170). -/
theorem withdrawSplice_management (cur : s.current h = some (ph, .ofAlias a)) (target : s.current k = some (pk, .ofClock c)) :
    withdrawSplice h e .management k s =
      ((s.putDeadlines (s.deadlines.erase e)).withRecord k.slot pk (.ofClock { c with aliasCount := c.aliasCount - 1 })
        0).withRecord h.slot ph (.ofAlias { a with pendingSplice := none }) 0x0800 := by
  unfold withdrawSplice
  rw [dropSplice_of_current cur target]
  exact State.withRecord_notify h.slot ph _ 0 0x0800

/-- Settles O45: by whether the ALIAS has a splice pending, and by who armed it. -/
theorem unsplice : Obligations.Unsplice := by
  intro s h ph a high cur port
  have pass {n tag} : port n tag → checkAliasFromPort (s.serve n) ((s.serve n).port n).level h = .pass (ph, a) :=
    fun ⟨enabled, top, _⟩ => checkAliasFromPort_serve cur enabled top
  have fromPort {n tag} {t : State} : port n tag → takeUnsplice n tag h (s.serve n) = t → exec .unsplice s = .next t :=
    fun ⟨_, _, granted⟩ => exec_grants ⟨high, granted⟩
  have fromMgmt {t : State} (asked : s.mgmt.req = .inProgress (.unsplice h)) (e : mgmtUnsplice h s = t) :
      exec .mgmtUnsplice s = .next t := exec_asked ⟨high, asked⟩ e
  constructor
  · intro idle
    exact ⟨fun n tag asks => fromPort asks (takeUnsplice_of_none (pass asks) (pendingEntry_of_none idle)),
      fun asked => fromMgmt asked (mgmtUnsplice_of_none cur (pendingEntry_of_none idle))⟩
  · intro e o k pk c pending entry work target withdrawn
    have found := pendingEntry_of_entry pending entry work
    have withdraws : withdrawSplice h e o k s = withdrawn s := by
      cases o with
      | port m t => exact withdrawSplice_port cur target
      | management => exact withdrawSplice_management cur target
    have served (n : PortNo) : withdrawSplice h e o k (s.serve n) = withdrawn (s.serve n) := by
      cases o with
      | port m t => exact withdrawSplice_port (s := s.serve n) cur target
      | management => exact withdrawSplice_management (s := s.serve n) cur target
    refine ⟨fun n tag asks => ?_, fun asked => ?_⟩
    · rw [← served]
      exact fromPort asks (takeUnsplice_of_entry (pass asks) found)
    · rw [← withdraws]
      exact fromMgmt asked (mgmtUnsplice_of_entry cur found)

end Sys2Proof.Machine
end

section
/-! SUPPORT. The layout of responses (R189, R193, R196, R197): the results of a management response spell their fields, the length
of what spells fields is the sum of their sizes, and every length fits its byte. -/

namespace Sys2Proof.Machine

/-! ## Sizes of fields -/

/-- The bytes a list of fields takes. -/
def fieldsSize (fs : List (Nat × Int)) : Nat := (fs.map Prod.fst).sum

theorem length_of_spells {fs : List (Nat × Int)} {bs : List Byte} (spells : Spells fs bs) : bs.length = fieldsSize fs := by
  induction fs generalizing bs with
  | nil => rw [show bs = [] from spells]; rfl
  | cons f fs ih =>
    obtain ⟨field, rest, rfl, own, -, others⟩ := spells
    rw [List.length_append, own, ih others]
    rfl

@[simp] theorem fieldsSize_nil : fieldsSize [] = 0 := rfl

@[simp] theorem fieldsSize_cons (f : Nat × Int) (fs : List (Nat × Int)) : fieldsSize (f :: fs) = f.1 + fieldsSize fs :=
  List.sum_cons

theorem fieldsSize_append (fs gs : List (Nat × Int)) : fieldsSize (fs ++ gs) = fieldsSize fs + fieldsSize gs := by
  simp [fieldsSize]

@[simp] theorem byteField_size (n : Nat) : (byteField n).1 = 1 := by simp [byteField]
@[simp] theorem wordField_size (n : Nat) : (wordField n).1 = 2 := by simp [wordField]
@[simp] theorem longField_size (n : Nat) : (longField n).1 = 4 := by simp [longField]
@[simp] theorem Handle.field_size (h : Handle) : h.field.1 = 2 := by simp [Handle.field]
@[simp] theorem timeField_size (t : BitVec 48) : (timeField t).1 = 6 := by simp [timeField]
@[simp] theorem rvField_size (v : RefValue) : (rvField v).1 = 5 := by simp [rvField]

/-- An absent field takes the room of a present one (R189). -/
@[simp] theorem optField_size {α : Type} {k : Nat} {f : α → Nat × Int} (same : ∀ x, (f x).1 = k) (o : Option α) :
    (optField k f o).1 = k := by
  cases o with
  | none => rfl
  | some x => exact same x

theorem WakeBody.size_fields (b : WakeBody) : fieldsSize b.fields = 32 := by simp [WakeBody.fields]

theorem SpliceBody.size_fields (b : SpliceBody) : fieldsSize b.fields = 19 := by simp [SpliceBody.fields]

theorem ClockRecord.size_fields (c : ClockRecord) (drain : Option LocalTime) : fieldsSize (c.fields drain) = 99 := by
  simp [ClockRecord.fields]

theorem AliasRecord.size_fields (a : AliasRecord) (drain : Option LocalTime) (splice : Option (Handle × LocalTime)) :
    fieldsSize (a.fields drain splice) = 22 := by
  simp [AliasRecord.fields]

theorem Snapshot.size_fields (r : Snapshot) : fieldsSize r.fields = 12 + fieldsSize r.recordFields := by
  simp only [Snapshot.fields, fieldsSize_append, fieldsSize_cons, fieldsSize_nil, timeField_size, byteField_size,
    wordField_size]

/-! ## One byte -/

theorem byteOf_eq (n : Nat) : byteOf n = [BitVec.ofNat 8 n] := by simp [byteOf, bytesBE]

/-- A number below 256 in two bytes has a zero above it. -/
theorem spells_word_of_byte {n : Nat} (small : n < 256) : Spells [wordField n] (byteOf 0 ++ byteOf n) := by
  refine ⟨byteOf 0 ++ byteOf n, [], (List.append_nil _).symm, rfl, ?_, rfl⟩
  rw [byteOf_eq, byteOf_eq]
  simp only [natOfBytes, List.cons_append, List.nil_append, List.foldl, BitVec.toNat_ofNat]
  omega

/-! ## Management results (R181, R196) -/

/-- `spells_append` as a step of a chain: the next field joins at the end, as `++` puts a response together. -/
theorem Spells.then {fs gs : List (Nat × Int)} {xs ys : List Byte} (hx : Spells fs xs) (hy : Spells gs ys) :
    Spells (fs ++ gs) (xs ++ ys) := spells_append hx hy

theorem PortSnapshot.spells (r : PortSnapshot) : Spells (MgmtResult.port r).fields r.bytes := by
  have flags : marks [r.purged, r.framing, r.refused] = 4 * r.refused.toNat + 2 * r.framing.toNat + r.purged.toNat := by
    rw [marks_eq_presence]
    simp only [presence]
    omega
  have reported : Spells [byteField (marks [r.purged, r.framing, r.refused])]
      (byteOf (4 * r.refused.toNat + 2 * r.framing.toNat + r.purged.toNat)) := by
    rw [flags]
    exact spells_byteOf _
  exact (spells_byteOf r.level |>.then (spells_byteOf _) |>.then (spells_byteOf _) |>.then (spells_byteOf _)
    |>.then (spells_byteOf _) |>.then (spells_byteOf _) |>.then reported |>.then (spells_byteOf _) :)

theorem NoticeReport.spells (r : NoticeReport) : Spells (MgmtResult.notice r).fields r.bytes := by
  cases r with
  | empty =>
    exact (spells_byteOf 0 |>.then (spells_bytesBE 2 0) |>.then (spells_bytesBE 2 0) |>.then (spells_byteOf 0)
      |>.then (spells_byteOf 0) :)
  | input n flags =>
    have input := spells_word_of_byte (Nat.lt_trans n.isLt (by decide))
    have fields := spells_byteOf 1 |>.then input |>.then (spells_bytesBE 2 flags.toNat) |>.then (spells_byteOf 0)
      |>.then (spells_byteOf 0)
    rw [← List.append_assoc (byteOf 1)] at fields
    exact fields
  | slot h flags life kind =>
    exact (spells_byteOf 2 |>.then (spells_handle h) |>.then (spells_bytesBE 2 _) |>.then (spells_byteOf _)
      |>.then (spells_byteOf _) :)

/-- The results of a management response spell the fields of R196 and R197. -/
theorem MgmtResult.spells (r : MgmtResult) : Spells r.fields r.bytes := by
  cases r with
  | none => rfl
  | newHandle h => exact spells_handle h
  | lifecycle | activeSource | lockState | level => exact spells_byteOf _
  | snapshot r => exact r.spells
  | unbound h role active => exact (spells_handle h |>.then (spells_byteOf _) |>.then (spells_byteOf _) :)
  | offset previous => exact spells_signedBE 3 previous
  | portReset q r e l =>
    exact (spells_byteOf q |>.then (spells_byteOf r) |>.then (spells_byteOf e) |>.then (spells_byteOf l) :)
  | port r => exact r.spells
  | retarget a old new => exact (spells_handle a |>.then (spells_handle old) |>.then (spells_handle new) :)
  | spliceExecuted a old new now =>
    exact (spells_byteOf 1 |>.then (spells_handle a) |>.then (spells_handle old) |>.then (spells_handle new)
      |>.then (spells_timeBytes now) :)
  | spliceArmed a new d =>
    have noOldTarget : Spells [wordField 0] Handle.null.bytes := spells_handle Handle.null
    exact (spells_byteOf 2 |>.then (spells_handle a) |>.then noOldTarget |>.then (spells_handle new)
      |>.then (spells_timeBytes d) :)
  | unsplice a new d origin =>
    exact (spells_handle a |>.then (spells_handle new) |>.then (spells_timeBytes d) |>.then (spells_byteOf _)
      |>.then (spells_byteOf _) :)
  | identity =>
    exact (spells_byteOf 0x71 |>.then (spells_byteOf 0x02) |>.then (spells_byteOf 255) |>.then (spells_byteOf 64)
      |>.then (spells_byteOf 48) |>.then (spells_byteOf 16) |>.then (spells_byteOf 4) |>.then (spells_byteOf 4) :)
  | time now => exact spells_timeBytes now
  | mask before after => exact (spells_bytesBE 2 before.toNat |>.then (spells_bytesBE 2 after.toNat) :)
  | notice r => exact r.spells

theorem MgmtResult.size_fields_notice (r : NoticeReport) : fieldsSize (MgmtResult.notice r).fields = 7 := by
  cases r <;> rfl

theorem Snapshot.size_recordFields_le (r : Snapshot) : fieldsSize r.recordFields ≤ 99 := by
  rcases r with ⟨now, n, ⟨g, content, f⟩, splice⟩
  rcases content with _ | ⟨ph, c | a⟩ | k
  · exact Nat.zero_le _
  · exact (c.size_fields _).le
  · exact (a.size_fields _ _).le.trans (by decide)
  · exact Nat.zero_le _

/-- The longest results are those of READ-RECORD on a CLOCK (R197). -/
theorem MgmtResult.size_fields_le (r : MgmtResult) : fieldsSize r.fields ≤ 111 := by
  cases r with
  | snapshot r =>
    have record := r.size_recordFields_le
    rw [MgmtResult.fields, r.size_fields]
    omega
  | notice r => exact (MgmtResult.size_fields_notice r).le.trans (by decide)
  | _ => simp [MgmtResult.fields]

theorem PortResult.size_fields_le (r : PortResult) : fieldsSize r.fields ≤ 26 := by
  cases r <;> simp [PortResult.fields]

/-! ## Payloads -/

theorem PortAnswer.bytes_ok (r : PortResult) : (PortAnswer.ok r).bytes = 0 :: 0 :: 0 :: r.bytes := rfl

theorem ResponseEntry.payload_response (code : PortCode) (tag : Byte) (a : PortAnswer) :
    (ResponseEntry.response code tag a).payload = BitVec.ofNat 8 code.code :: tag :: a.bytes := by
  simp [ResponseEntry.payload, byteOf_eq]

theorem ResponseEntry.payload_refused (code : PortCode) (tag : Byte) (st : Status) (f : Handle) :
    (ResponseEntry.response code tag (.refused st f)).payload =
      [BitVec.ofNat 8 code.code, tag, BitVec.ofNat 8 st.code, BitVec.ofNat 8 f.slot.val, f.gen] := by
  simp [ResponseEntry.payload_response, PortAnswer.bytes, byteOf_eq, Handle.bytes]

theorem ResponseEntry.payload_wakeDone (tag : Byte) (x : Ending) (b : WakeBody) :
    (ResponseEntry.wakeDone tag x b).payload = 0x14 :: tag :: BitVec.ofNat 8 x.code :: b.bytes := by
  simp [ResponseEntry.payload, byteOf_eq, PortCode.code]

theorem ResponseEntry.payload_spliceDone (tag : Byte) (x : Ending) (b : SpliceBody) :
    (ResponseEntry.spliceDone tag x b).payload = 0x19 :: tag :: BitVec.ofNat 8 x.code :: b.bytes := by
  simp [ResponseEntry.payload, byteOf_eq, PortCode.code]

theorem ResponseEntry.payload_revoked (k : LeaseNo) (h : Handle) :
    (ResponseEntry.revoked k h).payload = [0x4a, BitVec.ofNat 8 k.val, BitVec.ofNat 8 h.slot.val, h.gen] := by
  simp [ResponseEntry.payload, byteOf_eq, revokedCode, Handle.bytes]

theorem ResponseEntry.length_payload_wakeDone (tag : Byte) (x : Ending) (b : WakeBody) :
    (ResponseEntry.wakeDone tag x b).payload.length = 35 := by
  rw [payload_wakeDone, List.length_cons, List.length_cons, List.length_cons, length_of_spells b.spells, b.size_fields]

theorem ResponseEntry.length_payload_spliceDone (tag : Byte) (x : Ending) (b : SpliceBody) :
    (ResponseEntry.spliceDone tag x b).payload.length = 22 := by
  rw [payload_spliceDone, List.length_cons, List.length_cons, List.length_cons, length_of_spells b.spells, b.size_fields]

/-- The length byte of a response entry holds its length. -/
theorem ResponseEntry.length_payload_lt (e : ResponseEntry) : e.payload.length < 256 := by
  cases e with
  | response code tag a =>
    cases a with
    | refused st f => rw [payload_refused]; simp
    | ok r =>
      have results := r.size_fields_le
      rw [ResponseEntry.payload_response, PortAnswer.bytes_ok]
      simp only [List.length_cons, length_of_spells r.spells]
      omega
  | wakeDone tag x b => rw [ResponseEntry.length_payload_wakeDone]; decide
  | spliceDone tag x b => rw [ResponseEntry.length_payload_spliceDone]; decide
  | revoked k h => rw [ResponseEntry.payload_revoked]; simp

theorem ResponseEntry.bytes_eq (e : ResponseEntry) :
    e.bytes = BitVec.ofNat 8 e.classCode :: BitVec.ofNat 8 e.payload.length :: e.payload := by
  simp [ResponseEntry.bytes, byteOf_eq]

theorem HeldResponse.payload_refused (code : MgmtCode) (st : Status) (f : Handle) :
    HeldResponse.payload { code, answer := .refused st f } =
      [BitVec.ofNat 8 code.code, BitVec.ofNat 8 st.code, BitVec.ofNat 8 f.slot.val, f.gen] := by
  simp [HeldResponse.payload, byteOf_eq, Handle.bytes]

theorem HeldResponse.payload_ok (code : MgmtCode) (x : MgmtResult) :
    HeldResponse.payload { code, answer := .ok x } = BitVec.ofNat 8 code.code :: 0 :: 0 :: 0 :: x.bytes := by
  simp [HeldResponse.payload, byteOf_eq, Handle.bytes, Handle.null, Status.code]

/-- A held response has code, status and fault handle at least, and its length byte holds its length. -/
theorem HeldResponse.length_payload (r : HeldResponse) : 4 ≤ r.payload.length ∧ r.payload.length < 256 := by
  obtain ⟨code, ⟨st, f⟩ | x⟩ := r
  · rw [payload_refused]
    simp
  · have results := x.size_fields_le
    rw [payload_ok]
    simp only [List.length_cons, length_of_spells x.spells]
    omega

theorem HeldResponse.bytes_eq (r : HeldResponse) : r.bytes = BitVec.ofNat 8 r.payload.length :: r.payload := by
  simp [HeldResponse.bytes, byteOf_eq]

/-- Settles O35: the codes are tables, an entry is read off its payload, and lengths are the sizes of the fields spelt. -/
theorem responseLayout : Obligations.ResponseLayout := by
  refine ⟨⟨rfl, rfl, rfl, rfl, rfl, rfl, rfl, rfl, fun q => ?_, rfl, rfl, rfl, fun _ _ => ⟨rfl, rfl⟩, rfl, rfl, rfl⟩,
    fun e => ⟨BitVec.ofNat 8 e.classCode, e.payload, e.length_payload_lt, e.bytes_eq, ?_, ?_, ?_, ?_, ?_⟩,
    fun r => ⟨r.payload, r.length_payload.2, r.length_payload.1, r.bytes_eq, ?_, ?_⟩⟩
  · unfold Quality.code
    cases q.draining <;> rfl
  · rintro code tag st f rfl
    exact ⟨rfl, ResponseEntry.payload_refused code tag st f⟩
  · rintro code tag r rfl
    refine ⟨rfl, r.bytes, ResponseEntry.payload_response code tag (.ok r), r.spells, ?_⟩
    rw [length_of_spells r.spells]
    cases r <;> simp [PortResult.fields]
  · rintro tag x b rfl
    exact ⟨rfl, ResponseEntry.length_payload_wakeDone tag x b, b.bytes, ResponseEntry.payload_wakeDone tag x b, b.spells⟩
  · rintro tag x b rfl
    exact ⟨rfl, ResponseEntry.length_payload_spliceDone tag x b, b.bytes, ResponseEntry.payload_spliceDone tag x b, b.spells⟩
  · rintro k h rfl
    exact ⟨rfl, ResponseEntry.payload_revoked k h⟩
  · obtain ⟨code, answer⟩ := r
    rintro st f rfl
    exact HeldResponse.payload_refused code st f
  · obtain ⟨code, answer⟩ := r
    rintro x rfl
    refine ⟨x.bytes, HeldResponse.payload_ok code x, x.spells, ?_⟩
    rw [length_of_spells x.spells]
    cases x with
    | snapshot y =>
      rw [MgmtResult.fields, y.size_fields]
      rcases y with ⟨now, n, ⟨g, content, f⟩, splice⟩
      rcases content with _ | ⟨ph, c | a⟩ | k
      · rfl
      · exact congrArg (12 + ·) (c.size_fields _)
      · exact congrArg (12 + ·) (a.size_fields _ _)
      · rfl
    | notice r => exact MgmtResult.size_fields_notice r
    | _ => simp [MgmtResult.fields]

end Sys2Proof.Machine
end

section
/-! SUPPORT. Which commands reach the management port: no event of the other blocks does, and with it how the request state moves
under every command (R174, R177, R178, R180). -/

namespace Sys2Proof.Machine

variable {cmd : Instr} {t : State}

/-! ## Which operations leave the management port alone -/

section
variable (s : State)

/-- A fold of operations that keep the management port keeps it. -/
theorem foldl_mgmt {α : Type} (f : State → α → State) (kept : ∀ s x, (f s x).mgmt = s.mgmt) (l : List α) :
    (l.foldl f s).mgmt = s.mgmt := by
  induction l generalizing s with
  | nil => rfl
  | cons x l ih => rw [List.foldl_cons, ih, kept]

/-! ### The shared operations -/

@[simp] theorem State.endWake_mgmt (x : Ending) (e : DeadlineEntry) : (s.endWake x e).mgmt = s.mgmt := by
  unfold State.endWake; split <;> simp
@[simp] theorem State.endWakes_mgmt (h : Handle) (x : Ending) : (s.endWakes h x).mgmt = s.mgmt := by
  simp [State.endWakes, foldl_mgmt]
@[simp] theorem State.revokeLease_mgmt (h : Handle) (k : LeaseNo) : (State.revokeLease h s k).mgmt = s.mgmt := by
  unfold State.revokeLease; (repeat' split) <;> simp
@[simp] theorem State.revokeAll_mgmt (h : Handle) : (s.revokeAll h).mgmt = s.mgmt := by simp [State.revokeAll, foldl_mgmt]

/-! ### The Reference Intake -/

@[simp] theorem startFrame_mgmt (n : InputNo) : (startFrame n s).mgmt = s.mgmt := by
  unfold startFrame; split <;> simp
@[simp] theorem sampleInputBit_mgmt (n : InputNo) (b : Bool) : (sampleInputBit n b s).mgmt = s.mgmt := by
  unfold sampleInputBit; split <;> simp
@[simp] theorem takeFrame_mgmt (n : InputNo) (k : Nat) (bits : List Bool) : (takeFrame n k bits s).mgmt = s.mgmt := by
  unfold takeFrame; (repeat' split) <;> simp [holdSample]
@[simp] theorem endFrame_mgmt (n : InputNo) : (endFrame n s).mgmt = s.mgmt := by unfold endFrame; split <;> simp
@[simp] theorem unblockReceiver_mgmt (n : InputNo) : (unblockReceiver n s).mgmt = s.mgmt := by
  unfold unblockReceiver; split <;> simp

/-! ### The Deadline Unit -/

@[simp] theorem recomputeWake_mgmt (c : ClockRecord) (e : DeadlineEntry) : (recomputeWake c s e).mgmt = s.mgmt := by
  unfold recomputeWake; (repeat' split) <;> simp
@[simp] theorem recomputeAll_mgmt (h : Handle) (c : ClockRecord) : (recomputeAll h c s).mgmt = s.mgmt := by
  simp [recomputeAll, foldl_mgmt]
@[simp] theorem takeUpdateNotice_mgmt (i : SlotNo) : (takeUpdateNotice i s).mgmt = s.mgmt := by
  unfold takeUpdateNotice; (repeat' split) <;> simp
@[simp] theorem takeWakeExpiry_mgmt : (takeWakeExpiry s).mgmt = s.mgmt := by
  unfold takeWakeExpiry; (repeat' split) <;> simp [fireWake]
@[simp] theorem executeSplice_mgmt (e : DeadlineEntry) (o : Origin) (h n : Handle) :
    (executeSplice e o h n s).mgmt = s.mgmt := by
  unfold executeSplice; dsimp only; (repeat' split) <;> simp
@[simp] theorem takeSpliceExpiry_mgmt : (takeSpliceExpiry s).mgmt = s.mgmt := by
  unfold takeSpliceExpiry; (repeat' split) <;> simp
@[simp] theorem answerWake_mgmt (n : PortNo) (g : Byte) (h : Handle) (p : RefValue) (d : WakeDecision) :
    (answerWake n g h p d s).mgmt = s.mgmt := by
  unfold answerWake; split <;> simp
@[simp] theorem cancelEntry_mgmt (e : DeadlineEntry) (n : PortNo) : (cancelEntry e n s).mgmt = s.mgmt := by
  unfold cancelEntry; split <;> simp
@[simp] theorem cancelTag_mgmt (n : PortNo) (g x : Byte) : (cancelTag n g x s).mgmt = s.mgmt := by
  unfold cancelTag; split <;> simp

/-! ### The Estimator -/

@[simp] theorem applySample_mgmt (x : Sample) (c : ClockRecord) : (applySample x c s).mgmt = s.mgmt := by
  unfold applySample; dsimp only; split <;> simp
@[simp] theorem useSample_mgmt (x : Sample) : (useSample x s).mgmt = s.mgmt := by
  unfold useSample; dsimp only; (repeat' split) <;> simp
@[simp] theorem takeSample_mgmt : (takeSample s).mgmt = s.mgmt := by unfold takeSample; split <;> simp
@[simp] theorem enterStale_mgmt (h : Handle) : (enterStale h s).mgmt = s.mgmt := by simp [enterStale]
@[simp] theorem silenceExpired_mgmt (h : Handle) (c : ClockRecord) : (silenceExpired h c s).mgmt = s.mgmt := by
  unfold silenceExpired; (repeat' split) <;> simp
@[simp] theorem takeSilenceExpiry_mgmt (i : SlotNo) : (takeSilenceExpiry i s).mgmt = s.mgmt := by
  unfold takeSilenceExpiry; (repeat' split) <;> simp
@[simp] theorem takeHoldoverExpiry_mgmt (i : SlotNo) : (takeHoldoverExpiry i s).mgmt = s.mgmt := by
  unfold takeHoldoverExpiry; (repeat' split) <;> simp

/-! ### Drains, leases, retargeting and splicing -/

@[simp] theorem takeDrainExpiry_mgmt (i : SlotNo) : (takeDrainExpiry i s).mgmt = s.mgmt := by
  unfold takeDrainExpiry; (repeat' split) <;> simp
@[simp] theorem takeLease_mgmt (n : PortNo) (g : Byte) (h : Handle) : (takeLease n g h s).mgmt = s.mgmt := by
  unfold takeLease; (repeat' split) <;> simp [grantLease]
@[simp] theorem takeRelease_mgmt (n : PortNo) (g x : Byte) : (takeRelease n g x s).mgmt = s.mgmt := by
  unfold takeRelease; split <;> simp
@[simp] theorem moveAlias_mgmt (h : Handle) (a : AliasRecord) (n : Handle) : (moveAlias h a n s).mgmt = s.mgmt := by
  simp [moveAlias]
@[simp] theorem takeRetarget_mgmt (n : PortNo) (g : Byte) (h x : Handle) : (takeRetarget n g h x s).mgmt = s.mgmt := by
  unfold takeRetarget; (repeat' split) <;> simp
@[simp] theorem takeSplice_mgmt (n : PortNo) (g : Byte) (h x : Handle) (d : LocalTime) :
    (takeSplice n g h x d s).mgmt = s.mgmt := by
  unfold takeSplice; (repeat' split) <;> simp [armSplice]
@[simp] theorem takeUnsplice_mgmt (n : PortNo) (g : Byte) (h : Handle) : (takeUnsplice n g h s).mgmt = s.mgmt := by
  unfold takeUnsplice; (repeat' split) <;> simp [withdrawSplice]

/-- No port request reaches the management port. -/
theorem evaluate_mgmt (n : PortNo) (tag : Byte) (q : PortRequest) : (evaluate s n tag q).mgmt = s.mgmt := by
  cases q with
  | convert | invert | status | due => rfl
  | wake h p => exact answerWake_mgmt (s.serve n) n tag h p _
  | lease h => exact takeLease_mgmt (s.serve n) n tag h
  | release number => exact takeRelease_mgmt (s.serve n) n tag number
  | cancel wanted => exact cancelTag_mgmt (s.serve n) n tag wanted
  | retarget h k => exact takeRetarget_mgmt (s.serve n) n tag h k
  | splice h k d => exact takeSplice_mgmt (s.serve n) n tag h k d
  | unsplice h => exact takeUnsplice_mgmt (s.serve n) n tag h

end

/-! ## The request state under every command (R174) -/

variable {s : State}

/-- How a command moves the request state. -/
inductive RequestMove (c : Instr) (s t : State) : Prop
  /-- It stays. -/
  | kept (same : t.mgmt.req = s.mgmt.req)
  /-- An owner's event answers the request in progress (R178). -/
  | answered {x : Instr × MgmtCode} {q : MgmtRequest} (mem : x ∈ ownerEvents) (own : x.1 = c) (busy : s.mgmt.req = .inProgress q)
  /-- A request is taken in NONE (R177). -/
  | accepted {q : MgmtRequest} (idle : s.mgmt.req = .none) (busy : t.mgmt.req = .inProgress q)
  /-- A FETCH end, or a hard reset, leaves NONE (R174, R180). -/
  | freed (own : c = .mgmtFetchEnd ∨ c = .hardReset) (idle : t.mgmt.req = .none)

theorem requestMove_of_taken {s' : State} (move : RequestMove cmd s s') (e : taken s s' = .next t) :
    RequestMove cmd s t := by
  unfold taken at e
  split at e <;> cases e
  · exact .kept rfl
  · exact move

theorem requestMove_selectMgmt : RequestMove cmd s (selectMgmt s) := by
  refine .kept ?_
  unfold selectMgmt
  split <;> rfl

theorem completeMgmtFetchKind_req (m : MgmtPort) : (completeMgmtFetchKind m).req = m.req := by
  unfold completeMgmtFetchKind
  split <;> rfl

theorem unblockMgmt_req (m : MgmtPort) : (unblockMgmt m).req = m.req := by
  unfold unblockMgmt
  split <;> rfl

theorem requestMove_takeMgmtRequest (q : MgmtRequest) :
    RequestMove cmd s (s.putMgmt { takeMgmtRequest q s.mgmt with tx := .idle }) := by
  cases idle : s.mgmt.req with
  | none => exact .accepted (q := q) idle (by simp [State.putMgmt, takeMgmtRequest, idle])
  | inProgress | held => exact .kept (by simp [State.putMgmt, takeMgmtRequest, idle])

theorem requestMove_endMgmtRequest : RequestMove cmd s (s.putMgmt (endMgmtRequest s.mgmt)) := by
  unfold endMgmtRequest
  split
  · exact .kept rfl
  · exact .kept rfl
  · split
    · exact .kept rfl
    · exact requestMove_takeMgmtRequest _
  all_goals exact .kept rfl

theorem requestMove_endMgmtFetch : RequestMove .mgmtFetchEnd s (s.putMgmt (endMgmtFetch s.mgmt)) := by
  unfold endMgmtFetch
  split
  next st k sel _ =>
    cases completes : mgmtFetchCompletes k sel with
    | true => exact .freed (.inl rfl) rfl
    | false => exact .kept rfl
  all_goals exact .kept rfl

/-- Every command is one of these. -/
theorem exec_requestMove (e : exec cmd s = .next t) : RequestMove cmd s t := by
  by_cases owners : cmd ∈ ownerEvents.map Prod.fst
  · obtain ⟨x, mem, rfl⟩ := List.mem_map.1 owners
    obtain rfl | ⟨q, asked, -, -⟩ := exec_owner_command mem e
    · exact .kept rfl
    · exact .answered mem rfl asked.2
  by_cases evaluates : cmd ∈ evaluations.map Prod.fst
  · obtain ⟨x, mem, rfl⟩ := List.mem_map.1 evaluates
    obtain rfl | ⟨n, tag, q, -, rfl⟩ := exec_evaluation mem e
    · exact .kept rfl
    · exact .kept (congrArg MgmtPort.req (evaluate_mgmt s n tag q))
  have other {s' : State} (same : s'.mgmt = s.mgmt) (e : taken s s' = .next t) : RequestMove cmd s t :=
    requestMove_of_taken (.kept (congrArg MgmtPort.req same)) e
  have edge {m : MgmtPort} (same : m.req = s.mgmt.req) (e : taken s (s.putMgmt m) = .next t) : RequestMove cmd s t :=
    requestMove_of_taken (s' := s.putMgmt m) (.kept same) e
  cases cmd with
  | lclkTick => exact other (s' := { s with lt := s.lt + 1 }) rfl e
  | hardReset =>
    cases e
    exact .freed (.inr rfl) rfl
  | resetRelease a b m =>
    cases e
    refine .kept ?_
    split <;> rfl
  | frameStart n => exact other (startFrame_mgmt s n) e
  | receiverUnblock n => exact other (unblockReceiver_mgmt s n) e
  | frameEnd n => exact other (endFrame_mgmt s n) e
  | inputBitSampled n b => exact other (sampleInputBit_mgmt s n b) e
  | sampleTake => exact other (takeSample_mgmt s) e
  | silenceExpiry i => exact other (takeSilenceExpiry_mgmt s i) e
  | holdoverExpiry i => exact other (takeHoldoverExpiry_mgmt s i) e
  | updateNotice i => exact other (takeUpdateNotice_mgmt s i) e
  | wakeExpiry => exact other (takeWakeExpiry_mgmt s) e
  | spliceExpiry => exact other (takeSpliceExpiry_mgmt s) e
  | drainExpiry i => exact other (takeDrainExpiry_mgmt s i) e
  | querySelect n | queryFetchSelect n | queryRequestEnd n | queryFetchEnd n | queryPortUnblock n =>
    exact other (State.updPort_mgmt s n _) e
  | queryBitSampled n b => exact other (State.updPort_mgmt s n _) e
  | mgmtSelect => exact requestMove_of_taken requestMove_selectMgmt e
  | mgmtBitSampled b => exact edge (m := sampleMgmtBit b s.mgmt) rfl e
  | mgmtFetchSelect => exact edge (completeMgmtFetchKind_req s.mgmt) e
  | mgmtPortUnblock => exact edge (unblockMgmt_req s.mgmt) e
  | mgmtRequestEnd => exact requestMove_of_taken requestMove_endMgmtRequest e
  | mgmtFetchEnd => exact requestMove_of_taken requestMove_endMgmtFetch e
  | convert | invert | status | due | wake | lease | release | cancel | retarget | splice | unsplice =>
    exact absurd (by decide) evaluates
  | _ => exact absurd (by decide) owners

/-! ## MBUSY, MREADY and MRDY (R174) -/

theorem busy_iff {q : RequestState} : q.busy = true ↔ ∃ r, q = .inProgress r := by
  cases q <;> simp [RequestState.busy]

theorem ready_iff {q : RequestState} : q.ready = true ↔ ∃ r, q = .held r := by
  cases q <;> simp [RequestState.ready]

theorem mgmtReady_iff : mgmtReady s = true ↔ s.rstLow = false ∧ ∃ r, s.mgmt.req = .held r := by
  rw [mgmtReady, Bool.and_eq_true, Bool.not_eq_true', ready_iff]

/-- While RST_N is low no request is held or in progress (R174). -/
theorem req_of_low (holds : ResetHolds s) (low : s.rstLow = true) : s.mgmt.req = .none := by
  rw [holds low]
  rfl

/-- MRDY rises at an owner's event alone. -/
theorem mgmtReady_rises (parts : PartsLegal s) (e : exec cmd s = .next t) (before : mgmtReady s = false)
    (after : mgmtReady t = true) : ∃ x ∈ ownerEvents, x.1 = cmd := by
  obtain ⟨-, r, held⟩ := mgmtReady_iff.1 after
  cases exec_requestMove e with
  | kept same =>
    have held_before : s.mgmt.req = .held r := same.symm.trans held
    have low : s.rstLow = true := by
      by_contra high
      rw [mgmtReady_iff.2 ⟨by simpa using high, r, held_before⟩] at before
      cases before
    rw [req_of_low parts.2 low] at held_before
    cases held_before
  | answered mem own => exact ⟨_, mem, own⟩
  | accepted _ busy => rw [busy] at held; cases held
  | freed _ idle => rw [idle] at held; cases held

/-- MRDY falls at a FETCH end or a hard reset alone. -/
theorem mgmtReady_falls (e : exec cmd s = .next t) (before : mgmtReady s = true) (after : mgmtReady t = false) :
    cmd = .mgmtFetchEnd ∨ cmd = .hardReset := by
  obtain ⟨high, r, held⟩ := mgmtReady_iff.1 before
  cases exec_requestMove e with
  | kept same =>
    by_contra others
    have still := mgmtReady_iff.2 ⟨exec_high e (not_or.1 others).2 high, r, same.trans held⟩
    rw [after] at still
    cases still
  | answered _ _ busy => rw [busy] at held; cases held
  | accepted idle _ => rw [idle] at held; cases held
  | freed own _ => exact own

end Sys2Proof.Machine
end

section
/-! SUPPORT. The lengths of management request frames (R194, R195). -/

namespace Sys2Proof.Machine

variable {code : Byte} {body : List Byte} {c : MgmtCode}

/-! ## The changes of a CONFIGURE (R195) -/

/-- Bytes in fives read as changes. -/
theorem readChanges_of_length {n : Nat} (fives : body.length = 5 * n) : ∃ cs, readChanges body = some cs := by
  induction n generalizing body with
  | zero => exact ⟨[], by rw [List.length_eq_zero_iff.1 fives]; rfl⟩
  | succ n ih =>
    match body, fives with
    | id :: v3 :: v2 :: v1 :: v0 :: rest, fives =>
      obtain ⟨cs, read⟩ := ih (body := rest) (by simp only [List.length_cons] at fives; omega)
      exact ⟨_, by rw [readChanges, read]; rfl⟩

theorem length_of_readChanges {cs : List Change} (read : readChanges body = some cs) : body.length = 5 * cs.length := by
  induction body using readChanges.induct generalizing cs with
  | case1 => cases read; rfl
  | case2 id v3 v2 v1 v0 rest ih =>
    rw [readChanges] at read
    obtain ⟨cs, others, rfl⟩ := Option.map_eq_some_iff.1 read
    have length := ih others
    simp only [List.length_cons]
    omega
  | case3 body notNil notFive =>
    rw [readChanges] at read
    · cases read
    all_goals assumption

/-! ## The table of R194 -/

/-- The bytes of a request's body; those of a CONFIGURE's handle. -/
def MgmtCode.bodyLength : MgmtCode → Nat
  | .createClock | .readIdentity | .readTime | .nextNotice | .purge => 0
  | .readRecord | .portReset | .readPort => 1
  | .createAlias | .configure | .enable | .setPortLevel | .unsplice | .setMask => 2
  | .retire | .unbind | .selectSource => 3
  | .setInputOffset | .retarget => 4
  | .bind => 6
  | .splice => 10
  | .setAnchor => 11

/-- The lengths a request's body may have: a CONFIGURE has its changes, of five bytes each, after its handle (R195). -/
def MgmtCode.HasBody (c : MgmtCode) (n : Nat) : Prop :=
  if c = .configure then ∃ k, n = c.bodyLength + 5 * k else n = c.bodyLength

theorem MgmtCode.hasBody_iff (other : c ≠ .configure) {n : Nat} : c.HasBody n ↔ n = c.bodyLength := by
  rw [MgmtCode.HasBody, if_neg other]

theorem MgmtCode.hasBody_configure {n : Nat} : MgmtCode.configure.HasBody n ↔ ∃ k, n = 2 + 5 * k := by
  rw [MgmtCode.HasBody, if_pos rfl]
  rfl

/-- The codes whose frames have one length. -/
def fixedCodes : List MgmtCode := (ownerEvents.map Prod.snd).filter (· ≠ .configure)

theorem mem_fixedCodes : c ∈ fixedCodes ↔ c ≠ .configure := by cases c <;> decide

/-- The table of R194: codes with the lengths of their frames, a CONFIGURE with at most 14 changes. -/
def mgmtFrames : List (Nat × Nat) :=
  fixedCodes.map (fun c => (c.code, c.bodyLength + 2)) ++ (List.range 15).map fun k => (0x42, 4 + 5 * k)

/-- Within the longest frame the table has just the lengths a body may have. -/
theorem mem_mgmtFrames {x n : Nat} (short : n ≤ 72) : (x, n + 2) ∈ mgmtFrames ↔ ∃ c : MgmtCode, x = c.code ∧ c.HasBody n := by
  rw [mgmtFrames, List.mem_append]
  constructor
  · rintro (mem | mem)
    · obtain ⟨c, fixed, row⟩ := List.mem_map.1 mem
      obtain ⟨rfl, length⟩ := Prod.mk.inj row
      exact ⟨c, rfl, (MgmtCode.hasBody_iff (mem_fixedCodes.1 fixed)).2 (Nat.add_right_cancel length).symm⟩
    · obtain ⟨k, -, row⟩ := List.mem_map.1 mem
      obtain ⟨rfl, length⟩ := Prod.mk.inj row
      exact ⟨.configure, rfl, MgmtCode.hasBody_configure.2 ⟨k, by omega⟩⟩
  · rintro ⟨c, rfl, length⟩
    by_cases fixed : c = .configure
    · subst fixed
      obtain ⟨k, rfl⟩ := MgmtCode.hasBody_configure.1 length
      exact .inr (List.mem_map.2 ⟨k, List.mem_range.2 (by omega), Prod.ext rfl (by dsimp only; omega)⟩)
    · rw [(MgmtCode.hasBody_iff fixed).1 length]
      exact .inl (List.mem_map.2 ⟨c, mem_fixedCodes.2 fixed, rfl⟩)

/-! ## Reading a frame (R177, R194) -/

/-- A body of a length its code allows reads as a request of the code. -/
theorem readMgmtBody_of_hasBody (c : MgmtCode) (length : c.HasBody body.length) :
    ∃ r, readMgmtBody (BitVec.ofNat 8 c.code) body = some r ∧ r.code = c := by
  by_cases changes : c = .configure
  · subst changes
    obtain ⟨k, length⟩ := MgmtCode.hasBody_configure.1 length
    match body, length with
    | [], length => simp only [List.length_nil] at length; omega
    | [_], length => simp only [List.length_singleton] at length; omega
    | s :: g :: rest, length =>
      obtain ⟨cs, read⟩ := readChanges_of_length (body := rest) (n := k) (by simp only [List.length_cons] at length; omega)
      exact ⟨.configure (handleOfBytes s g) cs, congrArg (Option.map _) read, rfl⟩
  rw [MgmtCode.hasBody_iff changes] at length
  cases c with
  | configure => exact absurd rfl changes
  | createClock | readIdentity | readTime | nextNotice | purge =>
    match body, length with
    | [], _ => exact ⟨_, rfl, rfl⟩
  | readRecord | portReset | readPort =>
    match body, length with
    | [_], _ => exact ⟨_, rfl, rfl⟩
  | createAlias | enable | setPortLevel | unsplice | setMask =>
    match body, length with
    | [_, _], _ => exact ⟨_, rfl, rfl⟩
  | retire | unbind | selectSource =>
    match body, length with
    | [_, _, _], _ => exact ⟨_, rfl, rfl⟩
  | setInputOffset | retarget =>
    match body, length with
    | [_, _, _, _], _ => exact ⟨_, rfl, rfl⟩
  | bind =>
    match body, length with
    | [_, _, _, _, _, _], _ => exact ⟨_, rfl, rfl⟩
  | splice =>
    match body, length with
    | [_, _, _, _, _, _, _, _, _, _], _ => exact ⟨_, rfl, rfl⟩
  | setAnchor =>
    match body, length with
    | [_, _, _, _, _, _, _, _, _, _, _], _ => exact ⟨_, rfl, rfl⟩

/-- Whatever reads as a request has its code, and a length its code allows. -/
theorem readMgmtBody_some {r : MgmtRequest} (e : readMgmtBody code body = some r) :
    code = BitVec.ofNat 8 r.code.code ∧ r.code.HasBody body.length := by
  unfold readMgmtBody at e
  iterate 2
    rcases some_of_ite e with ⟨rfl, read⟩ | e
    · split at read
      all_goals cases read
      exact ⟨rfl, (MgmtCode.hasBody_iff (by nofun)).2 rfl⟩
  rcases some_of_ite e with ⟨rfl, read⟩ | e
  · split at read
    next =>
      obtain ⟨cs, listed, rfl⟩ := Option.map_eq_some_iff.1 read
      refine ⟨rfl, MgmtCode.hasBody_configure.2 ⟨cs.length, ?_⟩⟩
      simp only [List.length_cons, length_of_readChanges listed]
      omega
    · cases read
  iterate 19
    rcases some_of_ite e with ⟨rfl, read⟩ | e
    · split at read
      all_goals cases read
      exact ⟨rfl, (MgmtCode.hasBody_iff (by nofun)).2 rfl⟩
  cases e

theorem MgmtCode.toNat_ofNat_code (c : MgmtCode) : (BitVec.ofNat 8 c.code).toNat = c.code := by cases c <;> rfl

/-- A body within the longest frame reads as a request exactly when its code and its frame's length stand in the table. -/
theorem readMgmtBody_eq_some_iff (short : body.length ≤ 72) :
    (∃ r, readMgmtBody code body = some r ∧ r.code.code = code.toNat) ↔ (code.toNat, body.length + 2) ∈ mgmtFrames := by
  rw [mem_mgmtFrames short]
  constructor
  · rintro ⟨r, read, named⟩
    exact ⟨r.code, named.symm, (readMgmtBody_some read).2⟩
  · rintro ⟨c, named, length⟩
    have own : BitVec.ofNat 8 c.code = code := BitVec.eq_of_toNat_eq (c.toNat_ofNat_code.trans named.symm)
    obtain ⟨r, read, rfl⟩ := readMgmtBody_of_hasBody c length
    exact ⟨r, own ▸ read, named.symm⟩

theorem readMgmtBody_eq_none (short : body.length ≤ 72) (other : (code.toNat, body.length + 2) ∉ mgmtFrames) :
    readMgmtBody code body = none := by
  rw [Option.eq_none_iff_forall_ne_some]
  intro r read
  refine other ((readMgmtBody_eq_some_iff short).1 ⟨r, read, ?_⟩)
  rw [(readMgmtBody_some read).1, r.code.toNat_ofNat_code]

theorem readMgmtFrame_short {bs : List Byte} (short : bs.length < 2) : readMgmtFrame bs = none := by
  match bs, short with
  | [], _ => rfl
  | [_], _ => rfl

theorem readMgmtFrame_cons (code : Byte) (body : List Byte) : readMgmtFrame (0xa1 :: code :: body) = readMgmtBody code body := by
  unfold readMgmtFrame
  exact if_pos rfl

end Sys2Proof.Machine
end

section
/-! SUPPORT. The edges of the management port (R174 to R180, R191): its status byte, one bit of a transaction, and the ends of a
REQUEST and of a FETCH. -/

namespace Sys2Proof.Machine

variable {s : State} {m : MgmtPort} {st : Byte} {bits : List Bool} {k : Nat} {x b : Bool} {r : MgmtRequest}

/-! ## The status byte (R176, R191) -/

theorem attentionPin_high (high : s.rstLow = false) : attentionPin s = s.attention := by
  unfold attentionPin
  rw [high]
  rfl

/-- The four items stand in the upper half of the byte, and nothing in the lower. -/
theorem mgmtStatusByte_items (s : State) :
    s.mgmtStatusByte.getLsbD 7 = s.mgmt.req.busy ∧ s.mgmtStatusByte.getLsbD 6 = s.mgmt.req.ready ∧
    s.mgmtStatusByte.getLsbD 5 = s.mgmt.collide ∧ s.mgmtStatusByte.getLsbD 4 = s.attention ∧
    s.mgmtStatusByte.toNat % 16 = 0 := by
  have busy := s.mgmt.req.busy.toNat_le
  have ready := s.mgmt.req.ready.toNat_le
  have collide := s.mgmt.collide.toNat_le
  have attention := s.attention.toNat_le
  refine ⟨getLsbD_ofNat_eight (by omega) (by omega), getLsbD_ofNat_eight (by omega) (by omega),
    getLsbD_ofNat_eight (by omega) (by omega), getLsbD_ofNat_eight (by omega) (by omega), ?_⟩
  unfold State.mgmtStatusByte
  rw [BitVec.toNat_ofNat]
  omega

/-! ## The edges as changes of the port -/

theorem sample_requestKind {σ : Type} {longest : Nat} {sel : Option σ} (seven : bits.length = 7)
    (request : bits ++ [b] = bitsOfByte 0xa1) :
    (Transaction.kind st bits).sample longest sel b = .request st (bits ++ [b]) 8 false := by
  have right : bits ++ [b] = bitsOfByte requestKind := request
  rw [sample_eighth seven, right, if_neg (by decide)]
  rfl

/-- A kind byte that is neither a FETCH's nor a REQUEST's makes a malformed REQUEST (R175). -/
theorem sample_unknownKind {σ : Type} {longest : Nat} {sel : Option σ} (seven : bits.length = 7)
    (fetch : bits ++ [b] ≠ bitsOfByte 0xa2) (request : bits ++ [b] ≠ bitsOfByte 0xa1) :
    (Transaction.kind st bits).sample longest sel b = .request st (bits ++ [b]) 8 true := by
  have broken : bits ++ [b] ≠ bitsOfByte requestKind := request
  refine (sample_eighth seven).trans ((if_neg fetch).trans ?_)
  rw [decide_eq_true broken]

theorem exec_mgmtBitSampled {y y' : Transaction HeldResponse} (high : s.rstLow = false) (tx : s.mgmt.tx = y)
    (e : y.sample 592 s.mgmt.req.selection b = y') : exec (.mgmtBitSampled b) s = .next (s.putMgmtTx y') := by
  refine exec_mgmtEdge (m := sampleMgmtBit b s.mgmt) rfl high ?_
  unfold sampleMgmtBit
  rw [tx]
  exact congrArg (fun z => { s.mgmt with tx := z }) e

theorem exec_mgmtFetchSelect (high : s.rstLow = false)
    (tx : s.mgmt.tx = .kind st [true, false, true, false, false, false, true]) :
    exec .mgmtFetchSelect s = .next (s.putMgmtTx (.fetch st 0 s.mgmt.req.selection)) := by
  refine exec_mgmtEdge (m := completeMgmtFetchKind s.mgmt) rfl high ?_
  unfold completeMgmtFetchKind sampleMgmtBit
  rw [tx]
  exact (if_pos rfl).trans (congrArg (fun z => { s.mgmt with tx := z }) ((sample_eighth rfl).trans (if_pos rfl)))

theorem exec_mgmtPortUnblock (high : s.rstLow = false) (tx : s.mgmt.tx = .blocked) :
    exec .mgmtPortUnblock s = .next (s.putMgmtTx .idle) := by
  refine exec_mgmtEdge (m := unblockMgmt s.mgmt) rfl high ?_
  unfold unblockMgmt
  rw [tx]

/-! ## The end of a REQUEST (R175, R177) -/

theorem judgeMgmtFrame_of_malformed (broken : x = true ∨ k % 8 ≠ 0 ∨ k ≠ bits.length) : judgeMgmtFrame bits k x = none := by
  refine if_pos ?_
  simpa [or_assoc] using broken

theorem exec_mgmtRequestEnd_of_no_clock (high : s.rstLow = false) (tx : s.mgmt.tx = .kind st []) :
    exec .mgmtRequestEnd s = .next (s.putMgmtTx .idle) := by
  refine exec_mgmtEdge (m := endMgmtRequest s.mgmt) rfl high ?_
  unfold endMgmtRequest
  rw [tx]

/-- A transaction that breaks off in its kind byte is malformed (R177). -/
theorem exec_mgmtRequestEnd_of_broken (high : s.rstLow = false) (tx : s.mgmt.tx = .kind st (b :: bits)) :
    exec .mgmtRequestEnd s = .next (s.putMgmt { s.mgmt with tx := .idle, collide := true }) := by
  refine exec_mgmtEdge (m := endMgmtRequest s.mgmt) rfl high ?_
  unfold endMgmtRequest
  rw [tx]

theorem exec_mgmtRequestEnd_of_none (high : s.rstLow = false) (tx : s.mgmt.tx = .request st bits k x)
    (none_ : judgeMgmtFrame bits k x = none) :
    exec .mgmtRequestEnd s = .next (s.putMgmt { s.mgmt with tx := .idle, collide := true }) := by
  refine exec_mgmtEdge (m := endMgmtRequest s.mgmt) rfl high ?_
  unfold endMgmtRequest
  rw [tx]
  dsimp only
  rw [none_]

theorem exec_mgmtRequestEnd_of_some (high : s.rstLow = false) (tx : s.mgmt.tx = .request st bits k x)
    (request : judgeMgmtFrame bits k x = some r) :
    exec .mgmtRequestEnd s = .next (s.putMgmt { takeMgmtRequest r s.mgmt with tx := .idle }) := by
  refine exec_mgmtEdge (m := endMgmtRequest s.mgmt) rfl high ?_
  unfold endMgmtRequest
  rw [tx]
  dsimp only
  rw [request]

theorem takeMgmtRequest_of_idle (idle : m.req = .none) : takeMgmtRequest r m = { m with req := .inProgress r } := by
  unfold takeMgmtRequest
  rw [idle]

theorem takeMgmtRequest_of_busy (busy : m.req ≠ .none) : takeMgmtRequest r m = { m with collide := true } := by
  unfold takeMgmtRequest
  split
  next idle => exact absurd idle busy
  all_goals rfl

/-! ## The end of a FETCH (R180) -/

theorem exec_mgmtFetchEnd {sel : Option HeldResponse} {q : RequestState} (high : s.rstLow = false)
    (tx : s.mgmt.tx = .fetch st k sel) (freed : (if mgmtFetchCompletes k sel then .none else s.mgmt.req) = q) :
    exec .mgmtFetchEnd s =
      .next (s.putMgmt { s.mgmt with tx := .idle, req := q, collide := s.mgmt.collide && !st.getLsbD 5 }) := by
  refine exec_mgmtEdge (m := endMgmtFetch s.mgmt) rfl high ?_
  unfold endMgmtFetch
  rw [tx, ← freed]
  rfl

/-- Settles O46: MRDY by how commands move the request state, and each edge by what it makes of the port. -/
theorem managementTransactions : Obligations.ManagementTransactions := by
  refine ⟨fun s => mgmtReady_iff, fun c s t parts e => ⟨mgmtReady_rises parts e, mgmtReady_falls e⟩, ?_⟩
  intro s high becomes m held collides lengths
  have selection : held = s.mgmt.req.selection := by
    dsimp only [held, m]
    cases s.mgmt.req <;> rfl
  have table : lengths = mgmtFrames := rfl
  rw [selection, table]
  refine ⟨fun tx => ?_, fun st bits b tx => ⟨fun few => ?_, fun seven => ⟨fun fetch => ?_,
      fun request => exec_mgmtBitSampled high tx (sample_requestKind seven request),
      fun other wrong => exec_mgmtBitSampled high tx (sample_unknownKind seven other wrong)⟩⟩,
    fun st bits k x b tx => exec_mgmtBitSampled high tx rfl,
    fun st k sel b tx => exec_mgmtBitSampled high tx rfl, fun st tx => exec_mgmtFetchSelect high tx,
    exec_mgmtPortUnblock high, fun st tx => exec_mgmtRequestEnd_of_no_clock high tx,
    fun st b bits tx => exec_mgmtRequestEnd_of_broken high tx, fun st bits k x tx => ⟨fun broken => ?_, ?_⟩,
    fun st k sel tx => ⟨?_, ?_, ?_⟩⟩
  · obtain ⟨busy, ready, collide, attention, low⟩ := mgmtStatusByte_items s
    exact ⟨s.mgmtStatusByte, exec_mgmtSelect high tx, busy ▸ busy_iff, ready ▸ ready_iff, collide,
      attention.trans (attentionPin_high high).symm, low⟩
  · exact exec_mgmtBitSampled high tx (sample_kind few)
  · exact exec_mgmtBitSampled high tx ((sample_eighth seven).trans (if_pos fetch))
  · have tooLong : 592 < k ∧ bits.length ≤ 592 → k ≠ bits.length := by omega
    exact exec_mgmtRequestEnd_of_none high tx (judgeMgmtFrame_of_malformed (broken.imp_right (Or.imp_right tooLong)))
  · rintro bs rfl rfl rfl
    have judged := judgeMgmtFrame_frameBits bs
    refine ⟨fun short => exec_mgmtRequestEnd_of_none high tx (judged.trans (readMgmtFrame_short short)), ?_⟩
    rintro code body rfl fits
    rw [readMgmtFrame_cons] at judged
    have short : body.length ≤ 72 := by
      rw [List.length_cons, List.length_cons] at fits
      omega
    refine ⟨fun other => exec_mgmtRequestEnd_of_none high tx (judged.trans (readMgmtBody_eq_none short other)), fun row => ?_⟩
    obtain ⟨r, read, named⟩ := (readMgmtBody_eq_some_iff short).2 row
    have ended := exec_mgmtRequestEnd_of_some high tx (judged.trans read)
    refine ⟨r, named, fun idle => ended.trans ?_, fun busy => ended.trans ?_⟩
    · rw [takeMgmtRequest_of_idle idle]
      rfl
    · rw [takeMgmtRequest_of_busy busy]
      rfl
  · rintro r rfl whole
    exact exec_mgmtFetchEnd high tx (if_pos (decide_eq_true whole))
  · rintro r rfl part
    exact exec_mgmtFetchEnd high tx (if_neg (by simpa [mgmtFetchCompletes] using part))
  · rintro rfl
    exact exec_mgmtFetchEnd high tx (if_neg nofun)

end Sys2Proof.Machine
end

section
/-! SUPPORT. Request frames read back (R189, R192, R194, R195): each field is what the partner sent, each body of fields is the
request it was made from, and the bits R189 ignores are not read. -/

namespace Sys2Proof.Machine

/-! ## Fields read back (R189) -/

theorem handleOfBytes_bytes (h : Handle) : handleOfBytes (BitVec.ofNat 8 h.slot.val) h.gen = h :=
  congrArg (fun slot => { slot, gen := h.gen : Handle }) (Fin.ext (Nat.mod_eq_of_lt h.slot.isLt))

/-- An unsigned field of enough bytes is read as the number sent in it. -/
theorem ofNat_natOfBytes_bytesBE {w k : Nat} (room : 2 ^ w ≤ 256 ^ k) (x : BitVec w) :
    BitVec.ofNat w (natOfBytes (bytesBE k x.toNat)) = x := by
  rw [natOfBytes_bytesBE, Nat.mod_eq_of_lt (x.isLt.trans_le room), BitVec.ofNat_toNat, BitVec.setWidth_eq]

theorem localTimeOfBytes_timeBytes (t : LocalTime) : localTimeOfBytes (timeBytes t) = t :=
  ofNat_natOfBytes_bytesBE (by decide) t

theorem refValueOfBytes_rvBytes (v : RefValue) : refValueOfBytes (rvBytes v) = v :=
  ofNat_natOfBytes_bytesBE (by decide) v

theorem tagOfBytes_bytesBE (tag : StreamTag) : BitVec.ofNat 16 (natOfBytes (bytesBE 2 tag.toNat)) = tag :=
  ofNat_natOfBytes_bytesBE (by decide) tag

theorem kindsOfBytes_bytesBE (k : BitVec 14) : kindsOfBytes (bytesBE 2 k.toNat) = k :=
  ofNat_natOfBytes_bytesBE (by decide) k

/-- A signed field of `k` bytes is read as the number sent in it, wherever that lies in two's complement's range. -/
theorem signedOfBytes_signedBE {k : Nat} {x : Int} (bits : 0 < 8 * k) (low : -2 ^ (8 * k - 1) ≤ x)
    (high : x < 2 ^ (8 * k - 1)) : signedOfBytes (8 * k) (signedBE k x) = x := by
  have width : (256 : Nat) ^ k = 2 ^ (8 * k) := (Nat.pow_mul 2 8 k).symm
  have sent : BitVec.ofNat (8 * k) (natOfBytes (signedBE k x)) = BitVec.ofInt (8 * k) x := by
    apply BitVec.eq_of_toNat_eq
    have field : (256 : Int) ^ k = ((2 ^ (8 * k) : Nat) : Int) := by exact_mod_cast width
    rw [signedBE, natOfBytes_bytesBE, BitVec.toNat_ofNat, BitVec.toNat_ofInt, field, width, Nat.mod_mod, Nat.mod_eq_of_lt]
    have positive : (0 : Int) < ((2 ^ (8 * k) : Nat) : Int) := by positivity
    have := Int.emod_lt_of_pos x positive
    have := Int.emod_nonneg x positive.ne'
    omega
  rw [signedOfBytes, sent, BitVec.toInt_ofInt_eq_self bits low high]

theorem roleOfByte_byte (role : Role) : roleOfByte role.byte = role := by cases role <;> rfl

theorem modeOfByte_byte (m : RetireMode) : modeOfByte (if m = .immediate then 1 else 0) = m := by cases m <;> rfl

/-- One byte more at the end of a field. -/
theorem natOfBytes_snoc {n : Nat} {bs : List Byte} {x : BitVec n} (field : natOfBytes bs = x.toNat) (b : Byte) :
    natOfBytes (bs ++ [b]) = (x ++ b).toNat := by
  rw [natOfBytes_append, toNat_append_add, field]
  omega

/-- A six-byte field is its bytes side by side. -/
theorem localTimeOfBytes_six (t5 t4 t3 t2 t1 t0 : Byte) :
    localTimeOfBytes [t5, t4, t3, t2, t1, t0] = t5 ++ t4 ++ t3 ++ t2 ++ t1 ++ t0 := by
  have first : natOfBytes [t5] = t5.toNat := by simp [natOfBytes]
  have whole : natOfBytes [t5, t4, t3, t2, t1, t0] = (t5 ++ t4 ++ t3 ++ t2 ++ t1 ++ t0).toNat :=
    natOfBytes_snoc (natOfBytes_snoc (natOfBytes_snoc (natOfBytes_snoc (natOfBytes_snoc first t4) t3) t2) t1) t0
  rw [localTimeOfBytes, whole, BitVec.ofNat_toNat, BitVec.setWidth_eq]

/-- The notice set is the two bytes' lower 14 bits (R189). -/
theorem kindsOfBytes_two (k1 k0 : Byte) : kindsOfBytes [k1, k0] = (k1 ++ k0).setWidth 14 := by
  rw [← ofNat_natOfBytes_two, BitVec.setWidth_ofNat_of_le (by decide), kindsOfBytes]

/-- The changes of a CONFIGURE read back one after another (R195). -/
theorem readChanges_bytes (cs : List Change) : readChanges (cs.flatMap Change.bytes) = some cs := by
  induction cs with
  | nil => rfl
  | cons c cs ih =>
    have first : readChanges (c.bytes ++ cs.flatMap Change.bytes) = (readChanges (cs.flatMap Change.bytes)).map
        fun cs => { id := c.id, value := BitVec.ofNat 32 (natOfBytes (bytesBE 4 c.value.toNat)) } :: cs := rfl
    rw [List.flatMap_cons, first, ih, ofNat_natOfBytes_bytesBE (by decide)]
    rfl

/-! ## Port requests (R192) -/

/-- A port request's body, read under the request's code. -/
theorem readPortBody_body (r : PortRequest) : readPortBody (BitVec.ofNat 8 r.code.code) r.body = some r := by
  cases r with
  | convert h sel =>
    match sel with
    | .now => exact congrArg (fun h => some (PortRequest.convert h .now)) (handleOfBytes_bytes h)
    | .at t =>
      exact congrArg some (congrArg₂ PortRequest.convert (handleOfBytes_bytes h)
        (congrArg Selector.at (localTimeOfBytes_timeBytes t)))
  | invert h v => exact congrArg some (congrArg₂ PortRequest.invert (handleOfBytes_bytes h) (refValueOfBytes_rvBytes v))
  | due h p => exact congrArg some (congrArg₂ PortRequest.due (handleOfBytes_bytes h) (refValueOfBytes_rvBytes p))
  | wake h p => exact congrArg some (congrArg₂ PortRequest.wake (handleOfBytes_bytes h) (refValueOfBytes_rvBytes p))
  | status h => exact congrArg some (congrArg PortRequest.status (handleOfBytes_bytes h))
  | lease h => exact congrArg some (congrArg PortRequest.lease (handleOfBytes_bytes h))
  | unsplice h => exact congrArg some (congrArg PortRequest.unsplice (handleOfBytes_bytes h))
  | release | cancel => rfl
  | retarget a n => exact congrArg some (congrArg₂ PortRequest.retarget (handleOfBytes_bytes a) (handleOfBytes_bytes n))
  | splice a n t =>
    exact congrArg some (congr (congrArg₂ PortRequest.splice (handleOfBytes_bytes a) (handleOfBytes_bytes n))
      (localTimeOfBytes_timeBytes t))

theorem readPortFrame_frame (q : QueuedRequest) : readPortFrame q.frame = some q :=
  (readPortFrame_cons _ _ _).trans (by rw [readPortBody_body]; rfl)

theorem QueuedRequest.length_frame (q : QueuedRequest) : q.frame.length = q.request.code.bodyLength + 3 :=
  congrArg (· + 3) (readPortBody_some (readPortBody_body q.request)).2

/-! ## Management requests (R194, R195) -/

/-- A management request's body, read under the request's code, where its fields fit (R189). -/
theorem readMgmtBody_body {r : MgmtRequest} (fits : r.encodable = true) :
    readMgmtBody (BitVec.ofNat 8 r.code.code) r.body = some r := by
  cases r with
  | createClock | readIdentity | readTime | nextNotice | purge | readRecord | setPortLevel | portReset | readPort => rfl
  | createAlias h => exact congrArg some (congrArg MgmtRequest.createAlias (handleOfBytes_bytes h))
  | enable h => exact congrArg some (congrArg MgmtRequest.enable (handleOfBytes_bytes h))
  | unsplice h => exact congrArg some (congrArg MgmtRequest.unsplice (handleOfBytes_bytes h))
  | configure h cs =>
    have read : readMgmtBody 0x42 (h.bytes ++ cs.flatMap Change.bytes) = (readChanges (cs.flatMap Change.bytes)).map
      (.configure (handleOfBytes (BitVec.ofNat 8 h.slot.val) h.gen)) := rfl
    rwa [handleOfBytes_bytes, readChanges_bytes] at read
  | retire h m => exact congrArg some (congrArg₂ MgmtRequest.retire (handleOfBytes_bytes h) (modeOfByte_byte m))
  | selectSource h role =>
    exact congrArg some (congrArg₂ MgmtRequest.selectSource (handleOfBytes_bytes h) (roleOfByte_byte role))
  | bind i tag h role =>
    exact congrArg some (congr (congrArg₂ (MgmtRequest.bind i) (tagOfBytes_bytesBE tag) (handleOfBytes_bytes h))
      (roleOfByte_byte role))
  | unbind i tag => exact congrArg some (congrArg (MgmtRequest.unbind i) (tagOfBytes_bytesBE tag))
  | setInputOffset i o =>
    obtain ⟨low, high⟩ := of_decide_eq_true fits
    exact congrArg some (congrArg (MgmtRequest.setInputOffset i) (signedOfBytes_signedBE (k := 3) (by decide) low high))
  | setAnchor h rv trim =>
    obtain ⟨low, high⟩ := of_decide_eq_true fits
    exact congrArg some (congr (congrArg₂ MgmtRequest.setAnchor (handleOfBytes_bytes h) (refValueOfBytes_rvBytes rv))
      (signedOfBytes_signedBE (k := 4) (by decide) low high))
  | retarget a n => exact congrArg some (congrArg₂ MgmtRequest.retarget (handleOfBytes_bytes a) (handleOfBytes_bytes n))
  | splice a n t =>
    exact congrArg some (congr (congrArg₂ MgmtRequest.splice (handleOfBytes_bytes a) (handleOfBytes_bytes n))
      (localTimeOfBytes_timeBytes t))
  | setMask k => exact congrArg some (congrArg MgmtRequest.setMask (kindsOfBytes_bytesBE k))

theorem readMgmtFrame_frame {r : MgmtRequest} (fits : r.encodable = true) : readMgmtFrame r.frame = some r :=
  (readMgmtFrame_cons _ _).trans (readMgmtBody_body fits)

/-- The changes a request carries, five bytes each in its frame (R195): none but a CONFIGURE's. -/
def MgmtRequest.changes : MgmtRequest → List Change
  | .configure _ cs => cs
  | _ => []

theorem MgmtRequest.length_frame (r : MgmtRequest) : r.frame.length = r.code.bodyLength + 2 + 5 * r.changes.length := by
  cases r with
  | configure h cs =>
    have changes := length_of_readChanges (readChanges_bytes cs)
    have frame : (MgmtRequest.configure h cs).frame.length = 4 + (cs.flatMap Change.bytes).length := Nat.add_comm _ 4
    exact frame.trans (congrArg (4 + ·) changes)
  | _ => rfl

/-- The longest frame is that of a CONFIGURE with 14 changes (R194, R195). -/
theorem MgmtRequest.length_frame_le {r : MgmtRequest} (fits : r.encodable = true) : r.frame.length ≤ 74 := by
  rw [r.length_frame]
  cases r with
  | configure h cs =>
    have few : cs.length ≤ 14 := of_decide_eq_true fits
    exact Nat.add_le_add_left (Nat.mul_le_mul_left 5 few) 4
  | _ => simp [MgmtRequest.changes, MgmtRequest.code, MgmtCode.bodyLength]

/-- Settles O36: the reading of each frame is its fields read back, and the lengths are those of the tables of R192 and R194. -/
theorem requestFramesReadBack : Obligations.RequestFramesReadBack := by
  refine ⟨fun q => ⟨readPortFrame_frame q, ?_⟩, fun tag slot gen sel t5 t4 t3 t2 t1 t0 => ?_, fun _ _ _ => rfl,
    fun _ _ _ => rfl, fun input t1 t0 slot gen role => ?_, fun k1 k0 => ?_,
    fun r fits => ⟨readMgmtFrame_frame fits, MgmtRequest.length_frame_le fits, ?_⟩⟩
  · rw [q.length_frame]
    cases q.request <;> rfl
  · rw [← localTimeOfBytes_six]
    rfl
  · rw [← ofNat_natOfBytes_two]
    rfl
  · rw [← kindsOfBytes_two]
    rfl
  · rw [r.length_frame]
    cases r <;> rfl

end Sys2Proof.Machine
end

section
/-! SUPPORT. The queue of waiting commands (log entry 5): what the shared operations read of a state is not its queue, and what
they write leaves it. -/

namespace Sys2Proof.Machine

/-- The state with another queue of waiting commands (log entry 5). -/
def State.withQueue (s : State) (q : List Instr) : State := { s with pending := q }

section
variable (s : State) (q : List Instr)

@[simp] theorem State.withQueue_pending : s.withQueue s.pending = s := rfl

theorem State.ite_withQueue {p : Prop} [Decidable p] (a b : State) :
    (if p then a else b).withQueue q = if p then a.withQueue q else b.withQueue q := apply_ite (State.withQueue · q) p a b

/-! ## What is read of a state is not its queue -/

@[simp] theorem State.lt_withQueue : (s.withQueue q).lt = s.lt := rfl
@[simp] theorem State.bindings_withQueue : (s.withQueue q).bindings = s.bindings := rfl
@[simp] theorem State.deadlines_withQueue : (s.withQueue q).deadlines = s.deadlines := rfl
@[simp] theorem State.nextOrder_withQueue : (s.withQueue q).nextOrder = s.nextOrder := rfl
@[simp] theorem State.mgmt_withQueue : (s.withQueue q).mgmt = s.mgmt := rfl
@[simp] theorem State.mask_withQueue : (s.withQueue q).mask = s.mask := rfl
@[simp] theorem State.slot_withQueue (i : SlotNo) : (s.withQueue q).slot i = s.slot i := rfl
@[simp] theorem State.input_withQueue (i : InputNo) : (s.withQueue q).input i = s.input i := rfl
@[simp] theorem State.port_withQueue (n : PortNo) : (s.withQueue q).port n = s.port n := rfl
@[simp] theorem State.lease_withQueue (k : LeaseNo) : (s.withQueue q).lease k = s.lease k := rfl
@[simp] theorem State.handleOf_withQueue (i : SlotNo) : (s.withQueue q).handleOf i = s.handleOf i := rfl
@[simp] theorem State.current_withQueue (h : Handle) : (s.withQueue q).current h = s.current h := rfl
@[simp] theorem State.clock_withQueue (h : Handle) : (s.withQueue q).clock h = s.clock h := rfl
@[simp] theorem State.liveClock_withQueue (h : Handle) : (s.withQueue q).liveClock h = s.liveClock h := rfl
@[simp] theorem State.activeOf_withQueue (h : Handle) : (s.withQueue q).activeOf h = s.activeOf h := rfl
@[simp] theorem State.freeSlot_withQueue : (s.withQueue q).freeSlot = s.freeSlot := rfl
@[simp] theorem State.freeLease_withQueue : (s.withQueue q).freeLease = s.freeLease := rfl
@[simp] theorem State.leaseHeldBy_withQueue (n : PortNo) (b : Byte) : (s.withQueue q).leaseHeldBy n b = s.leaseHeldBy n b := rfl
@[simp] theorem State.leasesOf_withQueue (n : PortNo) : (s.withQueue q).leasesOf n = s.leasesOf n := rfl
@[simp] theorem State.binding_withQueue (i : InputNo) (g : StreamTag) : (s.withQueue q).binding i g = s.binding i g := rfl
@[simp] theorem State.roleBound_withQueue (h : Handle) (r : Role) : (s.withQueue q).roleBound h r = s.roleBound h r := rfl
@[simp] theorem State.listFull_withQueue : (s.withQueue q).listFull = s.listFull := rfl
@[simp] theorem State.pendingEntry_withQueue (a : AliasRecord) : (s.withQueue q).pendingEntry a = s.pendingEntry a := rfl
@[simp] theorem State.granted_withQueue : (s.withQueue q).granted = s.granted := rfl
@[simp] theorem State.inProgress_withQueue : (s.withQueue q).inProgress = s.inProgress := rfl
@[simp] theorem State.nextSample_withQueue : (s.withQueue q).nextSample = s.nextSample := rfl
@[simp] theorem State.noticedInput_withQueue : (s.withQueue q).noticedInput = s.noticedInput := rfl
@[simp] theorem State.noticedSlot_withQueue : (s.withQueue q).noticedSlot = s.noticedSlot := rfl
@[simp] theorem State.reportedHandle_withQueue (i : SlotNo) : (s.withQueue q).reportedHandle i = s.reportedHandle i := rfl
@[simp] theorem State.snapshot_withQueue (i : SlotNo) : (s.withQueue q).snapshot i = s.snapshot i := rfl
@[simp] theorem State.mgmtStatusByte_withQueue : (s.withQueue q).mgmtStatusByte = s.mgmtStatusByte := rfl
@[simp] theorem arrivalStamp_withQueue (n : InputNo) : arrivalStamp (s.withQueue q) n = arrivalStamp s n := rfl
@[simp] theorem switchRole_withQueue (h : Handle) (c : ClockRecord) : switchRole h c (s.withQueue q) = switchRole h c s := rfl
@[simp] theorem settledSource_withQueue (h : Handle) (r : Role) : settledSource (s.withQueue q) h r = settledSource s h r := rfl
@[simp] theorem resolve_withQueue (l : Nat) (u : UseKind) (b : Bool) (h : Handle) :
    resolve (s.withQueue q) l u b h = resolve s l u b h := rfl
@[simp] theorem decideWake_withQueue (n : PortNo) (h : Handle) (p : RefValue) :
    decideWake (s.withQueue q) n h p = decideWake s n h p := rfl
@[simp] theorem convertAnswer_withQueue (n : PortNo) (h : Handle) (sel : Selector) :
    convertAnswer (s.withQueue q) n h sel = convertAnswer s n h sel := rfl
@[simp] theorem invertAnswer_withQueue (n : PortNo) (h : Handle) (v : RefValue) :
    invertAnswer (s.withQueue q) n h v = invertAnswer s n h v := rfl
@[simp] theorem dueAnswer_withQueue (n : PortNo) (h : Handle) (p : RefValue) :
    dueAnswer (s.withQueue q) n h p = dueAnswer s n h p := rfl
@[simp] theorem statusAnswer_withQueue (n : PortNo) (h : Handle) :
    statusAnswer (s.withQueue q) n h = statusAnswer s n h := rfl
@[simp] theorem checkHandle_withQueue (h : Handle) : checkHandle (s.withQueue q) h = checkHandle s h := rfl
@[simp] theorem checkClock_withQueue (h : Handle) : checkClock (s.withQueue q) h = checkClock s h := rfl
@[simp] theorem checkBind_withQueue (i : Byte) (g : StreamTag) (h : Handle) (r : Role) :
    checkBind (s.withQueue q) i g h r = checkBind s i g h r := rfl
@[simp] theorem checkAliasFromPort_withQueue (l : Nat) (h : Handle) :
    checkAliasFromPort (s.withQueue q) l h = checkAliasFromPort s l h := rfl
@[simp] theorem checkAliasFromMgmt_withQueue (h : Handle) : checkAliasFromMgmt (s.withQueue q) h = checkAliasFromMgmt s h := rfl
@[simp] theorem checkMove_withQueue (h k : Handle) (x : Phase × AliasRecord) :
    checkMove (s.withQueue q) h k x = checkMove s h k x := rfl

/-! ## The shared operations -/

/-- A fold of operations that are blind to the queue is blind to it. -/
theorem foldl_withQueue {α : Type} (f : State → α → State) (blind : ∀ s q x, f (s.withQueue q) x = (f s x).withQueue q)
    (l : List α) : l.foldl f (s.withQueue q) = (l.foldl f s).withQueue q := by
  induction l generalizing s with
  | nil => rfl
  | cons x l ih => rw [List.foldl_cons, blind, ih, List.foldl_cons]

@[simp] theorem State.putSlot_withQueue (i : SlotNo) (x : Slot) : (s.withQueue q).putSlot i x = (s.putSlot i x).withQueue q := rfl
@[simp] theorem State.putContent_withQueue (i : SlotNo) (x : Content) :
    (s.withQueue q).putContent i x = (s.putContent i x).withQueue q := rfl
@[simp] theorem State.notify_withQueue (i : SlotNo) (x : NoticeSet) :
    (s.withQueue q).notify i x = (s.notify i x).withQueue q := rfl
@[simp] theorem State.create_withQueue (i : SlotNo) (r : Record) : (s.withQueue q).create i r = (s.create i r).withQueue q := rfl
@[simp] theorem State.updInput_withQueue (i : InputNo) (f : Input → Input) :
    (s.withQueue q).updInput i f = (s.updInput i f).withQueue q := rfl
@[simp] theorem State.notifyInput_withQueue (i : InputNo) (x : NoticeSet) :
    (s.withQueue q).notifyInput i x = (s.notifyInput i x).withQueue q := rfl
@[simp] theorem State.putLease_withQueue (k : LeaseNo) (l : Option Lease) :
    (s.withQueue q).putLease k l = (s.putLease k l).withQueue q := rfl
@[simp] theorem State.updPort_withQueue (n : PortNo) (f : Port → Port) :
    (s.withQueue q).updPort n f = (s.updPort n f).withQueue q := rfl
@[simp] theorem State.push_withQueue (n : PortNo) (e : ResponseEntry) : (s.withQueue q).push n e = (s.push n e).withQueue q := rfl
@[simp] theorem State.respond_withQueue (n : PortNo) (c : PortCode) (g : Byte) (a : PortAnswer) :
    (s.withQueue q).respond n c g a = (s.respond n c g a).withQueue q := rfl
@[simp] theorem State.serve_withQueue (n : PortNo) : (s.withQueue q).serve n = (s.serve n).withQueue q := rfl
@[simp] theorem State.hold_withQueue (c : MgmtCode) (a : MgmtAnswer) : (s.withQueue q).hold c a = (s.hold c a).withQueue q := rfl
@[simp] theorem State.putMgmt_withQueue (m : MgmtPort) : (s.withQueue q).putMgmt m = (s.putMgmt m).withQueue q := rfl
@[simp] theorem State.arm_withQueue (d : LocalTime) (w : Work) : (s.withQueue q).arm d w = (s.arm d w).withQueue q := rfl
@[simp] theorem State.updRecord_withQueue (h : Handle) (f : Record → Record) :
    (s.withQueue q).updRecord h f = (s.updRecord h f).withQueue q := by
  simp only [State.updRecord, State.current_withQueue]; split <;> rfl
@[simp] theorem State.updClock_withQueue (h : Handle) (f : ClockRecord → ClockRecord) :
    (s.withQueue q).updClock h f = (s.updClock h f).withQueue q := by
  simp only [State.updClock, State.current_withQueue]; split <;> rfl
@[simp] theorem State.updAlias_withQueue (h : Handle) (f : AliasRecord → AliasRecord) :
    (s.withQueue q).updAlias h f = (s.updAlias h f).withQueue q := by
  simp only [State.updAlias, State.current_withQueue]; split <;> rfl
@[simp] theorem State.setPhase_withQueue (h : Handle) (ph : Phase) :
    (s.withQueue q).setPhase h ph = (s.setPhase h ph).withQueue q := by
  simp only [State.setPhase, State.current_withQueue]; split <;> rfl


/-- The list and the map can be written before or after the queue. -/
theorem State.withDeadlines_withQueue (l : List DeadlineEntry) :
    { s.withQueue q with deadlines := l } = { s with deadlines := l }.withQueue q := rfl
theorem State.withBindings_withQueue (l : List Binding) :
    { s.withQueue q with bindings := l } = { s with bindings := l }.withQueue q := rfl

@[simp] theorem State.raiseAliasCount_withQueue (h : Handle) :
    (s.withQueue q).raiseAliasCount h = (s.raiseAliasCount h).withQueue q := State.updClock_withQueue s q h _
@[simp] theorem State.lowerAliasCount_withQueue (h : Handle) :
    (s.withQueue q).lowerAliasCount h = (s.lowerAliasCount h).withQueue q := State.updClock_withQueue s q h _
@[simp] theorem State.lowerWakeCount_withQueue (h : Handle) :
    (s.withQueue q).lowerWakeCount h = (s.lowerWakeCount h).withQueue q := State.updClock_withQueue s q h _
@[simp] theorem State.enterRetired_withQueue (i : SlotNo) :
    (s.withQueue q).enterRetired i = (s.enterRetired i).withQueue q := by
  simp only [State.enterRetired, State.slot_withQueue]; split <;> simp
@[simp] theorem State.giveUpLease_withQueue (k : LeaseNo) (l : Lease) :
    (s.withQueue q).giveUpLease k l = (s.giveUpLease k l).withQueue q := by
  simp only [State.giveUpLease, State.putLease_withQueue, State.updRecord_withQueue, State.current_withQueue]
  (repeat' split) <;> simp
@[simp] theorem State.revokeLease_withQueue (h : Handle) (k : LeaseNo) :
    State.revokeLease h (s.withQueue q) k = (State.revokeLease h s k).withQueue q := by
  simp only [State.revokeLease, State.lease_withQueue]; (repeat' split) <;> simp
@[simp] theorem State.revokeAll_withQueue (h : Handle) : (s.withQueue q).revokeAll h = (s.revokeAll h).withQueue q := by
  simp [State.revokeAll, foldl_withQueue]
@[simp] theorem State.endWake_withQueue (x : Ending) (e : DeadlineEntry) :
    State.endWake x (s.withQueue q) e = (State.endWake x s e).withQueue q := by
  unfold State.endWake; split <;> simp
@[simp] theorem State.endWakes_withQueue (h : Handle) (x : Ending) :
    (s.withQueue q).endWakes h x = (s.endWakes h x).withQueue q := by
  unfold State.endWakes
  rw [State.withDeadlines_withQueue]
  simp [foldl_withQueue]
@[simp] theorem State.dropSplice_withQueue (e : DeadlineEntry) (h n : Handle) :
    (s.withQueue q).dropSplice e h n = (s.dropSplice e h n).withQueue q := by
  unfold State.dropSplice
  rw [State.withDeadlines_withQueue]
  simp
@[simp] theorem State.tellSplice_withQueue (o : Origin) (x : Ending) (b : SpliceBody) :
    (s.withQueue q).tellSplice o x b = (s.tellSplice o x b).withQueue q := by
  unfold State.tellSplice; split <;> simp

end

end Sys2Proof.Machine
end

section
/-! SUPPORT. No operation of the part reads the queue or moves it, so every command commutes with a change of the queue (log
entry 5) and has a next state (log entry 2). This settles O2 and, with the queue's own step, O1. -/

namespace Sys2Proof.Machine

section
variable (s : State) (q : List Instr)

/-! ## The Reference Intake and its requests -/

@[simp] theorem bindTag_withQueue (i : Byte) (g : StreamTag) (h : Handle) (r : Role) :
    bindTag i g h r (s.withQueue q) = (bindTag i g h r s).withQueue q := by
  unfold bindTag
  simp only [checkBind_withQueue, ↓State.withBindings_withQueue]
  split <;> simp
@[simp] theorem removeBinding_withQueue (b : Binding) : removeBinding b (s.withQueue q) = (removeBinding b s).withQueue q := by
  unfold removeBinding
  simp only [↓State.withBindings_withQueue, State.activeOf_withQueue]
  simp [State.ite_withQueue]
@[simp] theorem unbindTag_withQueue (i : Byte) (g : StreamTag) :
    unbindTag i g (s.withQueue q) = (unbindTag i g s).withQueue q := by
  simp only [unbindTag, State.binding_withQueue]; (repeat' split) <;> simp
@[simp] theorem setInputOffset_withQueue (i : Byte) (o : Int) :
    setInputOffset i o (s.withQueue q) = (setInputOffset i o s).withQueue q := by
  unfold setInputOffset; (repeat' split) <;> simp
@[simp] theorem startFrame_withQueue (n : InputNo) : startFrame n (s.withQueue q) = (startFrame n s).withQueue q := by
  simp only [startFrame, State.input_withQueue]; split <;> simp
@[simp] theorem sampleInputBit_withQueue (n : InputNo) (b : Bool) :
    sampleInputBit n b (s.withQueue q) = (sampleInputBit n b s).withQueue q := by
  simp only [sampleInputBit, State.input_withQueue]; split <;> simp
@[simp] theorem holdSample_withQueue (n : InputNo) (x : Sample) :
    holdSample n x (s.withQueue q) = (holdSample n x s).withQueue q := rfl
@[simp] theorem takeFrame_withQueue (n : InputNo) (k : Nat) (bits : List Bool) :
    takeFrame n k bits (s.withQueue q) = (takeFrame n k bits s).withQueue q := by
  simp only [takeFrame, State.binding_withQueue]; (repeat' split) <;> simp
@[simp] theorem endFrame_withQueue (n : InputNo) : endFrame n (s.withQueue q) = (endFrame n s).withQueue q := by
  simp only [endFrame, State.input_withQueue]; split <;> simp
@[simp] theorem unblockReceiver_withQueue (n : InputNo) :
    unblockReceiver n (s.withQueue q) = (unblockReceiver n s).withQueue q := by
  simp only [unblockReceiver, State.input_withQueue]; split <;> simp

/-! ## The Deadline Unit -/

@[simp] theorem recomputeWake_withQueue (c : ClockRecord) (e : DeadlineEntry) :
    recomputeWake c (s.withQueue q) e = (recomputeWake c s e).withQueue q := by
  simp only [recomputeWake, State.lt_withQueue, ↓State.withDeadlines_withQueue]; (repeat' split) <;> simp
@[simp] theorem recomputeAll_withQueue (h : Handle) (c : ClockRecord) :
    recomputeAll h c (s.withQueue q) = (recomputeAll h c s).withQueue q := by
  unfold recomputeAll
  rw [State.withDeadlines_withQueue]
  simp [foldl_withQueue]
@[simp] theorem takeUpdateNotice_withQueue (i : SlotNo) :
    takeUpdateNotice i (s.withQueue q) = (takeUpdateNotice i s).withQueue q := by
  simp only [takeUpdateNotice, State.handleOf_withQueue, State.clock_withQueue]; (repeat' split) <;> simp
@[simp] theorem fireWake_withQueue (e : DeadlineEntry) (n : PortNo) (g : Byte) (b : Handle) (p : RefValue) :
    fireWake e n g b p (s.withQueue q) = (fireWake e n g b p s).withQueue q := by
  simp [fireWake]
@[simp] theorem takeWakeExpiry_withQueue : takeWakeExpiry (s.withQueue q) = (takeWakeExpiry s).withQueue q := by
  simp only [takeWakeExpiry, State.deadlines_withQueue, State.lt_withQueue, ↓State.withDeadlines_withQueue]
  (repeat' split) <;> simp [*]
@[simp] theorem executeSplice_withQueue (e : DeadlineEntry) (o : Origin) (h n : Handle) :
    executeSplice e o h n (s.withQueue q) = (executeSplice e o h n s).withQueue q := by
  simp only [executeSplice, State.current_withQueue]; (repeat' split) <;> simp
@[simp] theorem takeSpliceExpiry_withQueue : takeSpliceExpiry (s.withQueue q) = (takeSpliceExpiry s).withQueue q := by
  simp only [takeSpliceExpiry, State.deadlines_withQueue, State.lt_withQueue, ↓State.withDeadlines_withQueue]
  (repeat' split) <;> simp [*]
@[simp] theorem answerWake_withQueue (n : PortNo) (g : Byte) (h : Handle) (p : RefValue) (d : WakeDecision) :
    answerWake n g h p d (s.withQueue q) = (answerWake n g h p d s).withQueue q := by
  unfold answerWake; split <;> simp
@[simp] theorem cancelEntry_withQueue (e : DeadlineEntry) (n : PortNo) :
    cancelEntry e n (s.withQueue q) = (cancelEntry e n s).withQueue q := by
  simp only [cancelEntry, ↓State.withDeadlines_withQueue]; split <;> simp
@[simp] theorem cancelTag_withQueue (n : PortNo) (g x : Byte) :
    cancelTag n g x (s.withQueue q) = (cancelTag n g x s).withQueue q := by
  simp only [cancelTag, State.deadlines_withQueue]; split <;> simp

/-! ## The Estimator -/

@[simp] theorem applySample_withQueue (x : Sample) (c : ClockRecord) :
    applySample x c (s.withQueue q) = (applySample x c s).withQueue q := by
  unfold applySample; dsimp only; split <;> simp
@[simp] theorem useSample_withQueue (x : Sample) : useSample x (s.withQueue q) = (useSample x s).withQueue q := by
  simp only [useSample, State.liveClock_withQueue, State.roleBound_withQueue]; split <;> simp [State.ite_withQueue]
@[simp] theorem takeSample_withQueue : takeSample (s.withQueue q) = (takeSample s).withQueue q := by
  simp only [takeSample, State.nextSample_withQueue]
  split
  · rfl
  next n x _ => exact useSample_withQueue (s.afterTake n) q x
@[simp] theorem enterStale_withQueue (h : Handle) : enterStale h (s.withQueue q) = (enterStale h s).withQueue q := by
  simp [enterStale]
@[simp] theorem silenceExpired_withQueue (h : Handle) (c : ClockRecord) :
    silenceExpired h c (s.withQueue q) = (silenceExpired h c s).withQueue q := by
  simp only [silenceExpired, switchRole_withQueue]; (repeat' split) <;> simp
@[simp] theorem takeSilenceExpiry_withQueue (i : SlotNo) :
    takeSilenceExpiry i (s.withQueue q) = (takeSilenceExpiry i s).withQueue q := by
  simp only [takeSilenceExpiry, State.handleOf_withQueue, State.liveClock_withQueue]; (repeat' split) <;> simp_all
@[simp] theorem takeHoldoverExpiry_withQueue (i : SlotNo) :
    takeHoldoverExpiry i (s.withQueue q) = (takeHoldoverExpiry i s).withQueue q := by
  simp only [takeHoldoverExpiry, State.handleOf_withQueue, State.liveClock_withQueue]; (repeat' split) <;> simp_all
@[simp] theorem setAnchor_withQueue (h : Handle) (v : RefValue) (r : Int) :
    setAnchor h v r (s.withQueue q) = (setAnchor h v r s).withQueue q := by
  simp only [setAnchor, checkClock_withQueue]; (repeat' split) <;> simp
@[simp] theorem selectSource_withQueue (h : Handle) (r : Role) :
    selectSource h r (s.withQueue q) = (selectSource h r s).withQueue q := by
  simp only [selectSource, checkClock_withQueue, State.roleBound_withQueue]; split <;> simp [State.ite_withQueue]

/-! ## Leases, retargeting and splicing -/

@[simp] theorem grantLease_withQueue (k : LeaseNo) (n : PortNo) (g : Byte) (r : Resolved) :
    grantLease k n g r (s.withQueue q) = (grantLease k n g r s).withQueue q := by
  simp [grantLease]
@[simp] theorem takeLease_withQueue (n : PortNo) (g : Byte) (h : Handle) :
    takeLease n g h (s.withQueue q) = (takeLease n g h s).withQueue q := by
  simp only [takeLease, State.port_withQueue, resolve_withQueue, State.freeLease_withQueue]
  split
  · simp
  · by_cases full : Config.leaseUseLimit ≤ (s.port n).leaseUse
    · simp [full]
    · simp only [full, if_false]
      split <;> simp
@[simp] theorem takeRelease_withQueue (n : PortNo) (g x : Byte) :
    takeRelease n g x (s.withQueue q) = (takeRelease n g x s).withQueue q := by
  simp only [takeRelease, State.leaseHeldBy_withQueue]; split <;> simp
@[simp] theorem moveAlias_withQueue (h : Handle) (a : AliasRecord) (n : Handle) :
    moveAlias h a n (s.withQueue q) = (moveAlias h a n s).withQueue q := by
  simp [moveAlias]
@[simp] theorem takeRetarget_withQueue (n : PortNo) (g : Byte) (h x : Handle) :
    takeRetarget n g h x (s.withQueue q) = (takeRetarget n g h x s).withQueue q := by
  simp only [takeRetarget, State.port_withQueue, checkAliasFromPort_withQueue, checkMove_withQueue]
  (repeat' split) <;> simp
@[simp] theorem mgmtRetarget_withQueue (h x : Handle) :
    mgmtRetarget h x (s.withQueue q) = (mgmtRetarget h x s).withQueue q := by
  simp only [mgmtRetarget, checkAliasFromMgmt_withQueue, checkMove_withQueue]; (repeat' split) <;> simp
@[simp] theorem armSplice_withQueue (o : Origin) (h x : Handle) (d : LocalTime) :
    armSplice o h x d (s.withQueue q) = (armSplice o h x d s).withQueue q := by
  simp [armSplice]
@[simp] theorem takeSplice_withQueue (n : PortNo) (g : Byte) (h x : Handle) (d : LocalTime) :
    takeSplice n g h x d (s.withQueue q) = (takeSplice n g h x d s).withQueue q := by
  simp only [takeSplice, State.port_withQueue, checkAliasFromPort_withQueue, checkMove_withQueue, State.lt_withQueue,
    State.listFull_withQueue]
  (repeat' split) <;> simp [*, State.ite_withQueue]
@[simp] theorem mgmtSplice_withQueue (h x : Handle) (d : LocalTime) :
    mgmtSplice h x d (s.withQueue q) = (mgmtSplice h x d s).withQueue q := by
  simp only [mgmtSplice, checkAliasFromMgmt_withQueue, checkMove_withQueue, State.lt_withQueue, State.listFull_withQueue]
  (repeat' split) <;> simp [*, State.ite_withQueue]
@[simp] theorem withdrawSplice_withQueue (h : Handle) (e : DeadlineEntry) (o : Origin) (x : Handle) :
    withdrawSplice h e o x (s.withQueue q) = (withdrawSplice h e o x s).withQueue q := by
  simp [withdrawSplice]
@[simp] theorem takeUnsplice_withQueue (n : PortNo) (g : Byte) (h : Handle) :
    takeUnsplice n g h (s.withQueue q) = (takeUnsplice n g h s).withQueue q := by
  simp only [takeUnsplice, State.port_withQueue, checkAliasFromPort_withQueue, State.pendingEntry_withQueue]
  (repeat' split) <;> simp
@[simp] theorem mgmtUnsplice_withQueue (h : Handle) : mgmtUnsplice h (s.withQueue q) = (mgmtUnsplice h s).withQueue q := by
  simp only [mgmtUnsplice, checkAliasFromMgmt_withQueue, State.pendingEntry_withQueue]; (repeat' split) <;> simp

/-! ## The management port -/

@[simp] theorem selectMgmt_withQueue : selectMgmt (s.withQueue q) = (selectMgmt s).withQueue q := by
  simp only [selectMgmt, State.mgmt_withQueue]; split <;> simp
@[simp] theorem setPortLevel_withQueue (p l : Byte) :
    setPortLevel p l (s.withQueue q) = (setPortLevel p l s).withQueue q := by
  unfold setPortLevel; (repeat' split) <;> simp
@[simp] theorem readPort_withQueue (p : Byte) : readPort p (s.withQueue q) = (readPort p s).withQueue q := by
  unfold readPort; split <;> simp
@[simp] theorem forgetEntry_withQueue (e : DeadlineEntry) :
    forgetEntry (s.withQueue q) e = (forgetEntry s e).withQueue q := by
  unfold forgetEntry; split <;> simp
@[simp] theorem forgetEntries_withQueue (n : PortNo) :
    forgetEntries n (s.withQueue q) = (forgetEntries n s).withQueue q := by
  unfold forgetEntries
  rw [State.withDeadlines_withQueue]
  simp [foldl_withQueue]
@[simp] theorem giveUpIfHeldBy_withQueue (n : PortNo) (k : LeaseNo) :
    giveUpIfHeldBy n (s.withQueue q) k = (giveUpIfHeldBy n s k).withQueue q := by
  simp only [giveUpIfHeldBy, State.lease_withQueue]; (repeat' split) <;> simp
@[simp] theorem giveUpLeases_withQueue (n : PortNo) :
    giveUpLeases n (s.withQueue q) = (giveUpLeases n s).withQueue q := by
  simp [giveUpLeases, foldl_withQueue]
@[simp] theorem portReset_withQueue (p : Byte) : portReset p (s.withQueue q) = (portReset p s).withQueue q := by
  unfold portReset; split <;> simp
@[simp] theorem setMask_withQueue (k : BitVec 14) : setMask k (s.withQueue q) = (setMask k s).withQueue q := rfl
@[simp] theorem nextNotice_withQueue : nextNotice (s.withQueue q) = (nextNotice s).withQueue q := by
  simp only [nextNotice, State.noticedInput_withQueue, State.noticedSlot_withQueue]; (repeat' split) <;> simp
@[simp] theorem purgeAll_withQueue : purgeAll (s.withQueue q) = (purgeAll s).withQueue q := rfl

/-! ## The Table Controller -/

@[simp] theorem createClock_withQueue : createClock (s.withQueue q) = (createClock s).withQueue q := by
  simp only [createClock, State.freeSlot_withQueue]; split <;> simp
@[simp] theorem createAlias_withQueue (h : Handle) : createAlias h (s.withQueue q) = (createAlias h s).withQueue q := by
  simp only [createAlias, checkClock_withQueue, State.freeSlot_withQueue]; (repeat' split) <;> simp
@[simp] theorem configure_withQueue (h : Handle) (cs : List Change) :
    configure h cs (s.withQueue q) = (configure h cs s).withQueue q := by
  simp only [configure, checkHandle_withQueue]; (repeat' split) <;> simp
@[simp] theorem enable_withQueue (h : Handle) : enable h (s.withQueue q) = (enable h s).withQueue q := by
  simp only [enable, checkHandle_withQueue]; (repeat' split) <;> simp
@[simp] theorem detach_withQueue (h : Handle) (r : Record) : detach h r (s.withQueue q) = (detach h r s).withQueue q := by
  simp only [detach, State.pendingEntry_withQueue, ↓State.withBindings_withQueue]; (repeat' split) <;> simp
@[simp] theorem retireRecord_withQueue (h : Handle) (ph : Phase) (r : Record) (m : RetireMode) :
    retireRecord h ph r m (s.withQueue q) =
      ((retireRecord h ph r m s).1.withQueue q, (retireRecord h ph r m s).2) := by
  unfold retireRecord; dsimp only; (repeat' split) <;> simp
@[simp] theorem retire_withQueue (h : Handle) (m : RetireMode) :
    retire h m (s.withQueue q) = (retire h m s).withQueue q := by
  simp only [retire, checkHandle_withQueue]; (repeat' split) <;> simp
@[simp] theorem takeDrainExpiry_withQueue (i : SlotNo) :
    takeDrainExpiry i (s.withQueue q) = (takeDrainExpiry i s).withQueue q := by
  simp only [takeDrainExpiry, State.slot_withQueue]; (repeat' split) <;> simp_all
@[simp] theorem readRecord_withQueue (n : Byte) : readRecord n (s.withQueue q) = (readRecord n s).withQueue q := by
  unfold readRecord; split <;> simp

end

/-! ## Every command -/

variable {s : State} {q : List Instr} {c : Instr}

/-- The command has a next state, and with another queue the same one but for that queue (log entries 2, 5). -/
def Completes (c : Instr) (s : State) (q : List Instr) : Prop :=
  ∃ t, exec c s = .next t ∧ exec c (s.withQueue q) = .next (t.withQueue q)

/-- An event completes where what the part takes of it is blind to the queue. -/
theorem completes_of_taken {f : State → State} (blind : f (s.withQueue q) = (f s).withQueue q)
    (meaning : ∀ s, exec c s = taken s (f s)) : Completes c s q := by
  refine ⟨if s.rstLow then s else f s, meaning s, ?_⟩
  rw [meaning, blind, State.ite_withQueue]
  rfl

/-- Every command completes: a reset by what it writes, an edge, an expiry and a take by the operation they are, an evaluation
and an owner's event by the operation its request's code selects. -/
theorem exec_completes (c : Instr) (s : State) (q : List Instr) : Completes c s q := by
  have event {f : State → State} (blind : f (s.withQueue q) = (f s).withQueue q)
      (meaning : ∀ s, exec c s = taken s (f s)) : Completes c s q := completes_of_taken blind meaning
  have portEdge (n : PortNo) (f : Port → Port) (meaning : ∀ s, exec c s = taken s (s.updPort n f)) : Completes c s q :=
    completes_of_taken rfl meaning
  have mgmtEdge (f : MgmtPort → MgmtPort) (meaning : ∀ s, exec c s = taken s (s.putMgmt (f s.mgmt))) : Completes c s q :=
    completes_of_taken rfl meaning
  cases c with
  | lclkTick => exact event (f := fun s => { s with lt := s.lt + 1 }) rfl fun _ => rfl
  | hardReset => exact ⟨hardReset s, rfl, rfl⟩
  | resetRelease a b m =>
    refine ⟨if s.rstLow then releaseReset a b m s else s, rfl, ?_⟩
    rw [State.ite_withQueue]
    rfl
  | frameStart n => exact event (startFrame_withQueue s q n) fun _ => rfl
  | receiverUnblock n => exact event (unblockReceiver_withQueue s q n) fun _ => rfl
  | frameEnd n => exact event (endFrame_withQueue s q n) fun _ => rfl
  | inputBitSampled n b => exact event (sampleInputBit_withQueue s q n b) fun _ => rfl
  | sampleTake => exact event (takeSample_withQueue s q) fun _ => rfl
  | silenceExpiry i => exact event (takeSilenceExpiry_withQueue s q i) fun _ => rfl
  | holdoverExpiry i => exact event (takeHoldoverExpiry_withQueue s q i) fun _ => rfl
  | updateNotice i => exact event (takeUpdateNotice_withQueue s q i) fun _ => rfl
  | wakeExpiry => exact event (takeWakeExpiry_withQueue s q) fun _ => rfl
  | spliceExpiry => exact event (takeSpliceExpiry_withQueue s q) fun _ => rfl
  | drainExpiry i => exact event (takeDrainExpiry_withQueue s q i) fun _ => rfl
  | querySelect n => exact portEdge n selectPort fun _ => rfl
  | queryBitSampled n b => exact portEdge n (samplePortBit b) fun _ => rfl
  | queryFetchSelect n => exact portEdge n completeFetchKind fun _ => rfl
  | queryRequestEnd n => exact portEdge n endRequest fun _ => rfl
  | queryFetchEnd n => exact portEdge n endFetch fun _ => rfl
  | queryPortUnblock n => exact portEdge n unblockPort fun _ => rfl
  | mgmtSelect => exact event (selectMgmt_withQueue s q) fun _ => rfl
  | mgmtBitSampled b => exact mgmtEdge (sampleMgmtBit b) fun _ => rfl
  | mgmtFetchSelect => exact mgmtEdge completeMgmtFetchKind fun _ => rfl
  | mgmtRequestEnd => exact mgmtEdge endMgmtRequest fun _ => rfl
  | mgmtFetchEnd => exact mgmtEdge endMgmtFetch fun _ => rfl
  | mgmtPortUnblock => exact mgmtEdge unblockMgmt fun _ => rfl
  | convert | invert | status | due | wake | lease | release | cancel | retarget | splice | unsplice =>
    refine event ?_ fun _ => rfl
    simp only [State.granted_withQueue]
    split <;> simp
  | createClock | createAlias | configure | enable | retire | readRecord | bind | unbind | setInputOffset | setAnchor
  | selectSource | setPortLevel | portReset | readPort | mgmtRetarget | mgmtSplice | mgmtUnsplice | readIdentity
  | readTime | setMask | nextNotice | purge =>
    refine event ?_ fun _ => rfl
    simp only [State.inProgress_withQueue]
    split <;> simp

/-- Settles O2: `exec_completes` with the queue asked for, and with the state's own queue, which it then leaves. -/
theorem everyCommandCompletes : Obligations.EveryCommandCompletes := by
  intro c s q
  obtain ⟨t, own, other⟩ := exec_completes c s q
  refine ⟨t, own, ?_, other⟩
  obtain ⟨u, -, kept⟩ := exec_completes c s s.pending
  rw [State.withQueue_pending, own] at kept
  cases kept
  rfl

/-! ## The queue's own step -/

/-- Settles O1: the two cases of the queue. -/
theorem stepTakesFrontCommand : Obligations.StepTakesFrontCommand := by
  refine ⟨fun s c rest front => ?_, fun s empty => ?_⟩
  · unfold step
    rw [front]
  · unfold step
    rw [empty]

end Sys2Proof.Machine
end

section
/-! SUPPORT. Commands whose cause has not come about: each leaves the state as it was (log entry 2). This settles O6. -/

namespace Sys2Proof.Machine

variable {s : State} {n : InputNo} {m : PortNo} {p : Port} {i : SlotNo} {e : DeadlineEntry} {rest : List DeadlineEntry}
  {x : MgmtPort}

/-- An event that would leave the state as it was leaves it so with RST_N low too. -/
theorem taken_of_eq {u : State} (same : u = s) : taken s u = .next s := by
  rw [same]
  exact taken_self s

theorem exec_resetRelease_high (high : s.rstLow = false) (a b : BitVec 4) (c : Bool) :
    exec (.resetRelease a b c) s = .next s := by
  change Host.Outcome.next (if s.rstLow then releaseReset a b c s else s) = _
  simp [high]

theorem not_reached {d now : LocalTime} (before : timeDiff d now < 0) : reached d now = false := by
  simpa [reached] using before

/-! ## The Reference Intake (R56, R57) -/

theorem startFrame_of_not_idle (busy : (s.input n).receiver ≠ .idle) : startFrame n s = s := by
  unfold startFrame
  split
  next idle => exact absurd idle busy
  all_goals rfl

theorem unblockReceiver_of_not_blocked (other : (s.input n).receiver ≠ .blocked) : unblockReceiver n s = s := by
  unfold unblockReceiver
  split
  next blocked => exact absurd blocked other
  all_goals rfl

theorem endFrame_of_not_assembling (unassembled : ∀ k bits, (s.input n).receiver ≠ .assembling k bits) : endFrame n s = s := by
  unfold endFrame
  split
  next assembling => exact absurd assembling (unassembled _ _)
  all_goals rfl

theorem sampleInputBit_of_not_assembling (unassembled : ∀ k bits, (s.input n).receiver ≠ .assembling k bits) (b : Bool) :
    sampleInputBit n b s = s := by
  unfold sampleInputBit
  split
  next assembling => exact absurd assembling (unassembled _ _)
  all_goals rfl

/-! ## The Estimator and the Table Controller (R4, R33, R63, R89, R91) -/

theorem takeSample_of_none_held (empty : ∀ n, (s.input n).holding = none) : takeSample s = s := by
  have nothing : s.nextSample = none := by simp [State.nextSample, empty]
  unfold takeSample
  rw [nothing]

theorem takeSilenceExpiry_of_not_reached (before : ∀ c d, s.current (s.handleOf i) = some (.live, .ofClock c) →
    c.silence = some d → timeDiff d.deadline s.lt < 0) : takeSilenceExpiry i s = s := by
  unfold takeSilenceExpiry
  split
  · rfl
  next c live =>
    split
    · rfl
    next d silence => rw [not_reached (before c d (liveClock_eq_some.1 live) silence)]; rfl

theorem takeHoldoverExpiry_of_not_reached (before : ∀ c d, s.current (s.handleOf i) = some (.live, .ofClock c) →
    c.holdover = some d → timeDiff d.deadline s.lt < 0) : takeHoldoverExpiry i s = s := by
  unfold takeHoldoverExpiry
  split
  · rfl
  next c live =>
    split
    · rfl
    next d holdover => rw [not_reached (before c d (liveClock_eq_some.1 live) holdover)]; rfl

theorem takeDrainExpiry_of_not_reached (before : ∀ d r, (s.slot i).content = .active (.draining d) r → timeDiff d s.lt < 0) :
    takeDrainExpiry i s = s := by
  unfold takeDrainExpiry
  split
  next d r content => rw [not_reached (before d r content)]; rfl
  all_goals rfl

/-! ## The Deadline Unit (R142, R146) -/

theorem takeUpdateNotice_of_unmarked (unmarked : ∀ ph c, s.current (s.handleOf i) = some (ph, .ofClock c) →
    c.updatePending = false) : takeUpdateNotice i s = s := by
  unfold takeUpdateNotice
  split
  · rfl
  next c clock =>
    obtain ⟨ph, current⟩ := clock_eq_some clock
    rw [unmarked ph c current]
    rfl

theorem takeWakeExpiry_of_not_reached (before : ∀ e rest, s.deadlines = e :: rest → timeDiff e.due s.lt < 0) :
    takeWakeExpiry s = s := by
  unfold takeWakeExpiry
  split
  · rfl
  next e rest list =>
    split
    · rfl
    · rw [not_reached (before e rest list)]; rfl

theorem takeSpliceExpiry_of_not_reached (before : ∀ e rest, s.deadlines = e :: rest → timeDiff e.due s.lt < 0) :
    takeSpliceExpiry s = s := by
  unfold takeSpliceExpiry
  split
  · rfl
  next e rest list =>
    split
    · rfl
    · rw [not_reached (before e rest list)]; rfl

theorem takeWakeExpiry_of_splice {o : Origin} {h k : Handle} (list : s.deadlines = e :: rest) (work : e.work = .splice o h k) :
    takeWakeExpiry s = s := by
  simp [takeWakeExpiry, list, work]

theorem takeSpliceExpiry_of_wake {tag : Byte} {h b : Handle} {v : RefValue} (list : s.deadlines = e :: rest)
    (work : e.work = .wake m tag h b v) : takeSpliceExpiry s = s := by
  simp [takeSpliceExpiry, list, work]

/-! ## Transactions (R101, R110, R111, R175, R180) -/

section
variable {σ : Type} {x : Transaction σ}

theorem Transaction.sample_of_closed (closed : x.state = .idle ∨ x.state = .blocked) (longest : Nat) (sel : Option σ)
    (b : Bool) : x.sample longest sel b = x := by
  cases x with
  | idle | blocked => rfl
  | kind | request | fetch => simp [Transaction.state] at closed

theorem Transaction.awaitsFetchBit_of_not_kind (other : x.state ≠ .kind) : x.awaitsFetchBit = false := by
  cases x with
  | kind => exact absurd rfl other
  | idle | request | fetch | blocked => rfl

end

theorem State.updPort_of_eq {f : Port → Port} (same : f (s.port m) = s.port m) : s.updPort m f = s := by
  have ports : s.ports.set m.val (f (s.port m)) = s.ports := by
    rw [same]
    exact Vector.set_getElem_self _
  exact congrArg (fun v => { s with ports := v }) ports

theorem selectPort_of_not_idle (busy : p.tx.state ≠ .idle) : selectPort p = p := by
  unfold selectPort
  split
  next idle => exact absurd (congrArg Transaction.state idle) busy
  all_goals rfl

theorem samplePortBit_of_closed (closed : p.tx.state = .idle ∨ p.tx.state = .blocked) (b : Bool) : samplePortBit b p = p :=
  congrArg (fun x => { p with tx := x }) (Transaction.sample_of_closed closed _ _ b)

theorem completeFetchKind_of_not_kind (other : p.tx.state ≠ .kind) : completeFetchKind p = p := by
  unfold completeFetchKind
  rw [Transaction.awaitsFetchBit_of_not_kind other]
  rfl

theorem endRequest_of_other (kind : p.tx.state ≠ .kind) (request : p.tx.state ≠ .request) : endRequest p = p := by
  unfold endRequest
  split
  next tx => exact absurd (congrArg Transaction.state tx) kind
  next tx => exact absurd (congrArg Transaction.state tx) kind
  next tx => exact absurd (congrArg Transaction.state tx) request
  all_goals rfl

theorem endFetch_of_not_fetch (other : p.tx.state ≠ .fetch) : endFetch p = p := by
  unfold endFetch
  split
  next fetch => exact absurd (congrArg Transaction.state fetch) other
  all_goals rfl

theorem unblockPort_of_not_blocked (other : p.tx.state ≠ .blocked) : unblockPort p = p := by
  unfold unblockPort
  split
  next blocked => exact absurd (congrArg Transaction.state blocked) other
  all_goals rfl

theorem selectMgmt_of_not_idle (busy : s.mgmt.tx.state ≠ .idle) : selectMgmt s = s := by
  unfold selectMgmt
  split
  next idle => exact absurd (congrArg Transaction.state idle) busy
  all_goals rfl

theorem sampleMgmtBit_of_closed (closed : x.tx.state = .idle ∨ x.tx.state = .blocked) (b : Bool) : sampleMgmtBit b x = x :=
  congrArg (fun y => { x with tx := y }) (Transaction.sample_of_closed closed _ _ b)

theorem completeMgmtFetchKind_of_not_kind (other : x.tx.state ≠ .kind) : completeMgmtFetchKind x = x := by
  unfold completeMgmtFetchKind
  rw [Transaction.awaitsFetchBit_of_not_kind other]
  rfl

theorem endMgmtRequest_of_other (kind : x.tx.state ≠ .kind) (request : x.tx.state ≠ .request) : endMgmtRequest x = x := by
  unfold endMgmtRequest
  split
  next tx => exact absurd (congrArg Transaction.state tx) kind
  next tx => exact absurd (congrArg Transaction.state tx) kind
  next tx => exact absurd (congrArg Transaction.state tx) request
  all_goals rfl

theorem endMgmtFetch_of_not_fetch (other : x.tx.state ≠ .fetch) : endMgmtFetch x = x := by
  unfold endMgmtFetch
  split
  next fetch => exact absurd (congrArg Transaction.state fetch) other
  all_goals rfl

theorem unblockMgmt_of_not_blocked (other : x.tx.state ≠ .blocked) : unblockMgmt x = x := by
  unfold unblockMgmt
  split
  next blocked => exact absurd (congrArg Transaction.state blocked) other
  all_goals rfl

/-! ## Evaluations and owners' events (R107, R178) -/

/-- An evaluation does nothing where the request granted next has another code. -/
theorem exec_evaluation_of_other {x : Instr × PortCode} (mem : x ∈ evaluations)
    (other : ∀ n q, s.granted = some (n, q) → q.request.code ≠ x.2) : exec x.1 s = .next s := by
  simp only [evaluations, List.mem_cons, List.not_mem_nil, or_false] at mem
  obtain rfl | rfl | rfl | rfl | rfl | rfl | rfl | rfl | rfl | rfl | rfl := mem
  all_goals
    refine taken_of_eq ?_
    split
    next granted => exact absurd rfl (other _ _ granted)
    · rfl

/-- Every management request has one owner's event. -/
theorem nodup_ownerEvents : (ownerEvents.map Prod.fst).Nodup := by decide

theorem command_mem_ownerEvents (q : MgmtRequest) : (q.command, q.code) ∈ ownerEvents := by
  cases q <;> simp [ownerEvents, MgmtRequest.command, MgmtRequest.code]

/-- An owner's event does nothing where the request in progress has another code. -/
theorem exec_owner_of_other {x : Instr × MgmtCode} (mem : x ∈ ownerEvents)
    (other : ∀ r, s.mgmt.req = .inProgress r → r.code ≠ x.2) : exec x.1 s = .next s := by
  refine exec_not_owner mem fun q progress own => other q (inProgress_eq_some.1 progress) ?_
  exact congrArg Prod.snd (List.inj_on_of_nodup_map nodup_ownerEvents (command_mem_ownerEvents q) mem own)

/-! ## The statement -/

/-- An edge of a port that would leave the port as it was is no event. -/
theorem exec_edge_of_eq {c : Instr} {f : Port → Port} (edge : exec c s = taken s (s.updPort m f))
    (same : f (s.port m) = s.port m) : exec c s = .next s :=
  edge.trans (taken_of_eq (State.updPort_of_eq same))

theorem exec_mgmtEdge_of_eq {c : Instr} (edge : exec c s = taken s (s.putMgmt x)) (same : x = s.mgmt) : exec c s = .next s :=
  edge.trans (taken_of_eq (congrArg s.putMgmt same))

/-- Settles O6: clause by clause, what the part would make of the command is the state it stands in. -/
theorem noCauseNoChange : Obligations.NoCauseNoChange := by
  intro s
  refine ⟨fun low c => exec_low low, exec_resetRelease_high,
    fun n busy => taken_of_eq (startFrame_of_not_idle busy),
    fun n other => taken_of_eq (unblockReceiver_of_not_blocked other),
    fun n unassembled => ⟨taken_of_eq (endFrame_of_not_assembling unassembled),
      fun b => taken_of_eq (sampleInputBit_of_not_assembling unassembled b)⟩,
    fun empty => taken_of_eq (takeSample_of_none_held empty),
    fun i before => taken_of_eq (takeSilenceExpiry_of_not_reached before),
    fun i before => taken_of_eq (takeHoldoverExpiry_of_not_reached before),
    fun i unmarked => taken_of_eq (takeUpdateNotice_of_unmarked unmarked),
    fun i before => taken_of_eq (takeDrainExpiry_of_not_reached before),
    fun before => ⟨taken_of_eq (takeWakeExpiry_of_not_reached before), taken_of_eq (takeSpliceExpiry_of_not_reached before)⟩,
    fun e rest list => ⟨fun _ _ _ work => taken_of_eq (takeWakeExpiry_of_splice list work),
      fun _ _ _ _ _ work => taken_of_eq (takeSpliceExpiry_of_wake list work)⟩,
    fun n => ?port, ?mgmt, fun x => exec_evaluation_of_other, fun x => exec_owner_of_other⟩
  case port =>
    exact ⟨fun busy => exec_edge_of_eq (f := selectPort) rfl (selectPort_of_not_idle busy),
      fun closed b => exec_edge_of_eq (f := samplePortBit b) rfl (samplePortBit_of_closed closed b),
      fun other => exec_edge_of_eq (f := completeFetchKind) rfl (completeFetchKind_of_not_kind other),
      fun kind request => exec_edge_of_eq (f := endRequest) rfl (endRequest_of_other kind request),
      fun other => exec_edge_of_eq (f := endFetch) rfl (endFetch_of_not_fetch other),
      fun other => exec_edge_of_eq (f := unblockPort) rfl (unblockPort_of_not_blocked other)⟩
  case mgmt =>
    exact ⟨fun busy => taken_of_eq (selectMgmt_of_not_idle busy),
      fun closed b => exec_mgmtEdge_of_eq rfl (sampleMgmtBit_of_closed closed b),
      fun other => exec_mgmtEdge_of_eq rfl (completeMgmtFetchKind_of_not_kind other),
      fun kind request => exec_mgmtEdge_of_eq rfl (endMgmtRequest_of_other kind request),
      fun other => exec_mgmtEdge_of_eq rfl (endMgmtFetch_of_not_fetch other),
      fun other => exec_mgmtEdge_of_eq rfl (unblockMgmt_of_not_blocked other)⟩

end Sys2Proof.Machine
end
